-- ==== Sys2Proof/Word.lean ====
section
/-! DEFINITION. Word.lean: the widths the spec gives its quantities, and nothing else. -/
namespace Sys2Proof

/-- A byte of a host-memory structure (chapter 12). -/
abbrev Byte := BitVec 8

/-- A 16-bit quantity: a line mask, a dead time, a command operand (chapters 3, 10, 12). -/
abbrev Half := BitVec 16

/-- A 32-bit quantity: a register of the window, a tally, a sequence number (R186, R190). -/
abbrev Word := BitVec 32

/-- A 48-bit tick count: TL and PT (R4, 1.3). -/
abbrev Time := BitVec 48

/-- A 64-bit host byte address (00_scope, Conventions). -/
abbrev Addr := BitVec 64

end Sys2Proof
end

