-- ==== Sys2Proof/Syntax.lean ====
section
/-! DEFINITION. Syntax.lean: the commands the part takes, one constructor per row of spec/opcode_table.json, and the
operands they carry. A command is what reaches the part from outside it or one of its own indivisible steps
(95_what_each_step_holds): a register write, a tick, a filtered pin change, the end of a bus transfer. -/
namespace Sys2Proof

/-- The direction of a recognized edge (R141), of a TBIN tick (R2). -/
inductive Edge where
  | rise | fall
  deriving DecidableEq, Repr

/-- The size of a register access (R190: an access of any size other than 32 bits is ignored). -/
inductive AccessSize where
  | bits8 | bits16 | bits32 | bits64
  deriving DecidableEq, Repr

/-- How a master read of `n` bytes ends: OK with the bytes read, in address order, or ERROR (R189). -/
inductive ReadResult (n : Nat) where
  | ok (data : Vector Byte n)
  | error
  deriving DecidableEq, Repr

/-- How a master write ends (R189). -/
inductive WriteResult where
  | ok | error
  deriving DecidableEq, Repr

/-- The levels on the sampled input pins: bit n of `inputs` is INn, bit n of `faults` is FLTn, 1 for HIGH (12.5). -/
structure Pins where
  inputs : BitVec 16
  faults : BitVec 4
  tbin : Bool
  deriving DecidableEq, Repr

/-- The commands: one constructor per row of spec/opcode_table.json. -/
inductive Instr where
  /-- RESET# is asserted, or power comes on (R181). -/
  | hardwareReset
  /-- A 32-bit CONTROL write with SOFT_RESET (bit 0) at 1 (R180). -/
  | softReset (value : Word)
  /-- A 32-bit CONTROL write with SOFT_RESET at 0; bit 1 is IRQ_ENABLE (R184). -/
  | irqEnable (value : Word)
  /-- A 32-bit EVENT_MASK write (R184). -/
  | eventMask (value : Word)
  /-- A 32-bit EVENTS write (R185). -/
  | eventsClear (value : Word)
  /-- A 32-bit WAKE write of any value (R190). -/
  | wake (value : Word)
  /-- Any other write to the register window, at a byte offset (R170, R190). -/
  | registerWrite (offset : Nat) (size : AccessSize) (value : Word)
  /-- CMD written with code 1 (R173). -/
  | loadContext (operand : Half)
  /-- CMD written with code 2 (R177). -/
  | stageLimits (operand : Half)
  /-- CMD written with code 3 (R85). -/
  | startProgram (operand : Half)
  /-- CMD written with code 4 and an operand other than AT_ONCE: 1 is DRAIN, any other names no mode (R88). -/
  | stopProgramDrain (operand : Half)
  /-- CMD written with code 4 and operand 2, AT_ONCE (R90). -/
  | stopProgramAtOnce
  /-- CMD written with code 5 (R100). -/
  | pause (operand : Half)
  /-- CMD written with code 6 (R101). -/
  | resume (operand : Half)
  /-- CMD written with code 7 (R118). -/
  | forceLines (operand : Half)
  /-- CMD written with code 8 (R134). -/
  | clearTrip (operand : Half)
  /-- CMD written with code 9 (R163). -/
  | journalOpen (operand : Half)
  /-- CMD written with code 10 (R164). -/
  | journalFlush (operand : Half)
  /-- CMD written with code 11 (R165). -/
  | journalClose (operand : Half)
  /-- CMD written with code 12 (R166). -/
  | stamp (operand : Half)
  /-- CMD written with code 13; operand bit 0 is CLEAR (R187). -/
  | dumpTallies (operand : Half)
  /-- CMD written with a code that names no command (R172). -/
  | unknownCommand (code : Byte) (operand : Half)
  /-- A tick from the prescale counter or from TBIN (R4). -/
  | tick
  /-- The SU takes the time-range notice of the TB (R8). -/
  | timeRange
  /-- The SU takes the advance of PT and applies the entries due at it (R67). -/
  | application
  /-- The deferred rise of OUTn falls due (R110). -/
  | deferredRiseExpiry (line : Fin 16)
  /-- The last-fall stamp of OUTn is 65,536 ticks old (R109). -/
  | lastFallDiscard (line : Fin 16)
  /-- The blank window of FLTn ends (R124). -/
  | blankEnd (input : Fin 4)
  /-- The hold of FLTn reaches its limit (R131). -/
  | holdEscalation (input : Fin 4)
  /-- The link-watch interval expires (R23). -/
  | linkWatchInterval
  /-- The sheet-recheck interval expires (R156). -/
  | sheetRecheckInterval
  /-- The flush age of the open sheet runs out (R157). -/
  | flushAge
  /-- The waiter reaches its deadline (R60). -/
  | waitTimeout
  /-- The transfer in flight has had no response within 100,000 REFCLK periods (R189). -/
  | busResponseTimeout
  /-- The filtered level of FLTn becomes asserted (R121, R124). -/
  | candidateAssertion (input : Fin 4)
  /-- The filtered level of FLTn becomes deasserted (R121, R129). -/
  | deassertion (input : Fin 4)
  /-- The filtered level of INn changes in the direction named (R141). -/
  | recognizedEdge (channel : Fin 16) (edge : Edge)
  /-- The SU admits the step at the head of the step queue (R48). -/
  | stepAdmission
  /-- A strip header read ends (R17). -/
  | stripHeaderReadComplete (result : ReadResult 32)
  /-- A step read ends; a read of one step carries it in the first 32 bytes (R20). -/
  | stepReadComplete (result : ReadResult 64)
  /-- A link re-read ends (R24). -/
  | linkRereadComplete (result : ReadResult 8)
  /-- A retire write ends (R29). -/
  | retireWriteComplete (result : WriteResult)
  /-- A sheet header read ends (R155). -/
  | sheetHeaderReadComplete (result : ReadResult 16)
  /-- A record write ends (R158). -/
  | recordWriteComplete (result : WriteResult)
  /-- A FILLED header write ends (R159). -/
  | sheetHeaderWriteComplete (result : WriteResult)
  /-- One of the four DCB reads ends; `pins` are the levels sampled if this read's end commits the context
  (R2, R150, R173). -/
  | dcbReadComplete (result : ReadResult 64) (pins : Pins)
  /-- The Limits Block read ends (R177). -/
  | limitsReadComplete (result : ReadResult 48)
  /-- A tally block write ends (R187). -/
  | tallyWriteComplete (result : WriteResult)
  /-- RESET# is released (R181). -/
  | resetRelease
  deriving DecidableEq, Repr

end Sys2Proof
end

