-- ==== Sys2Proof/Decode.lean ====
section
/-! DEFINITION. Decode.lean: spec/opcode_table.json gives no row any bits, so no word spells a command. -/
namespace Sys2Proof

/-- The command a word of the opcode table's bits spells: none, since no row gives bits (98_reader: 0 rows with
fixed bits). -/
def decodeTableWord (_nbits _w : Nat) : Option Instr := none

end Sys2Proof
end

