-- ==== Sys2Proof/Config.lean ====
section
/-! DEFINITION. Config.lean: what the part fixes: the capacities, limits and the identification word of the spec.
The spec leaves no result value of a command open, so no free value stands here (the free ORDERS of events that arrive
together are in State.oracle, log entry 1). -/
namespace Sys2Proof.Config

/-- Steps the step queue holds at most (R47). -/
def queueCapacity : Nat := 32

/-- Entries the agenda holds at most (R66). -/
def agendaCapacity : Nat := 64

/-- Records the hold FIFO holds at most (R153). -/
def fifoCapacity : Nat := 16

/-- Record places of a sheet (R157, section 9.3). -/
def sheetPlaces : Nat := 31

/-- Steps a strip holds at most (R18). -/
def maxStepCount : Nat := 63

/-- The last value of a 48-bit PT, which PT does not pass (R8). -/
def maxTime : Nat := 2 ^ 48 - 1

/-- Ticks after which a last-fall stamp is discarded (R109). -/
def lastFallLife : Nat := 65536

/-- REFCLK periods without a response after which a master transfer ends ERROR (R189). -/
def responsePeriods : Nat := 100000

/-- IDENT: part code 01A0h, revision 01h, family code 57h (12.2). -/
def identWord : Word := 0x570101A0#32

end Sys2Proof.Config
end

