-- ==== Sys2Proof/Machine/State.lean ====
section
/-! DEFINITION. State.lean: every piece of state the spec gives the part, block by block (00_scope, block diagram),
and the state after a hardware reset. -/
namespace Sys2Proof.Machine

/-! ## Timebase Unit (chapter 1) -/

/-- Where ticks come from (1.1). -/
inductive TickSource where
  | internal | external
  deriving DecidableEq, Repr

/-- A subset of FLT0 to FLT3: bit n for FLTn (the shape of the trip sources in a GUARD record, R136). -/
abbrev FaultSet := BitVec 4

/-- The Timebase Unit: the setting (1.1), the prescale counter (R1), the previous TBIN sample (R2), TL (R4), PT (R6),
the hold-cause set as HOST_PAUSE and GUARD0 to GUARD3 (R9), and the time-range notice sent and not yet taken (R8). -/
structure Timebase where
  source : TickSource
  prescale : Half
  tbinEdge : Edge
  prescaleCount : Nat
  tbinPrevious : Bool
  tl : Time
  pt : Time
  hostPause : Bool
  guardHolds : FaultSet
  timeRangeNotice : Bool
  deriving DecidableEq, Repr

/-! ## Limits (10.3) -/

/-- The fields of a Limits Block (10.3, 12.3). -/
structure Limits where
  deadTimes : Vector Half 8
  blankLengths : Vector Half 4
  holdLimits : Vector Word 4
  deriving DecidableEq, Repr

/-! ## Fetch Unit (chapter 2) -/

/-- The states of the FU (2.2). -/
inductive FetchState where
  | idle | fetching | watching | stopped
  deriving DecidableEq, Repr

/-- The states of an occupied tracking slot (2.5); a free slot is one the table does not list. -/
inductive SlotState where
  | fetching | fetched | retireReady
  deriving DecidableEq, Repr

/-- The outcome of a strip in its retire word (R28). -/
inductive StripOutcome where
  | played | cut | rejected
  deriving DecidableEq, Repr

/-- An occupied slot of the tracking table (2.5). -/
structure Slot where
  number : Fin 8
  state : SlotState
  address : Addr
  sequence : Word
  stepCount : Byte
  stepsFetched : Nat
  stepsAdmitted : Nat
  outstanding : Nat
  notifyRetire : Bool
  endAdmitted : Bool
  entryDiscarded : Bool
  outcome : Option StripOutcome
  deriving DecidableEq, Repr

/-- The Fetch Unit. The tracking table lists the occupied slots in chain order, oldest first, so the newest tracked
strip (the watched tail in WATCHING) is its last. -/
structure FetchUnit where
  state : FetchState
  table : List Slot
  nextAddress : Option Addr
  nextSequence : Word
  link : Addr
  rereadWanted : Bool
  watchStart : Option Time
  starvedReported : Bool
  abandoned : Bool
  doneNotice : Option Bool
  watchInterval : Word
  deriving DecidableEq, Repr

/-! ## Schedule Unit (chapters 3, 4 and 5) -/

/-- The fields of a step as fetched, not yet validated (3.1, 12.3). -/
structure Step where
  kind : Byte
  baseAnchor : Bool
  notify : Bool
  timeoutStop : Bool
  channel : Byte
  edge : Byte
  mask : Half
  pattern : Half
  delay : Word
  width : Word
  period : Word
  count : Half
  tag : Word
  timeout : Word
  deriving DecidableEq, Repr

/-- A step in the step queue, with the index of its strip's slot (R47). -/
structure QueuedStep where
  step : Step
  slot : Fin 8
  deriving DecidableEq, Repr

/-- The kinds of an agenda entry (4.1). -/
inductive EntryKind where
  | set | pulseLead | pulseTrail | trainLead | trainTrail | mark | applyLimits | endProgram
  deriving DecidableEq, Repr

/-- An agenda entry (4.1). -/
structure Entry where
  due : Time
  kind : EntryKind
  mask : Half
  pattern : Half
  width : Word
  period : Word
  remaining : Half
  tag : Word
  notify : Bool
  sequence : Word
  slot : Fin 8
  deriving DecidableEq, Repr

/-- The edge a WAIT awaits (3.1). -/
inductive WaitEdge where
  | rise | fall | either
  deriving DecidableEq, Repr

/-- The armed waiter (3.7). -/
structure Waiter where
  channel : Fin 16
  edge : WaitEdge
  deadline : Option Time
  timeoutStop : Bool
  deriving DecidableEq, Repr

/-- The program states (5.1). -/
inductive ProgramState where
  | idle | running | draining | stopping
  deriving DecidableEq, Repr

/-- The pending outcome of a program (5.1). -/
inductive ProgramOutcome where
  | none | ended | drained | stopped | tripped | faulted
  deriving DecidableEq, Repr

/-- The cause of a FAULTED outcome (5.1). -/
inductive Reason where
  | none | badLink | badStrip | badStep | lateStop | waitTimeout | busRead | busWrite | timeRange
  deriving DecidableEq, Repr

/-- The late policy of the context (3.6). -/
inductive LatePolicy where
  | apply | drop | stop
  deriving DecidableEq, Repr

/-- The Schedule Unit. The agenda lists its entries in admission order, oldest first; agenda order (R65) is this list
sorted by due time, ties kept as they stand. -/
structure ScheduleUnit where
  program : ProgramState
  outcome : ProgramOutcome
  reason : Reason
  retireIncomplete : Bool
  queue : List QueuedStep
  cursor : Time
  anchor : Time
  admissionOpen : Bool
  admissionCount : Word
  waiter : Option Waiter
  agenda : List Entry
  latePolicy : LatePolicy
  deriving DecidableEq, Repr

/-! ## Output Stage (chapter 6) -/

/-- The role of a line (R104). -/
inductive Role where
  | unused | sequenced
  deriving DecidableEq, Repr

/-- A requested level, a driven state, an idle or safe level (R104). -/
inductive Level where
  | low | high | released
  deriving DecidableEq, Repr

/-- A stop level (R104). -/
inductive StopLevel where
  | keep | low | high | released
  deriving DecidableEq, Repr

/-- A line record (R104). -/
structure Line where
  role : Role
  requested : Level
  driven : Level
  idle : Level
  stop : StopLevel
  safe : Level
  clampSet : FaultSet
  await : Bool
  covered : Bool
  lastFall : Option Time
  deferred : Option Time
  deriving DecidableEq, Repr

/-- A pair record (R105). -/
structure Pair where
  enabled : Bool
  deadTime : Half
  deriving DecidableEq, Repr

/-- The Output Stage: pair k is formed by lines 2k and 2k + 1 (R105). -/
structure OutputStage where
  lines : Vector Line 16
  pairs : Vector Pair 8
  deriving DecidableEq, Repr

/-! ## Guard Unit (chapter 7) -/

/-- The pin level that asserts a fault input (R120). -/
inductive Polarity where
  | assertedHigh | assertedLow
  deriving DecidableEq, Repr

/-- The action of a fault input (R120). -/
inductive GuardAction where
  | note | clamp | hold | trip
  deriving DecidableEq, Repr

/-- The release policy of a fault input (R120). -/
inductive ReleasePolicy where
  | onDeassert | onNextAction
  deriving DecidableEq, Repr

/-- The state of a fault input (R120). -/
inductive InputState where
  | off | quiet | active
  deriving DecidableEq, Repr

/-- A fault-input record (R120). -/
structure FaultInput where
  enable : Bool
  polarity : Polarity
  filterLength : Nat
  action : GuardAction
  clampMask : Half
  blankMask : Half
  policy : ReleasePolicy
  blankLength : Half
  holdLimit : Word
  state : InputState
  asserted : Bool
  filterRun : Nat
  blankUntil : Option Time
  holdStart : Option Time
  escalated : Bool
  deriving DecidableEq, Repr

/-- The Guard Unit: four inputs, the trip latch with its sources and mask (7.6), and the lines of a TRIP action whose
coverage notice and trip abort are sent and not yet taken (R128; taken within the same step). -/
structure GuardUnit where
  inputs : Vector FaultInput 4
  latch : Bool
  sources : FaultSet
  mask : Half
  tripNotice : Option Half
  deriving DecidableEq, Repr

/-! ## Capture Unit (chapter 8) -/

/-- The measurement mode of a channel (R139). -/
inductive CaptureMode where
  | edge | interval | width | cycle
  deriving DecidableEq, Repr

/-- The edge select of a channel (R139). -/
inductive EdgeSelect where
  | rise | fall | both
  deriving DecidableEq, Repr

/-- A channel record (R139); an invalid stamp is `none`, the filtered level is HIGH when `high`. -/
structure Channel where
  enable : Bool
  filterLength : Nat
  mode : CaptureMode
  select : EdgeSelect
  record : Bool
  decimation : Nat
  high : Bool
  filterRun : Nat
  lastLeading : Option Time
  phase : Option Time
  decimationCount : Nat
  deriving DecidableEq, Repr

/-- The Capture Unit (R139). -/
structure CaptureUnit where
  channels : Vector Channel 16
  deriving DecidableEq, Repr

/-! ## Journal Writer (chapter 9) -/

/-- The record kinds (9.1). -/
inductive RecordKind where
  | captureEdge | captureInterval | captureWidth | captureCycle | stamp | mark | late | wait | shoot | guard | limits
  | program
  deriving DecidableEq, Repr

/-- A journal record (9.1, 12.3): its source, flags and values as they stand in its bytes. -/
structure Record where
  kind : RecordKind
  source : Byte
  flags : Byte
  stamp : BitVec 40
  value1 : Word
  value2 : Word
  deriving DecidableEq, Repr

/-- The journal states (9.3); `opened` is OPEN. -/
inductive JournalState where
  | off | seeking | opened | blocked | closing | faulted
  deriving DecidableEq, Repr

/-- The close reasons of a sheet (R157). -/
inductive CloseReason where
  | full | aged | flush | closed
  deriving DecidableEq, Repr

/-- The open-sheet position (9.3): the sheet's index, the places allotted in it, how many of them are written OK, its
close reason once it is sealed, and the low 32 bits of the stamp of the record in place 0 (R159). -/
structure OpenSheet where
  index : Nat
  allotted : Nat
  written : Nat
  sealed : Option CloseReason
  firstStamp : Word
  deriving DecidableEq, Repr

/-- The Journal Writer (9.3, R168) with its part of the context. -/
structure JournalWriter where
  state : JournalState
  fifo : List Record
  sheet : Option OpenSheet
  nextIndex : Nat
  nextSequence : Word
  lostCount : Word
  readyCount : Nat
  openedMark : Bool
  loadedMark : Bool
  ageStart : Option Time
  recheckStart : Option Time
  rereadWanted : Bool
  base : Addr
  sheetCount : Nat
  batch : Nat
  recheckInterval : Word
  flushAge : Word
  deriving DecidableEq, Repr

/-! ## Command Port (chapter 10) -/

/-- The result codes (R171). -/
inductive Result where
  | ok | state | noContext | tripped | notRunning | notPaused | notTripped | stillAsserted | badArgument | badContext
  | badLimits | busError | unknownCommand
  deriving DecidableEq, Repr

/-- The command in progress: code, operand and the copy of ARG_HI and ARG_LO as one 64-bit value (R169, R170). -/
structure Command where
  code : Byte
  operand : Half
  arg : Addr
  deriving DecidableEq, Repr

/-- A staged Limits Block with its replaced mark (10.3). -/
structure StagedLimits where
  limits : Limits
  replaced : Bool
  deriving DecidableEq, Repr

/-- The snapshot of a DUMP_TALLIES (R187). -/
structure TallySnapshot where
  tl : Time
  counters : Vector Word 16
  deriving DecidableEq, Repr

/-- The Command Port (10.1, 10.3). The command state is BUSY exactly while a command is in progress (R169). `shadow` is
what a LOAD_CONTEXT has read of the DCB (R173), `snapshot` the block a DUMP_TALLIES writes (R187). -/
structure CommandPort where
  inProgress : Option Command
  lastResult : Result
  lastCode : Byte
  lastOperand : Half
  argLo : Word
  argHi : Word
  contextLoaded : Bool
  active : Limits
  staged : Option StagedLimits
  shadow : List Byte
  snapshot : Option TallySnapshot
  deriving DecidableEq, Repr

/-! ## Event Unit (chapter 11) -/

/-- The Event Unit: the pending flags and the enable bits of the thirteen causes (bit per cause, 12.4), IRQ_ENABLE, and
the sixteen tallies. -/
structure EventUnit where
  events : BitVec 13
  mask : BitVec 13
  irqEnable : Bool
  tallies : Vector Word 16
  deriving DecidableEq, Repr

/-! ## Bus Port (chapter 11) -/

/-- The retire word of a retire write (2.1): RETIRED, its outcome, the steps admitted and the retire PT. -/
structure RetireWord where
  outcome : StripOutcome
  admitted : Nat
  pt : Word
  deriving DecidableEq, Repr

/-- A FILLED sheet header (R159). -/
structure SheetHeader where
  count : Nat
  reason : CloseReason
  opened : Bool
  loaded : Bool
  sequence : Word
  lost : Word
  firstStamp : Word
  deriving DecidableEq, Repr

/-- The requesters of the master port (11.3). -/
inductive Requester where
  | jw | fu | cp
  deriving DecidableEq, Repr

/-- The master transfers (11.3), each with what it carries: the sequence of the strip a header read is for, whether a
step read fetches two steps, the data of a write. -/
inductive TransferKind where
  | stripHeaderRead (sequence : Word)
  | stepRead (two : Bool)
  | linkRead
  | retireWrite (word : RetireWord)
  | sheetHeaderRead
  | recordWrite (record : Record)
  | sheetHeaderWrite (header : SheetHeader)
  | dcbRead
  | limitsRead
  | tallyWriteLow (snapshot : TallySnapshot)
  | tallyWriteHigh (snapshot : TallySnapshot)
  deriving DecidableEq, Repr

/-- A requested master transfer; `discard` marks a read whose result its requester will ignore (R30, R165). -/
structure Transfer where
  kind : TransferKind
  address : Addr
  discard : Bool
  deriving DecidableEq, Repr

/-- The transfer in flight, the REFCLK periods since its start (R189), and whether a reset has left it without a
requester (R189). -/
structure Flight where
  transfer : Transfer
  periods : Nat
  orphan : Bool
  deriving DecidableEq, Repr

/-- The Bus Port: the one transfer in flight and at most one waiting request of each requester (R188). -/
structure BusPort where
  inFlight : Option Flight
  jw : Option Transfer
  fu : Option Transfer
  cp : Option Transfer
  deriving DecidableEq, Repr

/-! ## The whole part -/

/-- Why a step stops with a fault: the spec has no behaviour that stops the part, so there is no constructor, nothing
raises one, and this is safe. -/
inductive Fault where
  deriving DecidableEq, Repr

/-- Why a command has no meaning. -/
inductive Refusal where
  /-- Raised by Dispatch.lean alone, for a row not modelled yet; safe. -/
  | notModelled (mnemonic : String)
  deriving DecidableEq, Repr

/-- The part. `pins` are the input pins as last sampled, `resetAsserted` is RESET#, `oracle` is the model's own: the
free orders of events that arrive together, one binary digit each (log entry 1); `pending` is the queue of commands. -/
structure State where
  tb : Timebase
  fu : FetchUnit
  su : ScheduleUnit
  os : OutputStage
  gu : GuardUnit
  cx : CaptureUnit
  jw : JournalWriter
  cp : CommandPort
  ev : EventUnit
  bp : BusPort
  pins : Pins
  resetAsserted : Bool
  oracle : Nat
  pending : List Instr
  deriving DecidableEq, Repr

/-! ## The state after a hardware reset -/

/-- 1.7. -/
def Timebase.reset : Timebase where
  source := .internal
  prescale := 1#16
  tbinEdge := .rise
  prescaleCount := 0
  tbinPrevious := false
  tl := 0#48
  pt := 0#48
  hostPause := false
  guardHolds := 0#4
  timeRangeNotice := false

/-- Every field 0 (R180). -/
def Limits.zero : Limits where
  deadTimes := Vector.replicate 8 0#16
  blankLengths := Vector.replicate 4 0#16
  holdLimits := Vector.replicate 4 0#32

/-- R37; the address of the next header, the link, the abandoned flag, the done notice and the interval length are the
model's choice (log entry 9). -/
def FetchUnit.reset : FetchUnit where
  state := .idle
  table := []
  nextAddress := none
  nextSequence := 0#32
  link := 0#64
  rereadWanted := false
  watchStart := none
  starvedReported := false
  abandoned := false
  doneNotice := none
  watchInterval := 0#32

/-- R63, R82, R103. -/
def ScheduleUnit.reset : ScheduleUnit where
  program := .idle
  outcome := .none
  reason := .none
  retireIncomplete := false
  queue := []
  cursor := 0#48
  anchor := 0#48
  admissionOpen := false
  admissionCount := 0#32
  waiter := none
  agenda := []
  latePolicy := .apply

/-- R119. -/
def Line.reset : Line where
  role := .unused
  requested := .released
  driven := .released
  idle := .released
  stop := .keep
  safe := .released
  clampSet := 0#4
  await := false
  covered := false
  lastFall := none
  deferred := none

/-- R119. -/
def OutputStage.reset : OutputStage where
  lines := Vector.replicate 16 Line.reset
  pairs := Vector.replicate 8 { enabled := false, deadTime := 0#16 }

/-- R138. -/
def FaultInput.reset : FaultInput where
  enable := false
  polarity := .assertedHigh
  filterLength := 0
  action := .note
  clampMask := 0#16
  blankMask := 0#16
  policy := .onDeassert
  blankLength := 0#16
  holdLimit := 0#32
  state := .off
  asserted := false
  filterRun := 0
  blankUntil := none
  holdStart := none
  escalated := false

/-- R138. -/
def GuardUnit.reset : GuardUnit where
  inputs := Vector.replicate 4 FaultInput.reset
  latch := false
  sources := 0#4
  mask := 0#16
  tripNotice := none

/-- R151. -/
def Channel.reset : Channel where
  enable := false
  filterLength := 0
  mode := .edge
  select := .rise
  record := false
  decimation := 1
  high := false
  filterRun := 0
  lastLeading := none
  phase := none
  decimationCount := 0

/-- R151. -/
def CaptureUnit.reset : CaptureUnit where
  channels := Vector.replicate 16 Channel.reset

/-- R168. -/
def JournalWriter.reset : JournalWriter where
  state := .off
  fifo := []
  sheet := none
  nextIndex := 0
  nextSequence := 0#32
  lostCount := 0#32
  readyCount := 0
  openedMark := false
  loadedMark := false
  ageStart := none
  recheckStart := none
  rereadWanted := false
  base := 0#64
  sheetCount := 0
  batch := 0
  recheckInterval := 0#32
  flushAge := 0#32

/-- R180. -/
def CommandPort.reset : CommandPort where
  inProgress := none
  lastResult := .ok
  lastCode := 0#8
  lastOperand := 0#16
  argLo := 0#32
  argHi := 0#32
  contextLoaded := false
  active := Limits.zero
  staged := none
  shadow := []
  snapshot := none

/-- R185, R186. -/
def EventUnit.reset : EventUnit where
  events := 0#13
  mask := 0#13
  irqEnable := false
  tallies := Vector.replicate 16 0#32

/-- R189: nothing waits; at power-on nothing is in flight. -/
def BusPort.reset : BusPort where
  inFlight := none
  jw := none
  fu := none
  cp := none

/-- The part after power-on, a hardware reset and the release of RESET# (R181), with no command waiting. -/
def State.reset : State where
  tb := Timebase.reset
  fu := FetchUnit.reset
  su := ScheduleUnit.reset
  os := OutputStage.reset
  gu := GuardUnit.reset
  cx := CaptureUnit.reset
  jw := JournalWriter.reset
  cp := CommandPort.reset
  ev := EventUnit.reset
  bp := BusPort.reset
  pins := { inputs := 0#16, faults := 0#4, tbin := false }
  resetAsserted := false
  oracle := 0
  pending := []

end Sys2Proof.Machine
end

