-- ==== Sys2Proof/Machine/Flags.lean ====
section
/-! DEFINITION. Flags.lean: the event causes and the IRQ line, the tallies, the encodings of 12.4 that registers and
records show, and the register window as it is read. -/
namespace Sys2Proof.Machine

/-! ## Event causes (11.1) -/

/-- The thirteen causes. -/
inductive Cause where
  | cmdDone | cmdRefused | programEnd | mark | stripRetired | starved | late | sheetsReady | journalBlocked | recordsLost
  | guard | trip | busError
  deriving DecidableEq, Repr

/-- The EVENTS bit of a cause (12.4). -/
def Cause.bit : Cause → Nat
  | .cmdDone => 0
  | .cmdRefused => 1
  | .programEnd => 2
  | .mark => 3
  | .stripRetired => 4
  | .starved => 5
  | .late => 6
  | .sheetsReady => 7
  | .journalBlocked => 8
  | .recordsLost => 9
  | .guard => 10
  | .trip => 11
  | .busError => 12

/-- A raise notice sets the cause's pending flag (R183). -/
def EventUnit.raise (c : Cause) (e : EventUnit) : EventUnit :=
  { e with events := e.events ||| (1#13 <<< c.bit) }

/-- A block raises a cause (R183). -/
def raise (c : Cause) (s : State) : State := { s with ev := s.ev.raise c }

/-- The IRQ line: a level (R184), held low while RESET# is asserted (R193). -/
def irqLine (s : State) : Bool :=
  !s.resetAsserted && s.ev.irqEnable && (s.ev.events &&& s.ev.mask) != 0#13

/-! ## Tallies (11.2) -/

/-- The sixteen counters. -/
inductive Tally where
  | stepsAdmitted | lateApplied | lateDropped | agendaApplications | shootThroughs | risesDeferred | guardActivations
  | trips | holdEscalations | recordsJournaled | recordsLost | recordsUnjournaled | sheetsFilled | blockedEpisodes
  | linkRechecks | busErrors
  deriving DecidableEq, Repr

/-- The counter's number (11.2). -/
def Tally.index : Tally → Fin 16
  | .stepsAdmitted => 0
  | .lateApplied => 1
  | .lateDropped => 2
  | .agendaApplications => 3
  | .shootThroughs => 4
  | .risesDeferred => 5
  | .guardActivations => 6
  | .trips => 7
  | .holdEscalations => 8
  | .recordsJournaled => 9
  | .recordsLost => 10
  | .recordsUnjournaled => 11
  | .sheetsFilled => 12
  | .blockedEpisodes => 13
  | .linkRechecks => 14
  | .busErrors => 15

/-- A sum that saturates at 2^32 − 1 (R153, R186). -/
def satAdd (x : Word) (n : Nat) : Word :=
  if x.toNat + n < 2 ^ 32 then BitVec.ofNat 32 (x.toNat + n) else BitVec.allOnes 32

/-- An increment notice adds its amount (R186). -/
def EventUnit.count (t : Tally) (n : Nat) (e : EventUnit) : EventUnit :=
  { e with tallies := e.tallies.set t.index (satAdd e.tallies[t.index] n) }

/-- A block counts an amount in a tally (R186). -/
def count (t : Tally) (n : Nat) (s : State) : State := { s with ev := s.ev.count t n }

/-! ## Encodings (12.4) -/

/-- Result codes. -/
def Result.code : Result → Nat
  | .ok => 0
  | .state => 1
  | .noContext => 2
  | .tripped => 3
  | .notRunning => 4
  | .notPaused => 5
  | .notTripped => 6
  | .stillAsserted => 7
  | .badArgument => 8
  | .badContext => 9
  | .badLimits => 10
  | .busError => 11
  | .unknownCommand => 12

/-- Program states. -/
def ProgramState.code : ProgramState → Nat
  | .idle => 0
  | .running => 1
  | .draining => 2
  | .stopping => 3

/-- Journal states. -/
def JournalState.code : JournalState → Nat
  | .off => 0
  | .seeking => 1
  | .opened => 2
  | .blocked => 3
  | .closing => 4
  | .faulted => 5

/-- Outcomes. -/
def ProgramOutcome.code : ProgramOutcome → Nat
  | .none => 0
  | .ended => 1
  | .drained => 2
  | .stopped => 3
  | .tripped => 4
  | .faulted => 5

/-- Reasons. -/
def Reason.code : Reason → Nat
  | .none => 0
  | .badLink => 1
  | .badStrip => 2
  | .badStep => 3
  | .lateStop => 4
  | .waitTimeout => 5
  | .busRead => 6
  | .busWrite => 7
  | .timeRange => 8

/-- Actions. -/
def GuardAction.code : GuardAction → Nat
  | .note => 0
  | .clamp => 1
  | .hold => 2
  | .trip => 3

/-! ## The register window as it is read (R190, 12.2) -/

/-- The program is held while the hold-cause set is non-empty (R10). -/
def held (s : State) : Bool := s.tb.hostPause || s.tb.guardHolds != 0#4

/-- `v` shifted to bit `n` of a register. -/
def fieldAt (n v : Nat) : Word := BitVec.ofNat 32 (v * 2 ^ n)

/-- STATUS (12.2). -/
def statusWord (s : State) : Word :=
  fieldAt 0 s.cp.inProgress.isSome.toNat ||| fieldAt 4 s.cp.lastResult.code ||| fieldAt 8 s.su.program.code |||
    fieldAt 10 (held s).toNat ||| fieldAt 11 (s.fu.state == .watching).toNat ||| fieldAt 12 s.jw.state.code |||
    fieldAt 15 s.gu.latch.toNat ||| fieldAt 16 s.cp.contextLoaded.toNat

/-- CMD as it reads: the last code and operand (R170). -/
def cmdWord (s : State) : Word := fieldAt 0 s.cp.lastCode.toNat ||| fieldAt 16 s.cp.lastOperand.toNat

/-- A read of the register window: no access while RESET# is asserted (R181); another size or an offset beyond the
window reads 0 (R190). That an offset inside the window that names no register reads 0 is the model's choice (log entry
34). -/
def readRegister (s : State) (offset : Nat) (size : AccessSize) : Option Word :=
  if s.resetAsserted then none
  else if size != .bits32 then some 0#32
  else match offset with
    | 0x00 => some Config.identWord
    | 0x04 => some (fieldAt 1 s.ev.irqEnable.toNat)
    | 0x08 => some (cmdWord s)
    | 0x0C => some s.cp.argLo
    | 0x10 => some s.cp.argHi
    | 0x14 => some (statusWord s)
    | 0x18 => some (s.ev.events.setWidth 32)
    | 0x1C => some (s.ev.mask.setWidth 32)
    | _ => some 0#32

end Sys2Proof.Machine
end

