-- ==== Sys2Proof/Machine/Operands.lean ====
section
/-! DEFINITION. Operands.lean: the layouts of 12.3: what the part reads out of host-memory structures and the bytes it
writes into them, little-endian (R191). -/
namespace Sys2Proof.Machine

/-! ## Little-endian fields -/

/-- Byte `i` of a structure. -/
def byteAt (d : List Byte) (i : Nat) : Byte := d.getD i 0#8

/-- The 16-bit field at offset `i`. -/
def half (d : List Byte) (i : Nat) : Half := byteAt d (i + 1) ++ byteAt d i

/-- The 32-bit field at offset `i`. -/
def word (d : List Byte) (i : Nat) : Word := half d (i + 2) ++ half d i

/-- The 64-bit field at offset `i`. -/
def long (d : List Byte) (i : Nat) : Addr := word d (i + 4) ++ word d i

/-- The `n` bytes of a value, least significant first. -/
def bytesOf {w : Nat} (n : Nat) (x : BitVec w) : List Byte :=
  (List.range n).map fun i => x.extractLsb' (8 * i) 8

/-- The byte that holds a small number. -/
def byteOf (n : Nat) : Byte := BitVec.ofNat 8 n

/-! ## Strip header and step -/

/-- What the FU acts on in a strip header (R14). -/
structure StripHeader where
  link : Addr
  stepCount : Byte
  notifyRetire : Bool
  retireState : Byte
  deriving DecidableEq, Repr

/-- The strip header of 32 bytes (12.3). -/
def stripHeaderOf (d : List Byte) : StripHeader where
  link := long d 0
  stepCount := byteAt d 8
  notifyRetire := (byteAt d 9).getLsbD 0
  retireState := byteAt d 24

/-- The step of 32 bytes at offset `o` of a step read (12.3). -/
def stepOf (d : List Byte) (o : Nat) : Step where
  kind := byteAt d o
  baseAnchor := (byteAt d (o + 1)).getLsbD 0
  notify := (byteAt d (o + 1)).getLsbD 1
  timeoutStop := (byteAt d (o + 1)).getLsbD 2
  channel := byteAt d (o + 2)
  edge := byteAt d (o + 3)
  mask := half d (o + 4)
  pattern := half d (o + 6)
  delay := word d (o + 8)
  width := word d (o + 12)
  period := word d (o + 16)
  count := half d (o + 20)
  tag := word d (o + 24)
  timeout := word d (o + 28)

/-- The eight step kinds (3.2). -/
inductive StepKind where
  | set | pulse | train | wait | anchor | mark | applyLimits | endProgram
  deriving DecidableEq, Repr

/-- The kind a kind value names (12.4). -/
def stepKindOf (b : Byte) : Option StepKind :=
  match b.toNat with
  | 1 => some .set
  | 2 => some .pulse
  | 3 => some .train
  | 4 => some .wait
  | 5 => some .anchor
  | 6 => some .mark
  | 7 => some .applyLimits
  | 8 => some .endProgram
  | _ => none

/-- The edge an edge value names (12.4). -/
def waitEdgeOf (b : Byte) : Option WaitEdge :=
  match b.toNat with
  | 0 => some .rise
  | 1 => some .fall
  | 2 => some .either
  | _ => none

/-! ## Limits Block -/

/-- The fields of a Limits Block at offset `o` (12.3). -/
def limitsOf (d : List Byte) (o : Nat) : Limits where
  deadTimes := Vector.ofFn fun k => half d (o + 8 + 2 * k.val)
  blankLengths := Vector.ofFn fun n => half d (o + 24 + 2 * n.val)
  holdLimits := Vector.ofFn fun n => word d (o + 32 + 4 * n.val)

/-- The format byte of a Limits Block at offset `o` is 1 (R177, R174). -/
def limitsFormatOk (d : List Byte) (o : Nat) : Bool := byteAt d o == 1#8

/-! ## Device Context Block -/

/-- A line's part of the context (10.2). -/
structure LineConfig where
  role : Role
  idle : Level
  stop : StopLevel
  safe : Level
  deriving DecidableEq, Repr

/-- A fault input's part of the context (10.2). -/
structure InputConfig where
  enable : Bool
  polarity : Polarity
  filterLength : Nat
  action : GuardAction
  clampMask : Half
  blankMask : Half
  policy : ReleasePolicy
  deriving DecidableEq, Repr

/-- A channel's part of the context (10.2). -/
structure ChannelConfig where
  enable : Bool
  filterLength : Nat
  mode : CaptureMode
  select : EdgeSelect
  record : Bool
  decimation : Nat
  deriving DecidableEq, Repr

/-- A whole context (10.2). -/
structure Context where
  firstSequence : Word
  source : TickSource
  tbinEdge : Edge
  prescale : Half
  latePolicy : LatePolicy
  watchInterval : Word
  base : Addr
  sheetCount : Nat
  batch : Nat
  recheckInterval : Word
  flushAge : Word
  lines : Vector LineConfig 16
  paired : Byte
  inputs : Vector InputConfig 4
  channels : Vector ChannelConfig 16
  limits : Limits
  deriving DecidableEq, Repr

/-- Tick source (12.4). -/
def tickSourceOf (n : Nat) : Option TickSource :=
  match n with
  | 0 => some .internal
  | 1 => some .external
  | _ => none

/-- TBIN edge (12.4). -/
def edgeOf (n : Nat) : Option Edge :=
  match n with
  | 0 => some .rise
  | 1 => some .fall
  | _ => none

/-- Late policy (12.4). -/
def latePolicyOf (n : Nat) : Option LatePolicy :=
  match n with
  | 0 => some .apply
  | 1 => some .drop
  | 2 => some .stop
  | _ => none

/-- Line role (12.4). -/
def roleOf (n : Nat) : Option Role :=
  match n with
  | 0 => some .unused
  | 1 => some .sequenced
  | _ => none

/-- Idle and safe level (12.4). -/
def levelOf (n : Nat) : Option Level :=
  match n with
  | 0 => some .low
  | 1 => some .high
  | 2 => some .released
  | _ => none

/-- Stop level (12.4). -/
def stopLevelOf (n : Nat) : Option StopLevel :=
  match n with
  | 0 => some .keep
  | 1 => some .low
  | 2 => some .high
  | 3 => some .released
  | _ => none

/-- Action (12.4). -/
def guardActionOf (n : Nat) : Option GuardAction :=
  match n with
  | 0 => some .note
  | 1 => some .clamp
  | 2 => some .hold
  | 3 => some .trip
  | _ => none

/-- Release policy (12.4). -/
def releasePolicyOf (n : Nat) : Option ReleasePolicy :=
  match n with
  | 0 => some .onDeassert
  | 1 => some .onNextAction
  | _ => none

/-- Channel mode (12.4). -/
def captureModeOf (n : Nat) : Option CaptureMode :=
  match n with
  | 0 => some .edge
  | 1 => some .interval
  | 2 => some .width
  | 3 => some .cycle
  | _ => none

/-- Edge select (12.4). -/
def edgeSelectOf (n : Nat) : Option EdgeSelect :=
  match n with
  | 0 => some .rise
  | 1 => some .fall
  | 2 => some .both
  | _ => none

/-- A filter length is one of the plain numbers 0, 2, 4, 8 (12.3, R174). -/
def filterLengthOk (n : Nat) : Bool := n == 0 || n == 2 || n == 4 || n == 8

/-- Bits `lo` and `lo + 1` of a line byte (12.3). -/
def lineField (d : List Byte) (n : Fin 16) (lo : Nat) : Nat := ((byteAt d (48 + n.val)).extractLsb' lo 2).toNat

/-- The line of the block at 48 + n (12.3); a value that names nothing is refused by `lineOk`. -/
def lineConfigOf (d : List Byte) (n : Fin 16) : LineConfig where
  role := (roleOf (lineField d n 0)).getD .unused
  idle := (levelOf (lineField d n 2)).getD .released
  stop := (stopLevelOf (lineField d n 4)).getD .keep
  safe := (levelOf (lineField d n 6)).getD .released

/-- The fault input of the block at 72 + 8n (12.3). -/
def inputConfigOf (d : List Byte) (n : Fin 4) : InputConfig where
  enable := (byteAt d (72 + 8 * n.val)).getLsbD 0
  polarity := if (byteAt d (72 + 8 * n.val)).getLsbD 1 then .assertedLow else .assertedHigh
  filterLength := (byteAt d (73 + 8 * n.val)).toNat
  action := (guardActionOf (byteAt d (74 + 8 * n.val)).toNat).getD .note
  policy := (releasePolicyOf (byteAt d (75 + 8 * n.val)).toNat).getD .onDeassert
  clampMask := half d (76 + 8 * n.val)
  blankMask := half d (78 + 8 * n.val)

/-- The channel of the block at 104 + 6n (12.3). -/
def channelConfigOf (d : List Byte) (n : Fin 16) : ChannelConfig where
  enable := (byteAt d (104 + 6 * n.val)).getLsbD 0
  record := (byteAt d (104 + 6 * n.val)).getLsbD 1
  filterLength := (byteAt d (105 + 6 * n.val)).toNat
  mode := (captureModeOf (byteAt d (106 + 6 * n.val)).toNat).getD .edge
  select := (edgeSelectOf (byteAt d (107 + 6 * n.val)).toNat).getD .rise
  decimation := (half d (108 + 6 * n.val)).toNat

/-- The context that a DCB of 256 bytes holds (12.3). -/
def contextOf (d : List Byte) : Context where
  firstSequence := word d 4
  source := (tickSourceOf (byteAt d 8).toNat).getD .internal
  tbinEdge := (edgeOf (byteAt d 9).toNat).getD .rise
  prescale := half d 10
  latePolicy := (latePolicyOf (byteAt d 12).toNat).getD .apply
  batch := (byteAt d 13).toNat
  sheetCount := (half d 14).toNat
  watchInterval := word d 16
  recheckInterval := word d 20
  flushAge := word d 24
  base := long d 32
  lines := Vector.ofFn (lineConfigOf d)
  paired := byteAt d 64
  inputs := Vector.ofFn (inputConfigOf d)
  channels := Vector.ofFn (channelConfigOf d)
  limits := limitsOf d 208

/-- `lo ≤ n ≤ hi`. -/
def inRange (lo hi n : Nat) : Bool := lo ≤ n && n ≤ hi

/-- The line pair `k` is formed by: OUT(2k) (R105). -/
def lowerLine (k : Fin 8) : Fin 16 := ⟨2 * k.val, by omega⟩

/-- The line pair `k` is formed by: OUT(2k + 1) (R105). -/
def upperLine (k : Fin 8) : Fin 16 := ⟨2 * k.val + 1, by omega⟩

/-- Header, timebase, program and journal fields of the block (R174, first five points). -/
def dcbHeaderOk (d : List Byte) : Bool :=
  byteAt d 0 == 1#8 && limitsFormatOk d 208 && (tickSourceOf (byteAt d 8).toNat).isSome &&
    (edgeOf (byteAt d 9).toNat).isSome && inRange 1 1024 (half d 10).toNat &&
    (latePolicyOf (byteAt d 12).toNat).isSome && inRange 1 (2 ^ 24 - 1) (word d 16).toNat &&
    inRange 1 (2 ^ 24 - 1) (word d 20).toNat && inRange 0 (2 ^ 24 - 1) (word d 24).toNat &&
    (long d 32).toNat % 512 == 0 && inRange 2 256 (half d 14).toNat &&
    (long d 32).toNat + 512 * (half d 14).toNat ≤ 2 ^ 64 && inRange 1 255 (byteAt d 13).toNat

/-- A line's enumerations name values (R174). -/
def lineOk (d : List Byte) (n : Fin 16) : Bool :=
  (roleOf (lineField d n 0)).isSome && (levelOf (lineField d n 2)).isSome && (stopLevelOf (lineField d n 4)).isSome &&
    (levelOf (lineField d n 6)).isSome

/-- The pair rules for two lines of an enabled pair (R115). -/
def pairRules (a b : LineConfig) : Bool :=
  a.role == .sequenced && b.role == .sequenced && a.safe != .high && b.safe != .high &&
    !(a.idle == .high && b.idle == .high) && !(a.stop == .high && b.stop == .high)

/-- Pair k keeps the pair rules if it is enabled (R115, R174). -/
def pairOk (c : Context) (k : Fin 8) : Bool :=
  !c.paired.getLsbD k.val || pairRules c.lines[lowerLine k] c.lines[upperLine k]

/-- A fault input's fields (R174). -/
def inputOk (d : List Byte) (c : Context) (n : Fin 4) : Bool :=
  (guardActionOf (byteAt d (74 + 8 * n.val)).toNat).isSome && (releasePolicyOf (byteAt d (75 + 8 * n.val)).toNat).isSome &&
    filterLengthOk c.inputs[n].filterLength &&
    (List.finRange 16).all fun m => !c.inputs[n].clampMask.getLsbD m.val || c.lines[m].role == .sequenced

/-- A channel's fields (R142, R174). -/
def channelOk (d : List Byte) (c : Context) (n : Fin 16) : Bool :=
  (captureModeOf (byteAt d (106 + 6 * n.val)).toNat).isSome && (edgeSelectOf (byteAt d (107 + 6 * n.val)).toNat).isSome &&
    filterLengthOk c.channels[n].filterLength && inRange 1 256 c.channels[n].decimation &&
    !(c.channels[n].mode != .edge && c.channels[n].select == .both)

/-- The block passes every check of R174. -/
def dcbValid (d : List Byte) : Bool :=
  dcbHeaderOk d && (List.finRange 16).all (lineOk d) && (List.finRange 8).all (pairOk (contextOf d)) &&
    (List.finRange 4).all (inputOk d (contextOf d)) && (List.finRange 16).all (channelOk d (contextOf d))

/-! ## What the part writes -/

/-- Strip outcomes (12.3). -/
def StripOutcome.code : StripOutcome → Nat
  | .played => 1
  | .cut => 2
  | .rejected => 3

/-- The retire word: bytes 24 to 31 of the strip header (12.3). -/
def RetireWord.bytes (w : RetireWord) : List Byte :=
  [1#8, byteOf w.outcome.code, byteOf w.admitted, 0#8] ++ bytesOf 4 w.pt

/-- Record kinds (12.3). -/
def RecordKind.code : RecordKind → Nat
  | .captureEdge => 1
  | .captureInterval => 2
  | .captureWidth => 3
  | .captureCycle => 4
  | .stamp => 5
  | .mark => 6
  | .late => 7
  | .wait => 8
  | .shoot => 9
  | .guard => 10
  | .limits => 11
  | .program => 12

/-- A journal record (12.3). -/
def Record.bytes (r : Record) : List Byte :=
  [byteOf r.kind.code, r.source, r.flags] ++ bytesOf 5 r.stamp ++ bytesOf 4 r.value1 ++ bytesOf 4 r.value2

/-- Close reasons (12.3). -/
def CloseReason.code : CloseReason → Nat
  | .full => 1
  | .aged => 2
  | .flush => 3
  | .closed => 4

/-- A FILLED sheet header (12.3). -/
def SheetHeader.bytes (h : SheetHeader) : List Byte :=
  [1#8, byteOf h.count, byteOf h.reason.code, byteOf (h.opened.toNat + 2 * h.loaded.toNat)] ++ bytesOf 4 h.sequence ++
    bytesOf 4 h.lost ++ bytesOf 4 h.firstStamp

/-- The tally block of 80 bytes (12.3). -/
def TallySnapshot.bytes (t : TallySnapshot) : List Byte :=
  [1#8, 0#8, 0#8, 0#8] ++ bytesOf 6 t.tl ++ [0#8, 0#8, 0#8, 0#8, 0#8, 0#8] ++
    (List.finRange 16).flatMap fun n => bytesOf 4 t.counters[n]

/-- The bytes a write carries, in address order; none for a read (11.3). -/
def TransferKind.data : TransferKind → List Byte
  | .retireWrite w => w.bytes
  | .recordWrite r => r.bytes
  | .sheetHeaderWrite h => h.bytes
  | .tallyWriteLow t => t.bytes.take 64
  | .tallyWriteHigh t => t.bytes.drop 64
  | .stripHeaderRead _ | .stepRead _ | .linkRead | .sheetHeaderRead | .dcbRead | .limitsRead => []

/-- The size of a transfer in bytes (11.3). -/
def TransferKind.size : TransferKind → Nat
  | .stripHeaderRead _ => 32
  | .stepRead two => if two then 64 else 32
  | .linkRead => 8
  | .retireWrite _ => 8
  | .sheetHeaderRead => 16
  | .recordWrite _ => 16
  | .sheetHeaderWrite _ => 16
  | .dcbRead => 64
  | .limitsRead => 48
  | .tallyWriteLow _ => 64
  | .tallyWriteHigh _ => 16

end Sys2Proof.Machine
end

