-- ==== Sys2Proof/Machine/Ops.lean ====
section
/-! DEFINITION. Ops.lean: the operations every block shares: drawing a free order, requesting and granting a master
transfer, offering a record, completing a command, claiming a hold cause. -/
namespace Sys2Proof.Machine

/-! ## Free orders (log entry 1) -/

/-- The next free order: true takes the second of the two orders the rule allows. -/
def drawn (s : State) : Bool := s.oracle % 2 == 1

/-- The state after an order has been drawn. -/
def afterDraw (s : State) : State := { s with oracle := s.oracle / 2 }

/-! ## Bus Port (R188) -/

/-- The requester of a transfer (11.3). -/
def TransferKind.owner : TransferKind → Requester
  | .stripHeaderRead _ | .stepRead _ | .linkRead | .retireWrite _ => .fu
  | .sheetHeaderRead | .recordWrite _ | .sheetHeaderWrite _ => .jw
  | .dcbRead | .limitsRead | .tallyWriteLow _ | .tallyWriteHigh _ => .cp

/-- The waiting request of a requester. -/
def BusPort.waiting (b : BusPort) : Requester → Option Transfer
  | .jw => b.jw
  | .fu => b.fu
  | .cp => b.cp

/-- The requester has a transfer requested or in flight; a transfer orphaned by a reset is nobody's (R33, R189). -/
def BusPort.outstanding (o : Requester) (b : BusPort) : Bool :=
  (b.waiting o).isSome ||
    match b.inFlight with
    | some f => !f.orphan && f.transfer.kind.owner == o
    | none => false

/-- A request reaches the BP and waits for its grant (R188). -/
def BusPort.request (t : Transfer) (b : BusPort) : BusPort :=
  match t.kind.owner with
  | .jw => { b with jw := some t }
  | .fu => { b with fu := some t }
  | .cp => { b with cp := some t }

/-- A granted transfer starts (R188, R189). -/
def Flight.start (t : Transfer) : Flight := { transfer := t, periods := 0, orphan := false }

/-- An idle BP grants the JW first, then the FU, then the CP (R188). -/
def BusPort.grant (b : BusPort) : BusPort :=
  match b.inFlight, b.jw, b.fu, b.cp with
  | none, some t, _, _ => { b with inFlight := some (Flight.start t), jw := none }
  | none, none, some t, _ => { b with inFlight := some (Flight.start t), fu := none }
  | none, none, none, some t => { b with inFlight := some (Flight.start t), cp := none }
  | _, _, _, _ => b

/-- Request a transfer. -/
def request (kind : TransferKind) (address : Addr) (s : State) : State :=
  { s with bp := s.bp.request { kind := kind, address := address, discard := false } }

/-- Grant the next waiting request if the BP is idle. -/
def grant (s : State) : State := { s with bp := s.bp.grant }

/-- The transfer is a read of the FU (R30). -/
def TransferKind.isFetchRead : TransferKind → Bool
  | .stripHeaderRead _ | .stepRead _ | .linkRead => true
  | _ => false

/-- Mark a transfer for discard when `p` holds of its kind. -/
def Transfer.discardIf (p : TransferKind → Bool) (t : Transfer) : Transfer :=
  { t with discard := t.discard || p t.kind }

/-- Mark for discard every transfer, waiting or in flight, whose kind meets `p` (R30, R165). -/
def BusPort.discardIf (p : TransferKind → Bool) (b : BusPort) : BusPort :=
  { inFlight := b.inFlight.map fun f => { f with transfer := f.transfer.discardIf p }
    jw := b.jw.map (Transfer.discardIf p)
    fu := b.fu.map (Transfer.discardIf p)
    cp := b.cp.map (Transfer.discardIf p) }

/-- A reset withdraws every waiting request and orphans the transfer in flight (R189). -/
def BusPort.afterReset (b : BusPort) : BusPort :=
  { inFlight := b.inFlight.map fun f => { f with orphan := true }, jw := none, fu := none, cp := none }

/-- The BP's part of a transfer that ends ERROR (R189). -/
def busErrorRaised (s : State) : State := raise .busError (count .busErrors 1 s)

/-! ## Records (R152, R153) -/

/-- The journal takes offers (9.3). -/
def JournalState.takes : JournalState → Bool
  | .seeking | .opened | .blocked => true
  | .off | .closing | .faulted => false

/-- Add to the lost count, saturating (R153). -/
def JournalWriter.lose (n : Nat) (j : JournalWriter) : JournalWriter :=
  { j with lostCount := satAdd j.lostCount n }

/-- The hold FIFO's side of an offer (R153). -/
def JournalWriter.offer (r : Record) (j : JournalWriter) : JournalWriter :=
  if j.state.takes then
    if j.fifo.length < Config.fifoCapacity then { j with fifo := j.fifo ++ [r] } else j.lose 1
  else j

/-- The Event Unit's side of records counted as lost: the tally and RECORDS_LOST (R153, R165, R167). -/
def EventUnit.lose (n : Nat) (e : EventUnit) : EventUnit :=
  if n = 0 then e else (e.count .recordsLost n).raise .recordsLost

/-- The Event Unit's side of an offer to journal `j` (R153). -/
def EventUnit.offer (j : JournalWriter) (e : EventUnit) : EventUnit :=
  if j.state.takes then
    if j.fifo.length < Config.fifoCapacity then e else e.lose 1
  else e.count .recordsUnjournaled 1

/-- A producer offers a record (R153). -/
def offer (r : Record) (s : State) : State :=
  { s with jw := s.jw.offer r, ev := s.ev.offer s.jw }

/-- The source byte of a record with no source (12.3). -/
def noSource : Byte := 0xFF#8

/-- The low 40 bits of TL, the stamp of a record (R152). -/
def stampOf (tl : Time) : BitVec 40 := tl.setWidth 40

/-- The low 32 bits of a PT or TL value (R12). -/
def low32 (t : Time) : Word := t.setWidth 32

/-- A small value in a record. -/
def wordOf (n : Nat) : Word := BitVec.ofNat 32 n

/-! ## Commands (R169, R171) -/

/-- The command in progress completes (R171). -/
def complete (r : Result) (s : State) : State :=
  { s with cp := { s.cp with inProgress := none, lastResult := r }, ev := s.ev.raise .cmdDone }

/-- The argument copy of the command in progress; 0 when there is none (R170). -/
def argument (s : State) : Addr :=
  match s.cp.inProgress with
  | some c => c.arg
  | none => 0#64

/-- The command in progress has this code. -/
def inProgressIs (code : Byte) (s : State) : Bool :=
  match s.cp.inProgress with
  | some c => c.code == code
  | none => false

/-! ## Claims on the hold-cause set (R9) -/

/-- FLTn as a set. -/
def faultBit (n : Fin 4) : FaultSet := 1#4 <<< n.val

/-- Add GUARDn. -/
def addGuardHold (n : Fin 4) (s : State) : State :=
  { s with tb := { s.tb with guardHolds := s.tb.guardHolds ||| faultBit n } }

/-- Remove GUARDn. -/
def removeGuardHold (n : Fin 4) (s : State) : State :=
  { s with tb := { s.tb with guardHolds := s.tb.guardHolds &&& ~~~ faultBit n } }

/-! ## TL arithmetic (R11) -/

/-- Ticks from `start` to `now`, modulo 2^48. -/
def elapsed (start now : Time) : Nat := (now - start).toNat

/-- An interval of `d` ticks started at `start` expires at this TL (R11). -/
def expiresAt (start : Option Time) (d : Nat) (tl : Time) : Bool :=
  match start with
  | some b => b + BitVec.ofNat 48 d == tl
  | none => false

end Sys2Proof.Machine
end

