-- ==== Sys2Proof/Machine/Fetch.lean ====
section
/-! DEFINITION. Fetch.lean: the Fetch Unit (chapter 2): the tracking table, the notices it takes from the SU, retirement
readiness, its intervals, and the request its state calls for (`fuPump`). Its fault claims are taken in Program.lean. -/
namespace Sys2Proof.Machine

/-! ## The tracking table (2.5) -/

/-- The slot of the strip of sequence `s` (R25). -/
def slotOfSequence (s : Word) : Fin 8 := ⟨s.toNat % 8, by omega⟩

/-- The slot is free (R25). -/
def FetchUnit.slotFree (n : Fin 8) (f : FetchUnit) : Bool := f.table.all fun sl => sl.number != n

/-- The newest tracked strip. -/
def FetchUnit.newest (f : FetchUnit) : Option Slot := f.table.getLast?

/-- A notice that names a slot changes it unless it is free or RETIRE_READY (R26, R27). -/
def Slot.onNotice (n : Fin 8) (g : Slot → Slot) (sl : Slot) : Slot :=
  if sl.number = n ∧ sl.state ≠ .retireReady then g sl else sl

/-- Change a slot of the table. -/
def FetchUnit.onSlot (n : Fin 8) (g : Slot → Slot) (f : FetchUnit) : FetchUnit :=
  { f with table := f.table.map (Slot.onNotice n g) }

/-- An admission notice (R26). -/
def FetchUnit.admitted (n : Fin 8) (entry isEnd : Bool) (f : FetchUnit) : FetchUnit :=
  f.onSlot n fun sl =>
    { sl with
      stepsAdmitted := sl.stepsAdmitted + 1
      outstanding := sl.outstanding + entry.toNat
      endAdmitted := sl.endAdmitted || isEnd }

/-- An action-released notice (R26, R79). -/
def FetchUnit.released (n : Fin 8) (discarded : Bool) (f : FetchUnit) : FetchUnit :=
  f.onSlot n fun sl =>
    { sl with
      outstanding := sl.outstanding - 1
      entryDiscarded := sl.entryDiscarded || discarded }

/-- The FU's own part of the admission-closed notice (R30); later ones have no effect. -/
def FetchUnit.close (f : FetchUnit) : FetchUnit :=
  if f.state = .fetching ∨ f.state = .watching then
    { f with state := .stopped, nextAddress := none, rereadWanted := false, watchStart := none }
  else f

/-- The admission-closed notice: the FU stops and its reads are marked for discard (R30). -/
def fuAdmissionClosed (s : State) : State :=
  { s with fu := s.fu.close, bp := s.bp.discardIf TransferKind.isFetchRead }

/-! ## Retirement (R27 to R30) -/

/-- The watched tail (R22). -/
def FetchUnit.isTail (f : FetchUnit) (sl : Slot) : Bool :=
  f.state == .watching && f.newest.map Slot.sequence == some sl.sequence

/-- The condition of R27. -/
def FetchUnit.retirable (f : FetchUnit) (sl : Slot) : Bool :=
  sl.state != .retireReady && (sl.stepsAdmitted == sl.stepCount.toNat || f.state == .stopped) &&
    sl.outstanding == 0 && !f.isTail sl

/-- The outcome of a slot that becomes RETIRE_READY by R27 (R28). -/
def Slot.fixedOutcome (sl : Slot) : StripOutcome :=
  if !sl.entryDiscarded && (sl.stepsAdmitted == sl.stepCount.toNat || sl.endAdmitted) then .played else .cut

/-- A slot becomes RETIRE_READY (R27, R28). -/
def Slot.makeReady (sl : Slot) : Slot := { sl with state := .retireReady, outcome := some sl.fixedOutcome }

/-- Every slot that meets R27 becomes RETIRE_READY. -/
def FetchUnit.markReady (f : FetchUnit) : FetchUnit :=
  { f with table := f.table.map fun sl => if f.retirable sl then sl.makeReady else sl }

/-- With admission closed and the table empty the retirement-done notice is sent and the FU is IDLE (R30, R35). -/
def FetchUnit.finish (f : FetchUnit) : FetchUnit :=
  if f.state = .stopped ∧ f.table = [] then { f with state := .idle, doneNotice := some f.abandoned } else f

/-- The FU's evaluation after an event: R27 for every slot, then R30's end. -/
def fuEvaluate (s : State) : State := { s with fu := s.fu.markReady.finish }

/-! ## The next transfer (R33) -/

/-- Room in the step queue; no step read is in flight when the FU asks (R20). -/
def queueRoom (s : State) : Nat := Config.queueCapacity - s.su.queue.length

/-- Steps of a strip not yet fetched. -/
def Slot.unfetched (sl : Slot) : Nat := sl.stepCount.toNat - sl.stepsFetched

/-- Step `i` of a strip at address `a` lies at a + 32 + 32 × i (R20). -/
def stepAddress (a : Addr) (i : Nat) : Addr := a + BitVec.ofNat 64 (32 + 32 * i)

/-- A step read of one step or two (R20). -/
def requestSteps (sl : Slot) (s : State) : State :=
  if queueRoom s = 0 then s
  else request (.stepRead (2 ≤ sl.unfetched ∧ 2 ≤ queueRoom s)) (stepAddress sl.address sl.stepsFetched) s

/-- A header read at a known address, with its slot reserved (R17, R25). -/
def requestHeader (s : State) : State :=
  match s.fu.nextAddress with
  | some a =>
    if s.fu.slotFree (slotOfSequence s.fu.nextSequence) then
      request (.stripHeaderRead s.fu.nextSequence) a
        { s with fu := { s.fu with nextAddress := none, nextSequence := s.fu.nextSequence + 1#32 } }
    else s
  | none => s

/-- A link re-read, counted as it is requested (R23). -/
def requestLink (s : State) : State :=
  match s.fu.newest with
  | some sl => request .linkRead sl.address (count .linkRechecks 1 { s with fu := { s.fu with rereadWanted := false } })
  | none => s

/-- The read the FU's state calls for (R17, R20, R23, R33). -/
def requestRead (s : State) : State :=
  match s.fu.state with
  | .fetching =>
    match s.fu.newest with
    | some sl => if sl.state = .fetching then requestSteps sl s else requestHeader s
    | none => requestHeader s
  | .watching => if s.fu.rereadWanted then requestLink s else s
  | .idle | .stopped => s

/-- The retire write of a RETIRE_READY strip, with the PT of its request (R29). -/
def requestRetire (sl : Slot) (s : State) : State :=
  request (.retireWrite { outcome := sl.outcome.getD .cut, admitted := sl.stepsAdmitted, pt := low32 s.tb.pt })
    (sl.address + 24#64) s

/-- The FU makes the request its state calls for when it has no transfer outstanding: the retire write of the oldest
slot first, then a read (R29, R33). -/
def fuPump (s : State) : State :=
  if s.bp.outstanding .fu then s
  else match s.fu.table with
    | sl :: _ => if sl.state = .retireReady then requestRetire sl s else requestRead s
    | [] => requestRead s

/-! ## Starvation (R32) -/

/-- The condition of R32, not yet reported in this WATCHING episode. -/
def starving (s : State) : Bool :=
  s.su.program == .running && s.su.queue.isEmpty && s.su.waiter.isNone && s.fu.state == .watching &&
    !s.fu.starvedReported

/-- STARVED, once per episode (R32). -/
def reportStarved (s : State) : State :=
  if starving s then raise .starved { s with fu := { s.fu with starvedReported := true } } else s

/-! ## Watching (R21 to R24) -/

/-- The FU enters WATCHING: a re-read is wanted and a new episode begins (R21, R32). -/
def FetchUnit.watch (f : FetchUnit) : FetchUnit :=
  { f with state := .watching, nextAddress := none, rereadWanted := true, starvedReported := false }

/-- The FU follows a link (R21, R24): it leaves WATCHING and the interval stops. -/
def FetchUnit.follow (a : Addr) (f : FetchUnit) : FetchUnit :=
  { f with state := .fetching, nextAddress := some a, link := a, rereadWanted := false, watchStart := none }

/-- A link that is not 0 and not a multiple of 32 (R21, R24). -/
def badLink (a : Addr) : Bool := a.toNat % 32 != 0

/-- The link-watch interval expires at this TL (R23). -/
def watchExpires (s : State) : Bool := expiresAt s.fu.watchStart s.fu.watchInterval.toNat s.tb.tl

/-- LINK_WATCH_INTERVAL: a re-read is wanted (R23). -/
def takeLinkWatch (s : State) : State :=
  if watchExpires s then grant (fuPump { s with fu := { s.fu with watchStart := none, rereadWanted := true } }) else s

/-- The FU's part of a WAKE: a re-read is wanted in WATCHING unless one is requested or in flight (R23). -/
def FetchUnit.wake (linkRead : Bool) (f : FetchUnit) : FetchUnit :=
  if f.state = .watching ∧ linkRead = false then { f with rereadWanted := true } else f

/-- A link re-read is requested or in flight. -/
def linkReadOutstanding (b : BusPort) : Bool :=
  (b.fu.map fun t => t.kind) == some .linkRead ||
    (b.inFlight.map fun f => (f.orphan, f.transfer.kind)) == some (false, .linkRead)

/-! ## Start (R16) -/

/-- The FU at START_PROGRAM. -/
def FetchUnit.start (a : Addr) (f : FetchUnit) : FetchUnit where
  state := .fetching
  table := []
  nextAddress := some a
  nextSequence := 0#32
  link := f.link
  rereadWanted := false
  watchStart := none
  starvedReported := false
  abandoned := false
  doneNotice := none
  watchInterval := f.watchInterval

/-- The slot of a header that has arrived (R17). -/
def Slot.arrived (address : Addr) (sequence : Word) (h : StripHeader) : Slot where
  number := slotOfSequence sequence
  state := .fetching
  address := address
  sequence := sequence
  stepCount := h.stepCount
  stepsFetched := 0
  stepsAdmitted := 0
  outstanding := 0
  notifyRetire := h.notifyRetire
  endAdmitted := false
  entryDiscarded := false
  outcome := none

/-- The header is a bad strip: step count 0 or above 63, or a retire state that is not blank (R18, R19). -/
def badStrip (h : StripHeader) : Bool :=
  h.stepCount.toNat == 0 || h.stepCount.toNat > Config.maxStepCount || h.retireState != 0#8

/-- The slot of a bad strip (R18). -/
def Slot.reject (sl : Slot) : Slot := { sl with state := .retireReady, outcome := some .rejected }

/-- A strip becomes tracked (R17). -/
def FetchUnit.track (sl : Slot) (link : Addr) (f : FetchUnit) : FetchUnit :=
  { f with table := f.table ++ [sl], link := link }

/-- Steps have arrived for the newest strip (R20). -/
def Slot.stepsArrived (n : Nat) (sl : Slot) : Slot :=
  { sl with
    stepsFetched := sl.stepsFetched + n
    state := if sl.stepsFetched + n = sl.stepCount.toNat then .fetched else sl.state }

/-- The newest slot of the table changed. -/
def FetchUnit.onNewest (g : Slot → Slot) (f : FetchUnit) : FetchUnit :=
  { f with table := f.table.dropLast ++ (f.table.getLast?.map g).toList }

/-- All the steps of the newest tracked strip have been fetched (R21). -/
def FetchUnit.newestFetched (f : FetchUnit) : Bool :=
  match f.newest with
  | some sl => sl.state == .fetched
  | none => false

end Sys2Proof.Machine
end

