-- ==== Sys2Proof/Machine/Output.lean ====
section
/-! DEFINITION. Output.lean: the Output Stage (chapter 6): changes, suppression, resolution, dead time, and the edge
notices it sends the Guard Unit, with the blank windows they start (R123). -/
namespace Sys2Proof.Machine

/-! ## Lines and pairs -/

/-- The other line of a line's pair (R105). -/
def partner (n : Fin 16) : Fin 16 :=
  if n.val % 2 = 0 then ⟨(n.val + 1) % 16, by omega⟩ else ⟨n.val - 1, by omega⟩

/-- The pair a line belongs to (R105). -/
def pairOf (n : Fin 16) : Fin 8 := ⟨n.val / 2, by omega⟩

/-- Every line, rebuilt. -/
def OutputStage.mapLines (f : Fin 16 → Line → Line) (o : OutputStage) : OutputStage :=
  { o with lines := Vector.ofFn fun n => f n o.lines[n] }

/-- A line is forced to safe (R108). -/
def Line.forced (l : Line) : Bool := l.clampSet != 0#4 || l.await || l.covered

/-- The level the resolution calls for, before any deferral (R108, R104 for an UNUSED line). -/
def Line.target (l : Line) : Level :=
  match l.role with
  | .unused => .released
  | .sequenced => if l.forced then l.safe else l.requested

/-! ## Resolution (R108, R109) -/

/-- Falls first: a line whose target is not HIGH, or that is forced to safe, takes it at once, loses its deferred rise,
and gets a last-fall stamp if it leaves HIGH. -/
def Line.settleFall (t : Time) (l : Line) : Line :=
  if l.target = .high then
    if l.forced then { l with driven := .high, deferred := none } else l
  else
    { l with driven := l.target, deferred := none, lastFall := if l.driven = .high then some t else l.lastFall }

/-- A rise of `l` in pair `p` is deferred to this TL, if at all, by the partner's last fall (R109). -/
def deferredTo (t : Time) (p : Pair) (partnerFall : Option Time) : Option Time :=
  match p.enabled, partnerFall with
  | true, some f => if elapsed f t < p.deadTime.toNat then some (f + p.deadTime.setWidth 48) else none
  | _, _ => none

/-- Then rises: a line that calls for HIGH and is not HIGH rises, keeps its deferral, or is deferred (R109). -/
def Line.judgeRise (t : Time) (p : Pair) (partnerFall : Option Time) (l : Line) : Line :=
  if l.target = .high ∧ l.driven ≠ .high ∧ (l.deferred = none ∨ p.enabled = false) then
    match deferredTo t p partnerFall with
    | some due => { l with deferred := some due }
    | none => { l with driven := .high, deferred := none }
  else l

/-- The falls of an event. -/
def OutputStage.settleFalls (t : Time) (o : OutputStage) : OutputStage := o.mapLines fun _ => Line.settleFall t

/-- The rises of an event, judged against the falls it recorded. -/
def OutputStage.judgeRises (t : Time) (o : OutputStage) : OutputStage :=
  o.mapLines fun n => Line.judgeRise t o.pairs[pairOf n] o.lines[partner n].lastFall

/-- The resolution that ends every event of the OS (R108). -/
def OutputStage.resolve (t : Time) (o : OutputStage) : OutputStage := (o.settleFalls t).judgeRises t

/-- The lines whose rise this resolution defers (R109). -/
def OutputStage.newDeferrals (t : Time) (o : OutputStage) : List (Fin 16) :=
  (List.finRange 16).filter fun n =>
    (o.settleFalls t).lines[n].deferred.isNone && (o.resolve t).lines[n].deferred.isSome

/-- The lines whose driven state differs (R113). -/
def drivenChanges (before after : OutputStage) : List (Fin 16) :=
  (List.finRange 16).filter fun n => before.lines[n].driven != after.lines[n].driven

/-! ## Edge notices and blank windows (R113, R123) -/

/-- The later of two TL values, both ahead of `t` (R123, R11). -/
def laterOf (t a b : Time) : Time := if elapsed t a < elapsed t b then b else a

/-- An input takes the edge notices of one OS event at TL `t` (R123). -/
def FaultInput.blank (t : Time) (edges : List (Fin 16)) (i : FaultInput) : FaultInput :=
  if i.state ≠ .off ∧ i.blankLength ≠ 0#16 ∧ edges.any (fun m => i.blankMask.getLsbD m.val) = true then
    let w := t + i.blankLength.setWidth 48
    { i with blankUntil := some (match i.blankUntil with
        | some u => laterOf t u w
        | none => w) }
  else i

/-- Every fault input, rebuilt. -/
def GuardUnit.mapInputs (f : Fin 4 → FaultInput → FaultInput) (g : GuardUnit) : GuardUnit :=
  { g with inputs := Vector.ofFn fun n => f n g.inputs[n] }

/-- The GU takes the edge notices of one OS event (R123). -/
def GuardUnit.blank (t : Time) (edges : List (Fin 16)) (g : GuardUnit) : GuardUnit :=
  g.mapInputs fun _ => FaultInput.blank t edges

/-- The end of an OS event: resolution at the present TL, the rises deferred tally, the edge notices (R108, R109,
R113). -/
def osResolve (s : State) : State :=
  { s with
    os := s.os.resolve s.tb.tl
    ev := s.ev.count .risesDeferred (s.os.newDeferrals s.tb.tl).length
    gu := s.gu.blank s.tb.tl (drivenChanges s.os (s.os.resolve s.tb.tl)) }

/-- An OS event that changes line and pair records by `f`, then resolves. -/
def osEvent (f : OutputStage → OutputStage) (s : State) : State := osResolve { s with os := f s.os }

/-! ## Changes of requested levels (R106, R107, R117, R118) -/

/-- One change of an application: each line of the mask takes HIGH where its bit of `levels` is 1, else LOW. -/
structure Change where
  mask : Half
  levels : Half
  deriving DecidableEq, Repr

/-- The level a bit stands for (3.1). -/
def levelOfBit (b : Bool) : Level := if b then .high else .low

/-- A line takes a new request and loses its await flag; an UNUSED line keeps RELEASED (R104, R106). -/
def Line.ask (v : Level) (l : Line) : Line :=
  if l.role = .sequenced then { l with requested := v, await := false } else l

/-- A change is made (R106). -/
def OutputStage.change (c : Change) (o : OutputStage) : OutputStage :=
  o.mapLines fun n l => if c.mask.getLsbD n.val then l.ask (levelOfBit (c.levels.getLsbD n.val)) else l

/-- Pair `k` is enabled and requested both HIGH. -/
def OutputStage.bothHigh (o : OutputStage) (k : Fin 8) : Bool :=
  o.pairs[k].enabled && o.lines[lowerLine k].requested == .high && o.lines[upperLine k].requested == .high

/-- The pairs that suppression rewrites (R107). -/
def OutputStage.shootPairs (o : OutputStage) : List (Fin 8) := (List.finRange 8).filter o.bothHigh

/-- Suppression rewrites both requests of those pairs to LOW; await flags stay (R107). -/
def OutputStage.suppress (o : OutputStage) : OutputStage :=
  o.mapLines fun n l => if o.bothHigh (pairOf n) then { l with requested := .low } else l

/-- A SHOOT record (R107). -/
def shootRecord (tl : Time) (k : Fin 8) : Record where
  kind := .shoot
  source := byteOf k.val
  flags := 0#8
  stamp := stampOf tl
  value1 := 0#32
  value2 := 0#32

/-- Shoot-through suppression after a change: the rewrite, a SHOOT record for each pair, the tally (R107). -/
def suppressShoot (s : State) : State :=
  s.os.shootPairs.foldl (fun s k => offer (shootRecord s.tb.tl k) s)
    { s with os := s.os.suppress, ev := s.ev.count .shootThroughs s.os.shootPairs.length }

/-- One change of a batch with the suppression that follows it. -/
def makeChange (s : State) (c : Change) : State := suppressShoot { s with os := s.os.change c }

/-- An application batch: its changes in order, then one resolution (R106). -/
def osBatch (cs : List Change) (s : State) : State :=
  if cs = [] then s else osResolve (cs.foldl makeChange s)

/-- The request a stop level asks for (R117). -/
def StopLevel.level : StopLevel → Option Level
  | .keep => none
  | .low => some .low
  | .high => some .high
  | .released => some .released

/-- The end-level change of STOPPED, FAULTED and TRIPPED (R117). -/
def OutputStage.endLevels (o : OutputStage) : OutputStage :=
  o.mapLines fun _ l => match l.stop.level with
    | some v => l.ask v
    | none => l

/-- The OS takes the end-level change: the change, suppression, resolution (R117). -/
def osEndLevels (s : State) : State := osResolve (suppressShoot { s with os := s.os.endLevels })

/-! ## Guard notices (R114) -/

/-- Clamp on: FLTn joins the clamp set of each SEQUENCED line of the mask. -/
def OutputStage.clampOn (n : Fin 4) (mask : Half) (o : OutputStage) : OutputStage :=
  o.mapLines fun m l =>
    if mask.getLsbD m.val ∧ l.role = .sequenced then { l with clampSet := l.clampSet ||| faultBit n } else l

/-- Clamp off: FLTn leaves every clamp set; with the await option the lines it clamped await. -/
def OutputStage.clampOff (n : Fin 4) (awaitOption : Bool) (o : OutputStage) : OutputStage :=
  o.mapLines fun _ l =>
    if l.clampSet.getLsbD n.val then
      { l with clampSet := l.clampSet &&& ~~~ faultBit n, await := l.await || awaitOption }
    else l

/-- Trip coverage set. -/
def OutputStage.cover (mask : Half) (o : OutputStage) : OutputStage :=
  o.mapLines fun m l => if mask.getLsbD m.val then { l with covered := true } else l

/-- Trip coverage cleared. -/
def OutputStage.uncover (o : OutputStage) : OutputStage := o.mapLines fun _ l => { l with covered := false }

/-! ## New dead times (R112) -/

/-- A deferred rise is recomputed from the partner's last fall and the new dead time. -/
def Line.recomputeDeferral (t : Time) (p : Pair) (partnerFall : Option Time) (l : Line) : Line :=
  if l.deferred.isSome ∧ p.enabled then { l with deferred := deferredTo t p partnerFall } else l

/-- The eight pairs take new dead times. -/
def OutputStage.setDeadTimes (m : Limits) (o : OutputStage) : OutputStage :=
  { o with pairs := Vector.ofFn fun k => { o.pairs[k] with deadTime := m.deadTimes[k] } }

/-- New dead times, with every deferred rise recomputed. -/
def OutputStage.newDeadTimes (t : Time) (m : Limits) (o : OutputStage) : OutputStage :=
  (o.setDeadTimes m).mapLines fun n =>
    Line.recomputeDeferral t (o.setDeadTimes m).pairs[pairOf n] o.lines[partner n].lastFall

/-! ## Tick events of one line (R109, R110) -/

/-- The deferred rise of a line that falls due at TL `t` is taken: the line is driven HIGH. -/
def Line.rise (l : Line) : Line := { l with driven := .high, deferred := none }

/-- The line's deferred rise is due at this TL. -/
def riseDue (n : Fin 16) (s : State) : Bool := s.os.lines[n].deferred == some s.tb.tl

/-- DEFERRED_RISE_EXPIRY (R110): nothing if no deferral of the line is due at this TL. -/
def takeDeferredRise (n : Fin 16) (s : State) : State :=
  if riseDue n s then
    { s with
      os := { s.os with lines := s.os.lines.set n s.os.lines[n].rise }
      gu := s.gu.blank s.tb.tl (if s.os.lines[n].driven = .high then [] else [n]) }
  else s

/-- The line's last-fall stamp is 65,536 ticks old at this TL. -/
def fallExpires (n : Fin 16) (s : State) : Bool :=
  expiresAt s.os.lines[n].lastFall Config.lastFallLife s.tb.tl

/-- LAST_FALL_DISCARD (R109). -/
def takeLastFallDiscard (n : Fin 16) (s : State) : State :=
  if fallExpires n s then
    { s with os := { s.os with lines := s.os.lines.set n { s.os.lines[n] with lastFall := none } } }
  else s

/-! ## Context commit (R116) -/

/-- A line takes its part of a context; the trip-covered flag and the last-fall stamp are kept. -/
def Line.commit (c : LineConfig) (l : Line) : Line :=
  { l with
    role := c.role
    idle := c.idle
    stop := c.stop
    safe := c.safe
    requested := if c.role = .sequenced then c.idle else .released
    clampSet := 0#4
    await := false
    deferred := none }

/-- The OS's records take a context. -/
def OutputStage.commit (c : Context) (o : OutputStage) : OutputStage where
  lines := Vector.ofFn fun n => o.lines[n].commit c.lines[n]
  pairs := Vector.ofFn fun k => { enabled := c.paired.getLsbD k.val, deadTime := c.limits.deadTimes[k] }

end Sys2Proof.Machine
end

