-- ==== Sys2Proof/Machine/Guard.lean ====
section
/-! DEFINITION. Guard.lean: the Guard Unit (chapter 7): activation, release, escalation, the trip latch. Each function is
one event of the GU with the notices it sends the OS and the TB; the coverage notice and trip abort of a TRIP action stay
in gu.tripNotice until Program.lean's deliverTrip takes them, inside the same step. -/
namespace Sys2Proof.Machine

/-- Value 2 of a GUARD record: the trip mask and the trip sources (R136). -/
def guardValue2 (g : GuardUnit) : Word := fieldAt 0 g.mask.toNat ||| fieldAt 16 g.sources.toNat

/-- A GUARD record of FLTn (R136). -/
def guardRecord (s : State) (n : Fin 4) (flags : Byte) (a : GuardAction) : Record where
  kind := .guard
  source := byteOf n.val
  flags := flags
  stamp := stampOf s.tb.tl
  value1 := wordOf a.code
  value2 := guardValue2 s.gu

/-- Flag ASSERT of a GUARD record (12.3). -/
def flagAssert : Byte := 0x01#8

/-- Flag RELEASE. -/
def flagRelease : Byte := 0x02#8

/-- Flag ESCALATE. -/
def flagEscalate : Byte := 0x04#8

/-- Flag TRIP. -/
def flagTrip : Byte := 0x08#8

/-- Flag CLEARED. -/
def flagCleared : Byte := 0x10#8

/-- One fault input replaced. -/
def GuardUnit.setInput (n : Fin 4) (i : FaultInput) (g : GuardUnit) : GuardUnit := { g with inputs := g.inputs.set n i }

/-- The OS takes clamp on for FLTn (R126). -/
def clampOn (n : Fin 4) (s : State) : State := osEvent (OutputStage.clampOn n s.gu.inputs[n].clampMask) s

/-- The latch, the sources and the mask take a TRIP action of FLTn, whose coverage notice and trip abort are sent
(R128). A second TRIP action of one event joins its coverage notice and its abort to the first's (log entry 30). -/
def GuardUnit.takeTrip (n : Fin 4) (g : GuardUnit) : GuardUnit :=
  { g with
    latch := true
    sources := g.sources ||| faultBit n
    mask := g.mask ||| g.inputs[n].clampMask
    tripNotice := some (g.tripNotice.getD 0#16 ||| g.inputs[n].clampMask) }

/-- A TRIP action of FLTn (R128). -/
def takeTripAction (n : Fin 4) (s : State) : State := { s with gu := s.gu.takeTrip n }

/-- The input's own fields at its activation (R125, R127). -/
def FaultInput.activate (tl : Time) (i : FaultInput) : FaultInput :=
  { i with state := .active, holdStart := if i.action = .hold then some tl else i.holdStart }

/-- The record, events and tallies of an activation (R125, points 2 to 4). -/
def reportActivation (n : Fin 4) (s : State) : State :=
  match s.gu.inputs[n].action with
  | .trip =>
    count .trips 1 (count .guardActivations 1 (raise .trip (raise .guard
      (offer (guardRecord s n (flagAssert ||| flagTrip) .trip) s))))
  | a => count .guardActivations 1 (raise .guard (offer (guardRecord s n flagAssert a) s))

/-- The notices of an activation to the OS and the TB (R126, R127). -/
def notifyActivation (n : Fin 4) (s : State) : State :=
  match s.gu.inputs[n].action with
  | .note => s
  | .clamp => clampOn n s
  | .hold => addGuardHold n (clampOn n s)
  | .trip => s

/-- A TRIP input's action on the latch, at its activation. -/
def tripIfTrip (n : Fin 4) (s : State) : State :=
  if s.gu.inputs[n].action = .trip then takeTripAction n s else s

/-- The input becomes ACTIVE. -/
def activateInput (n : Fin 4) (s : State) : State :=
  { s with gu := s.gu.setInput n (s.gu.inputs[n].activate s.tb.tl) }

/-- An activation of FLTn (R125). -/
def activate (n : Fin 4) (s : State) : State :=
  notifyActivation n (reportActivation n (tripIfTrip n (activateInput n s)))

/-- The input's own fields at its release (R129). -/
def FaultInput.release (i : FaultInput) : FaultInput :=
  { i with state := .quiet, holdStart := if i.action = .hold then none else i.holdStart, escalated := false }

/-- The await option of a clamp-off notice (R129). -/
def awaitOption (i : FaultInput) : Bool := i.policy == .onNextAction

/-- The OS takes clamp off for FLTn (R129). -/
def clampOff (n : Fin 4) (s : State) : State := osEvent (OutputStage.clampOff n (awaitOption s.gu.inputs[n])) s

/-- The notices of a release to the OS and the TB (R129). -/
def notifyRelease (n : Fin 4) (s : State) : State :=
  match s.gu.inputs[n].action with
  | .note => s
  | .clamp => clampOff n s
  | .hold => removeGuardHold n (clampOff n s)
  | .trip => s

/-- The input becomes QUIET. -/
def releaseInput (n : Fin 4) (s : State) : State := { s with gu := s.gu.setInput n s.gu.inputs[n].release }

/-- The GUARD record of a release. -/
def reportRelease (n : Fin 4) (s : State) : State :=
  offer (guardRecord s n flagRelease s.gu.inputs[n].action) s

/-- A release of FLTn (R129). -/
def release (n : Fin 4) (s : State) : State := notifyRelease n (reportRelease n (releaseInput n s))

/-- The GU's own part of an escalation: the escalated flag and the TRIP action (R131, points 3 and 4). -/
def escalateTrip (n : Fin 4) (s : State) : State :=
  takeTripAction n (removeGuardHold n
    { s with gu := s.gu.setInput n { s.gu.inputs[n] with escalated := true } })

/-- The record, events and tallies of an escalation (R131, points 1, 2 and 5). -/
def reportEscalation (n : Fin 4) (s : State) : State :=
  count .trips 1 (raise .trip (raise .guard (count .holdEscalations 1
    (offer (guardRecord s n (flagEscalate ||| flagTrip) .hold) s))))

/-- An escalation of the hold of FLTn (R131). -/
def escalate (n : Fin 4) (s : State) : State := reportEscalation n (escalateTrip n s)

/-- The hold of an input is watched (R131). -/
def FaultInput.watched (i : FaultInput) : Bool :=
  i.state == .active && i.action == .hold && !i.escalated && i.holdLimit != 0#32

/-- The GU takes new blank lengths and hold limits (R132). -/
def GuardUnit.setLimits (m : Limits) (g : GuardUnit) : GuardUnit :=
  g.mapInputs fun n i => { i with blankLength := m.blankLengths[n], holdLimit := m.holdLimits[n] }

/-- The hold of FLTn has already reached its new limit (R132). -/
def overLimit (n : Fin 4) (s : State) : Bool :=
  s.gu.inputs[n].watched &&
    match s.gu.inputs[n].holdStart with
    | some h => s.gu.inputs[n].holdLimit.toNat ≤ elapsed h s.tb.tl
    | none => false

/-- A hold in progress judged against its new limit (R132). -/
def judgeHold (s : State) (n : Fin 4) : State := if overLimit n s then escalate n s else s

/-- The GU's event of new Limits (R132). Of two holds that escalate in it, the first's record shows the mask and the
sources before the second escalates (R136, log entry 31). -/
def guNewLimits (m : Limits) (s : State) : State :=
  (List.finRange 4).foldl judgeHold { s with gu := s.gu.setLimits m }

/-! ## Filtered levels and tick events -/

/-- The filtered level of FLTn becomes asserted; the sampled pin is then at the asserted level (R121, log entry 8). -/
def FaultInput.assertLevel (i : FaultInput) : FaultInput := { i with asserted := true, filterRun := 0 }

/-- The filtered level becomes deasserted (R121). -/
def FaultInput.deassertLevel (i : FaultInput) : FaultInput := { i with asserted := false, filterRun := 0 }

/-- The pin level that asserts an input. -/
def Polarity.assertedPin : Polarity → Bool
  | .assertedHigh => true
  | .assertedLow => false

/-- FLTn is sampled at this level. -/
def setFaultPin (n : Fin 4) (b : Bool) (p : Pins) : Pins :=
  { p with faults := if b then p.faults ||| faultBit n else p.faults &&& ~~~ faultBit n }

/-- The state after the filtered level of FLTn becomes asserted, before any recognition. -/
def levelAsserted (n : Fin 4) (s : State) : State :=
  { s with
    gu := s.gu.setInput n s.gu.inputs[n].assertLevel
    pins := setFaultPin n s.gu.inputs[n].polarity.assertedPin s.pins }

/-- The state after the filtered level of FLTn becomes deasserted, before any release. -/
def levelDeasserted (n : Fin 4) (s : State) : State :=
  { s with
    gu := s.gu.setInput n s.gu.inputs[n].deassertLevel
    pins := setFaultPin n (!s.gu.inputs[n].polarity.assertedPin) s.pins }

/-- A candidate assertion is recognized unless the input is blanked (R124). -/
def recognizeAssertion (n : Fin 4) (s : State) : State :=
  if s.gu.inputs[n].state = .quiet ∧ s.gu.inputs[n].blankUntil = none then activate n s else s

/-- A deassertion releases an ACTIVE input (R129). -/
def recognizeDeassertion (n : Fin 4) (s : State) : State :=
  if s.gu.inputs[n].state = .active then release n s else s

/-- The input is sampled and its filtered level can still become asserted (R121). -/
def canAssert (n : Fin 4) (s : State) : Bool := s.gu.inputs[n].state != .off && !s.gu.inputs[n].asserted

/-- The input is sampled and its filtered level can still become deasserted (R121). -/
def canDeassert (n : Fin 4) (s : State) : Bool := s.gu.inputs[n].state != .off && s.gu.inputs[n].asserted

/-- The blank window of FLTn ends at this TL (R124). -/
def blankEnds (n : Fin 4) (s : State) : Bool := s.gu.inputs[n].blankUntil == some s.tb.tl

/-- Blank-until becomes absent. -/
def clearBlank (n : Fin 4) (s : State) : State :=
  { s with gu := s.gu.setInput n { s.gu.inputs[n] with blankUntil := none } }

/-- A QUIET input whose filtered level is asserted is recognized (R124). -/
def judgeBlanked (n : Fin 4) (s : State) : State :=
  if s.gu.inputs[n].state = .quiet ∧ s.gu.inputs[n].asserted = true then activate n s else s

/-- The blank-end event of FLTn (R124). -/
def endBlank (n : Fin 4) (s : State) : State := judgeBlanked n (clearBlank n s)

/-- The hold of FLTn reaches its limit at this TL (R131). -/
def holdExpires (n : Fin 4) (s : State) : Bool :=
  s.gu.inputs[n].watched && expiresAt s.gu.inputs[n].holdStart s.gu.inputs[n].holdLimit.toNat s.tb.tl

/-! ## CLEAR_TRIP (R134) -/

/-- Some input in the trip sources is ACTIVE. -/
def sourceActive (g : GuardUnit) : Bool :=
  (List.finRange 4).any fun n => g.sources.getLsbD n.val && g.inputs[n].state == .active

/-- The GUARD record of an accepted CLEAR_TRIP (R136). -/
def clearedRecord (tl : Time) : Record where
  kind := .guard
  source := noSource
  flags := flagCleared
  stamp := stampOf tl
  value1 := 0xFFFFFFFF#32
  value2 := 0#32

/-- The latch, the sources and the mask are cleared. -/
def GuardUnit.clearTrip (g : GuardUnit) : GuardUnit := { g with latch := false, sources := 0#4, mask := 0#16 }

/-- An accepted CLEAR_TRIP: the latch, the record, the coverage (R134). -/
def clearLatch (s : State) : State :=
  osEvent OutputStage.uncover (offer (clearedRecord s.tb.tl) { s with gu := s.gu.clearTrip })

/-! ## Context commit and reset (R122, R138) -/

/-- An input takes its part of a context (R122). -/
def FaultInput.commit (c : InputConfig) (blankLength : Half) (holdLimit : Word) : FaultInput where
  enable := c.enable
  polarity := c.polarity
  filterLength := c.filterLength
  action := c.action
  clampMask := c.clampMask
  blankMask := c.blankMask
  policy := c.policy
  blankLength := blankLength
  holdLimit := holdLimit
  state := if c.enable then .quiet else .off
  asserted := false
  filterRun := 0
  blankUntil := none
  holdStart := none
  escalated := false

/-- The GU takes a context; the trip latch, its sources and its mask are kept (R122). -/
def GuardUnit.commit (c : Context) (g : GuardUnit) : GuardUnit :=
  { g with inputs := Vector.ofFn fun n =>
      FaultInput.commit c.inputs[n] c.limits.blankLengths[n] c.limits.holdLimits[n] }

end Sys2Proof.Machine
end

