-- ==== Sys2Proof/Machine/Journal.lean ====
section
/-! DEFINITION. Journal.lean: the Journal Writer (chapter 9): seeking, writing and closing sheets, the ends of its
transfers, its intervals and its commands. `jwPump` makes the request the JW's state calls for. -/
namespace Sys2Proof.Machine

/-! ## Codes of the commands the JW owns (12.4) -/

/-- JOURNAL_FLUSH. -/
def flushCode : Byte := 10#8

/-- JOURNAL_CLOSE. -/
def closeCode : Byte := 11#8

/-! ## Sheets (9.3) -/

/-- Sheet `i` lies at base + 512 × i. -/
def JournalWriter.sheetAddress (j : JournalWriter) (i : Nat) : Addr := j.base + BitVec.ofNat 64 (512 * i)

/-- Record place `p` of sheet `i` lies at base + 512 × i + 16 + 16 × p (R158). -/
def JournalWriter.placeAddress (j : JournalWriter) (i p : Nat) : Addr :=
  j.sheetAddress i + BitVec.ofNat 64 (16 + 16 * p)

/-- A sheet opens at the next sheet index with no place allotted (R155). -/
def OpenSheet.fresh (index : Nat) : OpenSheet where
  index := index
  allotted := 0
  written := 0
  sealed := none
  firstStamp := 0#32

/-- Seal a sheet, keeping an earlier reason (R157). -/
def OpenSheet.seal (r : CloseReason) (h : OpenSheet) : OpenSheet := { h with sealed := some (h.sealed.getD r) }

/-- The open sheet is sealed and its age timer stops (R157). -/
def JournalWriter.seal (r : CloseReason) (j : JournalWriter) : JournalWriter :=
  { j with sheet := j.sheet.map (OpenSheet.seal r), ageStart := none }

/-- A place of the sheet is allotted to a record (R158). -/
def OpenSheet.allot (r : Record) (h : OpenSheet) : OpenSheet :=
  { h with
    allotted := h.allotted + 1
    firstStamp := if h.allotted = 0 then r.stamp.setWidth 32 else h.firstStamp
    sealed := if h.allotted + 1 = Config.sheetPlaces then some .full else h.sealed }

/-- The FILLED header of a sealed sheet (R159). -/
def JournalWriter.header (j : JournalWriter) (h : OpenSheet) (r : CloseReason) : SheetHeader where
  count := h.allotted
  reason := r
  opened := j.openedMark
  loaded := j.loadedMark
  sequence := j.nextSequence
  lost := j.lostCount
  firstStamp := h.firstStamp

/-! ## Losses and the ends of a close (R165, R167) -/

/-- Records counted as lost: the lost count, the tally, RECORDS_LOST. -/
def loseRecords (n : Nat) (s : State) : State := { s with jw := s.jw.lose n, ev := s.ev.lose n }

/-- The held records are given up and counted as lost. -/
def loseHeld (s : State) : State :=
  loseRecords s.jw.fifo.length { s with jw := { s.jw with fifo := [] } }

/-- The journal goes OFF; the position, the lost count and the marks are kept (R168). -/
def JournalWriter.turnOff (j : JournalWriter) : JournalWriter :=
  { j with state := .off, sheet := none, ageStart := none, recheckStart := none, rereadWanted := false }

/-- The journal goes OFF and the close completes (R165). -/
def endClose (r : Result) (s : State) : State := complete r { s with jw := s.jw.turnOff }

/-- The records written into the open sheet. -/
def JournalWriter.written (j : JournalWriter) : Nat :=
  match j.sheet with
  | some h => h.written
  | none => 0

/-- A transfer of the close ends ERROR: every held record and every record written into the open sheet is lost
(R165). -/
def closeError (s : State) : State :=
  endClose .busError (loseRecords (s.jw.fifo.length + s.jw.written) { s with jw := { s.jw with fifo := [] } })

/-- A JOURNAL_FLUSH in progress completes (R164, R167). -/
def endFlush (r : Result) (s : State) : State := if inProgressIs flushCode s then complete r s else s

/-- The journal faults; a FLUSH in progress completes with BUS_ERROR (R167). -/
def journalFault (s : State) : State :=
  endFlush .busError
    { s with jw := { s.jw with state := .faulted, ageStart := none, recheckStart := none, rereadWanted := false } }

/-! ## The request the state calls for -/

/-- Read the header of the sheet at the next sheet index (R155, R156). -/
def requestSheetHeader (s : State) : State := request .sheetHeaderRead (s.jw.sheetAddress s.jw.nextIndex) s

/-- Write the header of the sealed open sheet (R159). -/
def requestHeaderWrite (h : OpenSheet) (r : CloseReason) (s : State) : State :=
  request (.sheetHeaderWrite (s.jw.header h r)) (s.jw.sheetAddress h.index) s

/-- Allot the next place to the oldest record and request its write (R158). -/
def allotPlace (h : OpenSheet) (r : Record) (s : State) : State :=
  request (.recordWrite r) (s.jw.placeAddress h.index h.allotted)
    { s with jw := { s.jw with
        sheet := some (h.allot r)
        ageStart := if (h.allot r).sealed.isSome then none else s.jw.ageStart } }

/-- Nothing more to write into the sheet of a close: seal it CLOSED and write its header, or go OFF (R165). -/
def finishClose (h : OpenSheet) (s : State) : State :=
  if h.allotted = 0 then endClose .ok s
  else requestHeaderWrite h .closed { s with jw := s.jw.seal .closed }

/-- The next transfer of a journal with a sheet open (R158, R159, R165). -/
def writeNext (h : OpenSheet) (s : State) : State :=
  match h.sealed, s.jw.fifo with
  | some r, _ => requestHeaderWrite h r s
  | none, r :: _ => allotPlace h r s
  | none, [] => if s.jw.state = .closing then finishClose h s else s

/-- The JW makes the request its state calls for when it has no transfer outstanding. -/
def jwPump (s : State) : State :=
  if s.bp.outstanding .jw then s
  else match s.jw.state, s.jw.sheet with
    | .seeking, _ => requestSheetHeader s
    | .blocked, _ =>
      if s.jw.rereadWanted then requestSheetHeader { s with jw := { s.jw with rereadWanted := false } } else s
    | .opened, some h => writeNext h s
    | .closing, some h => writeNext h s
    | .closing, none => requestSheetHeader s
    | .opened, none | .off, _ | .faulted, _ => s

/-- The end of an event that touched the JW alone: its request, then a grant. -/
def jwRun (s : State) : State := grant (jwPump s)

/-! ## Ends of transfers -/

/-- A sheet opens: the journal is OPEN, or still CLOSING (R155, R165). -/
def openSheet (s : State) : State :=
  { s with jw := { s.jw with
      state := if s.jw.state = .closing then .closing else .opened
      sheet := some (OpenSheet.fresh s.jw.nextIndex)
      recheckStart := none
      rereadWanted := false } }

/-- A blocked episode begins (R155). -/
def blockJournal (s : State) : State :=
  raise .journalBlocked (count .blockedEpisodes 1
    { s with jw := { s.jw with state := .blocked, recheckStart := some s.tb.tl, rereadWanted := false } })

/-- The header's state field reads EMPTY (R154). -/
def sheetEmpty (d : List Byte) : Bool := byteAt d 0 == 0#8

/-- A sheet header read that is not discarded ends OK (R155, R156, R165). -/
def sheetHeaderRead (d : List Byte) (s : State) : State :=
  match s.jw.state with
  | .seeking => if sheetEmpty d then openSheet s else blockJournal s
  | .blocked =>
    if sheetEmpty d then openSheet s else { s with jw := { s.jw with recheckStart := some s.tb.tl } }
  | .closing => if sheetEmpty d then openSheet s else endClose .ok (loseHeld s)
  | .off | .opened | .faulted => s

/-- A sheet header read that is not discarded ends ERROR (R167, R165). -/
def sheetHeaderReadError (s : State) : State :=
  match s.jw.state with
  | .seeking | .blocked => journalFault s
  | .closing => closeError s
  | .off | .opened | .faulted => s

/-- A sheet header read marked for discard ends OK: a close taken while SEEKING completes with OK (R165). -/
def sheetHeaderReadDiscarded (s : State) : State :=
  if s.jw.state = .closing ∧ s.jw.sheet = none then endClose .ok s else s

/-- A sheet header read marked for discard ends ERROR: a close taken while SEEKING completes with OK all the same
(R165), and a journal that is not CLOSING, the read being one that a close taken in BLOCKED has left, faults (R167).
That R167 holds in OFF too, which R173 lets only JOURNAL_OPEN leave, is the model's choice (log entry 35). -/
def sheetHeaderReadDiscardedError (s : State) : State :=
  if s.jw.state = .closing then sheetHeaderReadDiscarded s else journalFault s

/-- The record written leaves the FIFO; the first of its sheet starts the age timer (R157, R158). -/
def JournalWriter.recordWritten (tl : Time) (j : JournalWriter) : JournalWriter :=
  match j.sheet with
  | some h =>
    { j with
      fifo := j.fifo.tail
      sheet := some { h with written := h.written + 1 }
      ageStart := if h.written = 0 ∧ h.sealed = none ∧ j.flushAge ≠ 0#32 then some tl else j.ageStart }
  | none => { j with fifo := j.fifo.tail }

/-- A record write ends ERROR (R167, R165). -/
def recordWriteError (s : State) : State :=
  if s.jw.state = .closing then closeError s
  else journalFault (loseRecords 1 { s with jw := { s.jw with fifo := s.jw.fifo.tail } })

/-- The ready count after a FILLED header of this reason (R161). -/
def JournalWriter.countReady (r : CloseReason) (j : JournalWriter) : JournalWriter :=
  { j with readyCount := if r = .full ∧ j.readyCount + 1 < j.batch then j.readyCount + 1 else 0 }

/-- SHEETS_READY is raised at this header (R161). -/
def raisesReady (r : CloseReason) (j : JournalWriter) : Bool := !(r == .full && j.readyCount + 1 < j.batch)

/-- The position after a FILLED header (R159): the lost count reduced, the sequence and the index advanced, the marks
spent, the sheet no longer the JW's. That a header whose write ends ERROR spends no mark is the model's choice (log entry
33). -/
def JournalWriter.announced (hd : SheetHeader) (j : JournalWriter) : JournalWriter :=
  { j with
    lostCount := j.lostCount - hd.lost
    nextSequence := j.nextSequence + 1#32
    nextIndex := if j.nextIndex + 1 < j.sheetCount then j.nextIndex + 1 else 0
    openedMark := j.openedMark && !hd.opened
    loadedMark := j.loadedMark && !hd.loaded
    sheet := none
    ageStart := none }

/-- What follows a FILLED header (R159, R164, R165): a close with nothing held ends, a close with records held seeks
within CLOSING, any other journal is SEEKING and a FLUSH in progress completes. -/
def afterHeader (s : State) : State :=
  if s.jw.state = .closing then
    if s.jw.fifo = [] then endClose .ok s else s
  else endFlush .ok { s with jw := { s.jw with state := .seeking } }

/-- SHEETS_READY, if this header brings it (R161). -/
def raiseReady (ready : Bool) (s : State) : State := if ready then raise .sheetsReady s else s

/-- The JW's position and the tallies after a FILLED header (R159). -/
def announceHeader (hd : SheetHeader) (s : State) : State :=
  count .recordsJournaled hd.count (count .sheetsFilled 1
    { s with jw := (s.jw.announced hd).countReady hd.reason })

/-- A FILLED header write ends OK (R159). -/
def headerWritten (hd : SheetHeader) (s : State) : State :=
  afterHeader (raiseReady (raisesReady hd.reason s.jw) (announceHeader hd s))

/-- A FILLED header write ends ERROR: every record of the sheet is lost (R167, R165). -/
def headerWriteError (s : State) : State :=
  if s.jw.state = .closing then closeError s
  else journalFault (loseRecords s.jw.written { s with jw := { s.jw with sheet := none } })

/-! ## Intervals (R156, R157) -/

/-- The sheet-recheck interval expires at this TL. -/
def recheckExpires (s : State) : Bool := expiresAt s.jw.recheckStart s.jw.recheckInterval.toNat s.tb.tl

/-- SHEET_RECHECK_INTERVAL: a re-read is wanted (R156). -/
def takeSheetRecheck (s : State) : State :=
  if recheckExpires s then jwRun { s with jw := { s.jw with recheckStart := none, rereadWanted := true } } else s

/-- The flush age of the open sheet runs out at this TL. -/
def ageExpires (s : State) : Bool := expiresAt s.jw.ageStart s.jw.flushAge.toNat s.tb.tl

/-- FLUSH_AGE: the sheet is sealed AGED (R157). -/
def takeFlushAge (s : State) : State := if ageExpires s then jwRun { s with jw := s.jw.seal .aged } else s

/-- The JW's part of a WAKE: a re-read is wanted in BLOCKED unless one is requested or in flight (R156). -/
def JournalWriter.wake (b : BusPort) (j : JournalWriter) : JournalWriter :=
  if j.state = .blocked ∧ b.outstanding .jw = false then { j with rereadWanted := true } else j

/-! ## Commands (R163 to R165), each handed to the JW as the command in progress -/

/-- JOURNAL_OPEN (R163). -/
def takeJournalOpen (s : State) : State :=
  if s.cp.contextLoaded = false then complete .noContext s
  else if s.jw.state ≠ .off then complete .state s
  else jwRun (complete .ok { s with jw := { s.jw with state := .seeking, openedMark := true } })

/-- JOURNAL_FLUSH (R164). -/
def takeJournalFlush (s : State) : State :=
  match s.jw.state, s.jw.sheet with
  | .opened, some h => if h.allotted = 0 then complete .ok s else jwRun { s with jw := s.jw.seal .flush }
  | _, _ => complete .state s

/-- The header read in flight, or waiting, is marked for discard (R165). -/
def discardSheetRead (s : State) : State := { s with bp := s.bp.discardIf fun k => k == .sheetHeaderRead }

/-- A close taken in SEEKING waits for its header read and ignores it (R165). -/
def closeSeeking (s : State) : State := discardSheetRead { s with jw := { s.jw with state := .closing, sheet := none } }

/-- JOURNAL_CLOSE (R165). -/
def takeJournalClose (s : State) : State :=
  match s.jw.state with
  | .off => complete .state s
  | .opened | .closing => jwRun { s with jw := { s.jw with state := .closing } }
  | .seeking => jwRun (closeSeeking (loseHeld s))
  | .blocked => endClose .ok (discardSheetRead (loseHeld s))
  | .faulted =>
    endClose .ok (loseRecords (s.jw.fifo.length + s.jw.written) { s with jw := { s.jw with fifo := [] } })

/-! ## Context commit (R168) -/

/-- The JW takes its part of a context. -/
def JournalWriter.commit (c : Context) (j : JournalWriter) : JournalWriter :=
  { j with
    nextIndex := 0
    nextSequence := c.firstSequence
    lostCount := 0#32
    readyCount := 0
    loadedMark := true
    ageStart := none
    recheckStart := none
    rereadWanted := false
    base := c.base
    sheetCount := c.sheetCount
    batch := c.batch
    recheckInterval := c.recheckInterval
    flushAge := c.flushAge }

end Sys2Proof.Machine
end

