-- ==== Sys2Proof/Machine/Program.lean ====
section
/-! DEFINITION. Program.lean: the Schedule Unit (chapters 3 to 5): entry into STOPPING, program ends, the Limits an end
or an APPLY_LIMITS makes active, applications, admissions, the waiter, and `settle`, which ends every event whose notices
can reach several blocks. -/
namespace Sys2Proof.Machine

/-! ## Small views -/

/-- RUNNING or DRAINING: an abort ends such a program, and entries are applied (R67, R91). -/
def ProgramState.active : ProgramState → Bool
  | .running | .draining => true
  | .idle | .stopping => false

/-- An entry takes its place before the first entry that is not due earlier. -/
def insertEntry (e : Entry) : List Entry → List Entry
  | [] => [e]
  | x :: xs => if e.due.toNat ≤ x.due.toNat then e :: x :: xs else x :: insertEntry e xs

/-- Agenda order: by due time, ties in admission order (R65). -/
def agendaOrder (a : List Entry) : List Entry := a.foldr insertEntry []

/-! ## Records of the SU -/

/-- A LIMITS record (R43, R96, R179). -/
def limitsRecord (tl : Time) (flags : Nat) : Record where
  kind := .limits
  source := noSource
  flags := byteOf flags
  stamp := stampOf tl
  value1 := 0#32
  value2 := 0#32

/-- The STARTED record (R98). -/
def startedRecord (tl : Time) (a : Addr) : Record where
  kind := .program
  source := 0#8
  flags := 1#8
  stamp := stampOf tl
  value1 := a.extractLsb' 0 32
  value2 := a.extractLsb' 32 32

/-- The ENDED record (R98); bit 2 of the flags is retire-incomplete. -/
def endedRecord (s : State) (incomplete : Bool) : Record where
  kind := .program
  source := byteOf (s.su.outcome.code + 16 * s.su.reason.code)
  flags := byteOf (2 + 4 * incomplete.toNat)
  stamp := stampOf s.tb.tl
  value1 := s.su.admissionCount
  value2 := low32 s.tb.pt

/-- A MARK record (R75). -/
def markRecord (s : State) (tag : Word) : Record where
  kind := .mark
  source := noSource
  flags := 0#8
  stamp := stampOf s.tb.tl
  value1 := tag
  value2 := low32 s.tb.pt

/-- A LATE record (R54). -/
def lateRecord (s : State) (flags : Nat) (due : Nat) (tag : Word) : Record where
  kind := .late
  source := noSource
  flags := byteOf flags
  stamp := stampOf s.tb.tl
  value1 := BitVec.ofNat 32 (min (s.tb.pt.toNat - due) (2 ^ 32 - 1))
  value2 := tag

/-- A WAIT record (R59, R60): value 1 is 0 for EDGE, 1 for TIMEOUT. -/
def waitRecord (s : State) (channel : Fin 16) (timeout : Bool) : Record where
  kind := .wait
  source := byteOf channel.val
  flags := 0#8
  stamp := stampOf s.tb.tl
  value1 := wordOf timeout.toNat
  value2 := low32 s.tb.pt

/-! ## Entry into STOPPING (R94) -/

/-- Items 2 and 3 of R94 with the state, the outcome and the reason: the queue and the waiter are emptied and admission
is closed. -/
def ScheduleUnit.stop (o : ProgramOutcome) (r : Reason) (u : ScheduleUnit) : ScheduleUnit :=
  { u with program := .stopping, outcome := o, reason := r, admissionOpen := false, queue := [], waiter := none }

/-- Item 4: every entry is discarded, in agenda order, each with an action-released notice flagged discarded (R80). -/
def discardAgenda (s : State) : State :=
  { s with
    fu := (agendaOrder s.su.agenda).foldl (fun f e => f.released e.slot true) s.fu
    su := { s.su with agenda := [] } }

/-- Item 1: the admission-closed notice, if admission was still open. -/
def noticeClosed (s : State) : State := if s.su.admissionOpen then fuAdmissionClosed s else s

/-- The outcome changes the lines to their stop levels (R94, item 5). -/
def ProgramOutcome.changesLevels : ProgramOutcome → Bool
  | .stopped | .tripped | .faulted => true
  | .none | .ended | .drained => false

/-- The program enters STOPPING with this outcome and reason. -/
def enterStopping (o : ProgramOutcome) (r : Reason) (s : State) : State :=
  let n := noticeClosed s
  let s := discardAgenda { n with su := n.su.stop o r }
  if o.changesLevels then osEndLevels s else s

/-- A fault found by the SU, or a claim of the FU or the TB, taken by the SU (R36, R91). -/
def suFault (r : Reason) (s : State) : State :=
  if s.su.program.active then enterStopping .faulted r s else s

/-- A trip abort (R92). -/
def takeTripAbort (s : State) : State :=
  if s.su.program.active then enterStopping .tripped .none s else s

/-- The OS takes the coverage notice of a TRIP action (R114). -/
def coverLines (mask : Half) (s : State) : State := osEvent (OutputStage.cover mask) s

/-- The coverage notice and the trip abort of a TRIP action are taken, in a free order (R117, R128). -/
def deliverTrip (s : State) : State :=
  match s.gu.tripNotice with
  | none => s
  | some mask =>
    let n := afterDraw { s with gu := { s.gu with tripNotice := none } }
    if drawn s then coverLines mask (takeTripAbort n) else takeTripAbort (coverLines mask n)

/-! ## New active Limits (R179) -/

/-- The OS's event of new dead times (R112). -/
def osNewDeadTimes (m : Limits) (s : State) : State := osEvent (OutputStage.newDeadTimes s.tb.tl m) s

/-- The OS and the GU take the new active Limits, in a free order. -/
def deliverLimits (m : Limits) (s : State) : State :=
  if drawn s then osNewDeadTimes m (guNewLimits m (afterDraw s)) else guNewLimits m (osNewDeadTimes m (afterDraw s))

/-- The CP makes a block active: the active Limits change and the notices follow. -/
def makeActive (m : Limits) (s : State) : State := deliverLimits m { s with cp := { s.cp with active := m } }

/-- Flag REPLACED of a LIMITS record (12.3). -/
def replacedFlag (b : StagedLimits) : Nat := if b.replaced then 4 else 0

/-- The CP takes an apply request: a staged block becomes active and the SU offers its LIMITS record, flagged applied;
the notices to the OS and the GU are not sent yet. -/
def applyStaged (s : State) : State :=
  match s.cp.staged with
  | some b =>
    offer (limitsRecord s.tb.tl (1 + replacedFlag b)) { s with cp := { s.cp with active := b.limits, staged := none } }
  | none => s

/-! ## Program end (R95 to R99) -/

/-- STOP_PROGRAM (12.4). -/
def stopCode : Byte := 4#8

/-- The result of a STOP_PROGRAM AT_ONCE (R99). -/
def stopResult (incomplete : Bool) : Result := if incomplete then .busError else .ok

/-- A STOP_PROGRAM AT_ONCE in progress completes (R99). -/
def completeStop (incomplete : Bool) (s : State) : State :=
  if inProgressIs stopCode s then complete (stopResult incomplete) s else s

/-- The program becomes IDLE: its records, PROGRAM_END and the command's completion, then the new Limits, if any, reach
the OS and the GU. -/
def programEnd (incomplete : Bool) (s : State) : State :=
  let n := applyStaged { s with su := { s.su with program := .idle, retireIncomplete := incomplete } }
  let n := completeStop incomplete (raise .programEnd (offer (endedRecord n incomplete) n))
  if s.cp.staged.isSome then deliverLimits n.cp.active n else n

/-- A STOPPING program takes the retirement-done notice (R95). -/
def takeRetirementDone (s : State) : State :=
  match s.fu.doneNotice with
  | some incomplete =>
    if s.su.program = .stopping then programEnd incomplete { s with fu := { s.fu with doneNotice := none } } else s
  | none => s

/-! ## The end of an event that can reach several blocks -/

/-- The notices still out are taken: trip notices, retirement readiness, retirement done, a trip that new Limits cause,
starvation, in the order of log entry 6. Starvation is judged last, of the state the event leaves: after an END's
admission-closed notice, and after a trip abort that new Limits bring in the same step, the model's choices (log entries
32 and 36). -/
def takeNotices (s : State) : State :=
  reportStarved (deliverTrip (takeRetirementDone (fuEvaluate (deliverTrip s))))

/-- The JW and the FU make the requests their states call for, and an idle BP grants (R188). -/
def pump (s : State) : State := grant (fuPump (jwPump s))

/-- The end of an event that can send notices to the SU, the FU or the OS: they are taken, then the requests are made. -/
def settle (s : State) : State := pump (takeNotices s)

/-! ## Applications (R67 to R78) -/

/-- What an applied entry becomes: its next phase, or nothing when it leaves (R69 to R77). -/
def Entry.rekeyed (e : Entry) : Option Entry :=
  match e.kind with
  | .set | .pulseTrail | .mark | .applyLimits | .endProgram => none
  | .pulseLead => some { e with kind := .pulseTrail, due := e.due + e.width.setWidth 48 }
  | .trainLead => some { e with kind := .trainTrail, due := e.due + e.width.setWidth 48 }
  | .trainTrail =>
    if 1 < e.remaining.toNat then
      some { e with
        kind := .trainLead
        due := e.due - e.width.setWidth 48 + e.period.setWidth 48
        remaining := e.remaining - 1#16 }
    else none

/-- The change an applied entry hands the OS (R68). -/
def Entry.change (e : Entry) : Option Change :=
  match e.kind with
  | .set | .pulseLead | .trainLead => some { mask := e.mask, levels := e.pattern }
  | .pulseTrail | .trainTrail => some { mask := e.mask, levels := ~~~e.pattern }
  | .mark | .applyLimits | .endProgram => none

/-- A due entry takes its next phase in place or leaves; any other stays. -/
def Entry.afterApplication (pt : Time) (e : Entry) : Option Entry := if e.due = pt then e.rekeyed else some e

/-- The entries due at the present PT, in agenda order (equal due times: admission order). -/
def dueEntries (s : State) : List Entry := s.su.agenda.filter fun e => e.due == s.tb.pt

/-- A MARK entry (R75). -/
def applyMark (e : Entry) (s : State) : State :=
  let n := offer (markRecord s e.tag) s
  if e.notify then raise .mark n else n

/-- An APPLY_LIMITS entry, up to its LIMITS record (R76). -/
def applyLimitsEntry (s : State) : State :=
  if s.cp.staged.isSome then applyStaged s else offer (limitsRecord s.tb.tl 2) s

/-- An END entry: ENDED is the outcome the program will take; in DRAINING the drain's outcome stands (R77). -/
def ScheduleUnit.applyEnd (u : ScheduleUnit) : ScheduleUnit :=
  if u.program = .running then { u with program := .draining, outcome := .ended, reason := .none } else u

/-- The SU's own part of one application, with its records and events. -/
def applyKind (e : Entry) (s : State) : State :=
  match e.kind with
  | .set | .pulseLead | .pulseTrail | .trainLead | .trainTrail => s
  | .mark => applyMark e s
  | .applyLimits => applyLimitsEntry s
  | .endProgram => { s with su := s.su.applyEnd }

/-- The action-released notice of an entry that leaves (R79). -/
def noticeReleased (e : Entry) (s : State) : State :=
  if e.rekeyed.isNone then { s with fu := s.fu.released e.slot false } else s

/-- One application (R67). -/
def applyEntry (s : State) (e : Entry) : State := noticeReleased e (applyKind e (count .agendaApplications 1 s))

/-- A DRAINING program whose agenda is empty enters STOPPING with its pending outcome (R78, R89). -/
def drainEnd (s : State) : State :=
  if s.su.program = .draining ∧ s.su.agenda = [] then enterStopping s.su.outcome s.su.reason s else s

/-- New Limits, if any, reach the OS and the GU. -/
def deliverTaken (taken : Bool) (s : State) : State := if taken then deliverLimits s.cp.active s else s

/-- The OS takes the batch of an SU event and the Limits it made active, in a free order (R112). The GU takes the batch's
edge notices and the new Limits in that same order (log entry 29). -/
def deliverBatch (cs : List Change) (taken : Bool) (s : State) : State :=
  if taken ∧ drawn s then osBatch cs (deliverTaken taken (afterDraw s))
  else deliverTaken taken (osBatch cs (if taken then afterDraw s else s))

/-- The SU's part of an advance of PT: every due entry is applied, in agenda order. -/
def applyEntries (s : State) : State :=
  drainEnd ((dueEntries s).foldl applyEntry
    { s with su := { s.su with agenda := s.su.agenda.filterMap (Entry.afterApplication s.tb.pt) } })

/-- The entries applied make a staged block active. -/
def takesLimits (s : State) : Bool :=
  s.cp.staged.isSome && (dueEntries s).any fun e => e.kind == .applyLimits

/-- An application is outstanding: a program that applies entries has one due at the present PT. -/
def applicationDue (s : State) : Bool := s.su.program.active && !(dueEntries s).isEmpty

/-- The entries due at the present PT are applied (R67). -/
def applyDue (s : State) : State :=
  if applicationDue s then deliverBatch ((dueEntries s).filterMap Entry.change) (takesLimits s) (applyEntries s) else s

/-- APPLICATION: the SU takes the advance of PT. -/
def takeApplication (s : State) : State := if applicationDue s then settle (applyDue s) else s

/-! ## Steps (R38 to R46, R50) -/

/-- The kind needs an agenda entry (R38). -/
def needsEntry : Option StepKind → Bool
  | some .set | some .pulse | some .train | some .mark | some .applyLimits | some .endProgram => true
  | some .wait | some .anchor | none => false

/-- The kind moves lines. -/
def StepKind.movesLines : StepKind → Bool
  | .set | .pulse | .train => true
  | .wait | .anchor | .mark | .applyLimits | .endProgram => false

/-- The kind an entry has at creation (R64); WAIT and ANCHOR create none. -/
def StepKind.entryKind : StepKind → Option EntryKind
  | .set => some .set
  | .pulse => some .pulseLead
  | .train => some .trainLead
  | .mark => some .mark
  | .applyLimits => some .applyLimits
  | .endProgram => some .endProgram
  | .wait | .anchor => none

/-- The due time, formed in full (R46). -/
def dueOf (s : State) (p : Step) : Nat := (if p.baseAnchor then s.su.anchor else s.su.cursor).toNat + p.delay.toNat

/-- count × period of a TRAIN (R41). -/
def Step.trainLength (p : Step) : Nat := p.count.toNat * p.period.toNat

/-- Ticks from the due time to the last time the step must reach (R50). -/
def spanOf (k : StepKind) (p : Step) : Nat :=
  match k with
  | .pulse => p.width.toNat
  | .train => p.trainLength
  | .set | .wait | .anchor | .mark | .applyLimits | .endProgram => 0

/-- Ticks from the due time to the cursor after admission (R46). -/
def cursorStep (k : StepKind) (p : Step) : Nat :=
  match k with
  | .train => p.trainLength
  | .set | .pulse | .wait | .anchor | .mark | .applyLimits | .endProgram => 0

/-- The mask names a line, and SEQUENCED lines only (R50). -/
def maskOk (s : State) (mask : Half) : Bool :=
  mask != 0#16 && (List.finRange 16).all fun n => !mask.getLsbD n.val || s.os.lines[n].role == .sequenced

/-- The channel a WAIT names, if there is one (R50). -/
def channelOf (b : Byte) : Option (Fin 16) := if h : b.toNat < 16 then some ⟨b.toNat, h⟩ else none

/-- The late policy that applies to a kind: an END is never dropped (R54). -/
def policyFor (k : StepKind) (p : LatePolicy) : LatePolicy :=
  if k = .endProgram ∧ p = .drop then .apply else p

/-- The step is late: its kind is judged and its due time is below PT (R45, R54). -/
def isLate (k : StepKind) (p : Step) (s : State) : Bool :=
  needsEntry (some k) && dueOf s p < s.tb.pt.toNat

/-- The fields a kind uses are in range (R50, points 2 to 5). -/
def fieldsOk (k : StepKind) (p : Step) (s : State) : Bool :=
  match k with
  | .set => maskOk s p.mask
  | .pulse => maskOk s p.mask && p.width != 0#32
  | .train => maskOk s p.mask && p.count != 0#16 && p.width != 0#32 && p.width.toNat < p.period.toNat
  | .wait | .anchor | .mark | .applyLimits | .endProgram => true

/-- The times of a step with a due time are in range (R50, points 8 to 11). -/
def timesOk (k : StepKind) (p : Step) (s : State) : Bool :=
  dueOf s p + spanOf k p ≤ Config.maxTime &&
    !(isLate k p s && policyFor k s.su.latePolicy == .apply && Config.maxTime < s.tb.pt.toNat + spanOf k p)

/-- A WAIT step is valid (R50, points 6 and 7): the waiter it arms. -/
def waiterOf (p : Step) (s : State) : Option Waiter :=
  match channelOf p.channel, waitEdgeOf p.edge with
  | some c, some e =>
    if s.cx.channels[c].enable ∧ s.tb.pt.toNat + p.timeout.toNat ≤ Config.maxTime then
      some
        { channel := c
          edge := e
          deadline := if p.timeout = 0#32 then none else some (s.tb.pt + p.timeout.setWidth 48)
          timeoutStop := p.timeoutStop }
    else none
  | _, _ => none

/-! ## Admission (R48 to R58) -/

/-- An admitted step leaves the queue and is numbered, counted and noticed (R49); its entry, if any, joins the agenda as
the youngest. -/
def numberStep (q : QueuedStep) (e : Option Entry) (isEnd : Bool) (s : State) : State :=
  count .stepsAdmitted 1 { s with
    su := { s.su with
      queue := s.su.queue.tail
      admissionCount := s.su.admissionCount + 1#32
      agenda := s.su.agenda ++ e.toList }
    fu := s.fu.admitted q.slot e.isSome isEnd }

/-- The entry of a step (R64). -/
def entryOf (q : QueuedStep) (k : EntryKind) (due : Time) (s : State) : Entry where
  due := due
  kind := k
  mask := q.step.mask
  pattern := q.step.pattern
  width := q.step.width
  period := q.step.period
  remaining := q.step.count
  tag := q.step.tag
  notify := q.step.notify
  sequence := s.su.admissionCount
  slot := q.slot

/-- The cursor moves to a time formed in full, in range by R50. -/
def setCursor (t : Nat) (s : State) : State := { s with su := { s.su with cursor := BitVec.ofNat 48 t } }

/-- Admission closes at an END step or a DRAIN: the queue is discarded, a wait is cancelled, and the FU is told (R44, R47,
R62, R88). That the FU has stopped before the queue-empty notice of R47 reaches it, so that an END raises no STARVED, is
the model's choice (log entry 32). -/
def closeAdmission (s : State) : State :=
  fuAdmissionClosed { s with su := { s.su with admissionOpen := false, queue := [], waiter := none } }

/-- An ANCHOR step is admitted (R45). -/
def admitAnchor (q : QueuedStep) (s : State) : State :=
  let due := BitVec.ofNat 48 (dueOf s q.step)
  let n := numberStep q none false s
  { n with su := { n.su with cursor := due, anchor := due } }

/-- A WAIT step is admitted (R58). -/
def admitWait (q : QueuedStep) (w : Waiter) (s : State) : State :=
  let n := numberStep q none false s
  { n with su := { n.su with waiter := some w } }

/-- A timed step is admitted with an entry due at `due`; the cursor moves from the original due time; an entry due at PT
is applied in this admission (R46, R52, R55). -/
def admitEntry (q : QueuedStep) (k : StepKind) (ek : EntryKind) (due : Time) (s : State) : State :=
  let t := dueOf s q.step + cursorStep k q.step
  let n := setCursor t (numberStep q (some (entryOf q ek due s)) (k == .endProgram) s)
  let n := if k = .endProgram then closeAdmission n else n
  if due = s.tb.pt then applyDue n else n

/-- A late step is dropped (R56). -/
def admitDropped (q : QueuedStep) (k : StepKind) (s : State) : State :=
  setCursor (dueOf s q.step + cursorStep k q.step) (numberStep q none false (count .lateDropped 1 s))

/-- The LATE record and event of a late step (R54). -/
def reportLate (q : QueuedStep) (flags : Nat) (s : State) : State :=
  raise .late (offer (lateRecord s flags (dueOf s q.step) q.step.tag) s)

/-- A late step under its policy (R55 to R57). -/
def admitLate (q : QueuedStep) (k : StepKind) (ek : EntryKind) (s : State) : State :=
  match policyFor k s.su.latePolicy with
  | .apply => admitEntry q k ek s.tb.pt (count .lateApplied 1 (reportLate q 1 s))
  | .drop => admitDropped q k (reportLate q 2 s)
  | .stop => suFault .lateStop (reportLate q 0 s)

/-- A step with a due time and an entry. -/
def admitTimed (q : QueuedStep) (k : StepKind) (ek : EntryKind) (s : State) : State :=
  if isLate k q.step s then admitLate q k ek s else admitEntry q k ek (BitVec.ofNat 48 (dueOf s q.step)) s

/-- A valid step of its kind. -/
def admitValid (q : QueuedStep) (k : StepKind) (s : State) : State :=
  match k.entryKind with
  | some ek => admitTimed q k ek s
  | none => admitAnchor q s

/-- A step that names a kind other than WAIT: validated, then admitted (R50, R51). -/
def admitChecked (q : QueuedStep) (k : StepKind) (s : State) : State :=
  if fieldsOk k q.step s && timesOk k q.step s then admitValid q k s else suFault .badStep s

/-- A WAIT step: validated, then admitted. -/
def admitWaitStep (q : QueuedStep) (s : State) : State :=
  match waiterOf q.step s with
  | some w => admitWait q w s
  | none => suFault .badStep s

/-- The admission of the head step. -/
def admitStep (q : QueuedStep) (s : State) : State :=
  match stepKindOf q.step.kind with
  | none => suFault .badStep s
  | some .wait => admitWaitStep q s
  | some k => admitChecked q k s

/-- The step at the head may be admitted (R48). -/
def mayAdmit (q : QueuedStep) (s : State) : Bool :=
  s.su.program == .running && s.su.admissionOpen && s.su.waiter.isNone &&
    (!needsEntry (stepKindOf q.step.kind) || s.su.agenda.length < Config.agendaCapacity)

/-- The head step is admitted if R48 allows. -/
def admitHead (s : State) : State :=
  match s.su.queue with
  | q :: _ => if mayAdmit q s then settle (admitStep q s) else s
  | [] => s

/-- STEP_ADMISSION: an outstanding application of the present PT is taken first (log entry 4). -/
def takeStepAdmission (s : State) : State := admitHead (takeApplication s)

/-! ## The waiter (R59, R60) and the time range (R8) -/

/-- A direction matches the edge awaited. -/
def WaitEdge.accepts : WaitEdge → Edge → Bool
  | .rise, .rise | .fall, .fall | .either, _ => true
  | .rise, .fall | .fall, .rise => false

/-- The wait ends at the present PT: the waiter is disarmed, and the anchor and the cursor take PT. -/
def ScheduleUnit.waitEnded (pt : Time) (u : ScheduleUnit) : ScheduleUnit :=
  { u with waiter := none, anchor := pt, cursor := pt }

/-- The notice completes the wait. -/
def completesWait (ch : Fin 16) (e : Edge) (s : State) : Bool :=
  s.su.program == .running &&
    match s.su.waiter with
    | some w => w.channel == ch && w.edge.accepts e
    | none => false

/-- The SU takes an edge notice (R59). -/
def suEdgeNotice (ch : Fin 16) (e : Edge) (s : State) : State :=
  if completesWait ch e s then
    offer (waitRecord s ch false) { s with su := s.su.waitEnded s.tb.pt }
  else s

/-- The wait times out (R60). -/
def endWait (w : Waiter) (s : State) : State :=
  let n := offer (waitRecord s w.channel true) s
  if w.timeoutStop then suFault .waitTimeout { n with su := { n.su with waiter := none } }
  else { n with su := n.su.waitEnded s.tb.pt }

/-- WAIT_TIMEOUT (R60). -/
def takeWaitTimeout (s : State) : State :=
  match s.su.waiter with
  | some w => if w.deadline = some s.tb.pt then settle (endWait w s) else s
  | none => s

/-- TIME_RANGE: the SU takes the notice of the TB (R8). -/
def takeTimeRange (s : State) : State :=
  if s.tb.timeRangeNotice then
    settle (suFault .timeRange { s with tb := { s.tb with timeRangeNotice := false } })
  else s

/-! ## START_PROGRAM and STOP_PROGRAM (R85 to R90) -/

/-- The SU at START_PROGRAM (R63, R86). -/
def ScheduleUnit.start (u : ScheduleUnit) : ScheduleUnit :=
  { u with
    program := .running
    outcome := .none
    reason := .none
    retireIncomplete := false
    queue := []
    cursor := 0#48
    anchor := 0#48
    admissionOpen := true
    admissionCount := 0#32
    waiter := none
    agenda := [] }

/-- A program starts at the strip at `a` (R86). -/
def startAt (a : Addr) (s : State) : State :=
  settle (complete .ok (offer (startedRecord s.tb.tl a) { s with
    tb := { s.tb with pt := 0#48, timeRangeNotice := false }
    su := s.su.start
    fu := s.fu.start a }))

/-- START_PROGRAM (R85). -/
def takeStart (s : State) : State :=
  if s.su.program ≠ .idle then complete .state s
  else if s.cp.contextLoaded = false then complete .noContext s
  else if s.gu.latch then complete .tripped s
  else if (argument s).toNat % 32 ≠ 0 then complete .badArgument s
  else startAt (argument s) s

/-- DRAIN accepted (R88): the command completes, and an empty agenda ends the program at once (R89). -/
def drainProgram (s : State) : State :=
  let n := closeAdmission s
  settle (drainEnd (complete .ok
    { n with su := { n.su with program := .draining, outcome := .drained, reason := .none } }))

/-- STOP_PROGRAM DRAIN (R88). -/
def takeDrain (s : State) : State :=
  match s.su.program with
  | .idle | .stopping => complete .notRunning s
  | .draining => complete .state s
  | .running => drainProgram s

/-- STOP_PROGRAM AT_ONCE (R90); it completes at the program's end. -/
def takeStopAtOnce (s : State) : State :=
  match s.su.program with
  | .idle | .stopping => complete .notRunning s
  | .running | .draining => settle (enterStopping .stopped .none s)

/-- STOP_PROGRAM by its operand (R88, 12.4). -/
def takeStop (op : Half) (s : State) : State :=
  if op = 1#16 then takeDrain s else if op = 2#16 then takeStopAtOnce s else complete .badArgument s

end Sys2Proof.Machine
end

