-- ==== Sys2Proof/Machine/Capture.lean ====
section
/-! DEFINITION. Capture.lean: the Capture Unit (chapter 8): recognized edges, the four measurement modes, decimation. -/
namespace Sys2Proof.Machine

/-! ## Measurement (R143 to R147) -/

/-- The direction the edge select names is this one; BOTH names each (R142, R143). -/
def EdgeSelect.names : EdgeSelect → Edge → Bool
  | .rise, .rise | .fall, .fall | .both, _ => true
  | .rise, .fall | .fall, .rise => false

/-- A difference of stamps as reported (R147). -/
def reported (d : Nat) : Word := if d < 2 ^ 32 then BitVec.ofNat 32 d else BitVec.allOnes 32

/-- A difference is limited (R147). -/
def limited (d : Nat) : Bool := !decide (d < 2 ^ 32)

/-- A capture record of a channel; bit 0 of the flags is SATURATED (12.3). -/
def captureRecord (kind : RecordKind) (n : Fin 16) (t : Time) (saturated : Bool) (v1 v2 : Word) : Record where
  kind := kind
  source := byteOf n.val
  flags := byteOf saturated.toNat
  stamp := stampOf t
  value1 := v1
  value2 := v2

/-- The value of a direction in a CAPTURE_EDGE record (12.3). -/
def edgeCode : Edge → Nat
  | .rise => 0
  | .fall => 1

/-- The CAPTURE_EDGE record of a selected edge (R143). -/
def edgeMeasure (n : Fin 16) (t : Time) (e : Edge) (c : Channel) : Option Record :=
  if c.select.names e then
    some (captureRecord .captureEdge n t false (wordOf (edgeCode e)) ((t.extractLsb' 40 8).setWidth 32))
  else none

/-- The CAPTURE_INTERVAL record of a leading edge after another (R144). -/
def intervalMeasure (n : Fin 16) (t : Time) (e : Edge) (c : Channel) : Option Record :=
  match c.select.names e, c.lastLeading with
  | true, some s => some (captureRecord .captureInterval n t (limited (elapsed s t)) (reported (elapsed s t)) 0#32)
  | _, _ => none

/-- The CAPTURE_WIDTH record of a trailing edge that closes a width (R145). -/
def widthMeasure (n : Fin 16) (t : Time) (e : Edge) (c : Channel) : Option Record :=
  match c.select.names e, c.phase with
  | false, some s => some (captureRecord .captureWidth n t (limited (elapsed s t)) (reported (elapsed s t)) 0#32)
  | _, _ => none

/-- The CAPTURE_CYCLE record of a leading edge that ends a full cycle (R146). -/
def cycleMeasure (n : Fin 16) (t : Time) (e : Edge) (c : Channel) : Option Record :=
  match c.select.names e, c.lastLeading, c.phase with
  | true, some s, some u =>
    some (captureRecord .captureCycle n t (limited (elapsed s t) || limited (elapsed s u)) (reported (elapsed s t))
      (reported (elapsed s u)))
  | _, _, _ => none

/-- The measurement an edge completes, by mode. -/
def measure (n : Fin 16) (t : Time) (e : Edge) (c : Channel) : Option Record :=
  match c.mode with
  | .edge => edgeMeasure n t e c
  | .interval => intervalMeasure n t e c
  | .width => widthMeasure n t e c
  | .cycle => cycleMeasure n t e c

/-- The would-be record: a completed measurement while the record flag is set. -/
def wouldBe (n : Fin 16) (t : Time) (e : Edge) (c : Channel) : Option Record :=
  if c.record then measure n t e c else none

/-- The measurement state after an edge with stamp `t` (R143 to R146). -/
def Channel.stamped (t : Time) (e : Edge) (c : Channel) : Channel :=
  match c.mode, c.select.names e with
  | .edge, _ => c
  | .interval, true => { c with lastLeading := some t }
  | .interval, false => c
  | .width, true => { c with phase := some t }
  | .width, false => { c with phase := none }
  | .cycle, true => { c with lastLeading := some t, phase := none }
  | .cycle, false => if c.lastLeading.isSome then { c with phase := some t } else c

/-! ## Decimation (R148) -/

/-- The would-be record that brings the counter to N is let through. -/
def Channel.letsThrough (c : Channel) : Bool := c.decimation ≤ c.decimationCount + 1

/-- The counter after a would-be record. -/
def Channel.decimated (c : Channel) : Channel :=
  { c with decimationCount := if c.letsThrough then 0 else c.decimationCount + 1 }

/-- The record an edge offers. -/
def offeredBy (n : Fin 16) (t : Time) (e : Edge) (c : Channel) : Option Record :=
  if c.letsThrough then wouldBe n t e c else none

/-- The filtered level a direction ends at. -/
def edgeLevel : Edge → Bool
  | .rise => true
  | .fall => false

/-- The channel after a recognized edge with stamp `t` (R141). -/
def Channel.edge (n : Fin 16) (t : Time) (e : Edge) (c : Channel) : Channel :=
  let after := { c.stamped t e with high := edgeLevel e, filterRun := 0 }
  if (wouldBe n t e c).isSome then after.decimated else after

/-! ## The event (R141) -/

/-- INn is sampled at this level. -/
def setInputPin (n : Fin 16) (b : Bool) (p : Pins) : Pins :=
  { p with inputs := if b then p.inputs ||| (1#16 <<< n.val) else p.inputs &&& ~~~(1#16 <<< n.val) }

/-- One channel replaced. -/
def CaptureUnit.setChannel (n : Fin 16) (c : Channel) (x : CaptureUnit) : CaptureUnit :=
  { x with channels := x.channels.set n c }

/-- The edge is a change of the filtered level of an enabled channel. -/
def canRecognize (n : Fin 16) (e : Edge) (s : State) : Bool :=
  s.cx.channels[n].enable && s.cx.channels[n].high != edgeLevel e

/-- An optional record is offered. -/
def offerSome (r : Option Record) (s : State) : State :=
  match r with
  | some r => offer r s
  | none => s

/-- The edge notice and the capture record of one edge reach the SU and the JW in a free order (R149). -/
def noticeEdge (n : Fin 16) (e : Edge) (r : Option Record) (s : State) : State :=
  if drawn s then suEdgeNotice n e (offerSome r (afterDraw s)) else offerSome r (suEdgeNotice n e (afterDraw s))

/-- A recognized edge. -/
def recognizeEdge (n : Fin 16) (e : Edge) (s : State) : State :=
  noticeEdge n e (offeredBy n s.tb.tl e s.cx.channels[n])
    { s with
      cx := s.cx.setChannel n (s.cx.channels[n].edge n s.tb.tl e)
      pins := setInputPin n (edgeLevel e) s.pins }

/-- RECOGNIZED_EDGE: a wait timeout already reached is taken first (log entry 4). -/
def takeEdge (n : Fin 16) (e : Edge) (s : State) : State :=
  if canRecognize n e s then settle (recognizeEdge n e (takeWaitTimeout s)) else s

/-! ## Context commit (R150) -/

/-- A channel takes its part of a context, with the pin's level at the commit. -/
def Channel.commit (c : ChannelConfig) (pin : Bool) : Channel where
  enable := c.enable
  filterLength := c.filterLength
  mode := c.mode
  select := c.select
  record := c.record
  decimation := c.decimation
  high := c.enable && pin
  filterRun := 0
  lastLeading := none
  phase := none
  decimationCount := 0

/-- The CX takes a context. -/
def CaptureUnit.commit (c : Context) (p : Pins) : CaptureUnit where
  channels := Vector.ofFn fun n => Channel.commit c.channels[n] (p.inputs.getLsbD n.val)

end Sys2Proof.Machine
end

