-- ==== Sys2Proof/Machine/Command.lean ====
section
/-! DEFINITION. Command.lean: the Command Port (chapter 10): taking a CMD write, the checks of each command in the spec's
order, the context and Limits commits, the tally dump, and the two resets. -/
namespace Sys2Proof.Machine

/-! ## Taking a command (R169) -/

/-- The CP takes a command: last code and operand, and the copy of the argument registers (R169, R170). -/
def CommandPort.take (code : Byte) (op : Half) (p : CommandPort) : CommandPort :=
  { p with
    lastCode := code
    lastOperand := op
    inProgress := some { code := code, operand := op, arg := p.argHi ++ p.argLo } }

/-- A CMD write: no access while RESET# is asserted (R181); refused while BUSY; otherwise handed to its owner (R169). -/
def cmdWrite (code : Byte) (op : Half) (owner : State → State) (s : State) : State :=
  if s.resetAsserted then s
  else if s.cp.inProgress.isSome then raise .cmdRefused s
  else owner { s with cp := s.cp.take code op }

/-! ## LOAD_CONTEXT and STAGE_LIMITS, up to their reads (R173, R177) -/

/-- DCB read `i` covers 64 bytes at the address plus 64 × i (R173). -/
def dcbAddress (a : Addr) (i : Nat) : Addr := a + BitVec.ofNat 64 (64 * i)

/-- The next DCB read, after the bytes already in the shadow. -/
def requestDcb (s : State) : State := request .dcbRead (dcbAddress (argument s) (s.cp.shadow.length / 64)) s

/-- LOAD_CONTEXT (R173). -/
def takeLoadContext (s : State) : State :=
  if s.su.program ≠ .idle ∨ s.jw.state ≠ .off then complete .state s
  else if (argument s).toNat % 64 ≠ 0 then complete .badArgument s
  else grant (requestDcb { s with cp := { s.cp with shadow := [] } })

/-- STAGE_LIMITS (R177). -/
def takeStageLimits (s : State) : State :=
  if s.cp.contextLoaded = false then complete .noContext s
  else if (argument s).toNat % 16 ≠ 0 then complete .badArgument s
  else grant (request .limitsRead (argument s) s)

/-! ## PAUSE and RESUME (R100, R101) -/

/-- PAUSE. -/
def takePause (s : State) : State := complete .ok { s with tb := { s.tb with hostPause := true } }

/-- RESUME. -/
def takeResume (s : State) : State :=
  if s.tb.hostPause then complete .ok { s with tb := { s.tb with hostPause := false } } else complete .notPaused s

/-! ## FORCE_LINES (R118) -/

/-- The level a FORCE_LINES asks of line `n`: RELEASED, or the level of its bit. -/
def forcedLevel (release : Bool) (levels : Half) (n : Fin 16) : Level :=
  if release then .released else levelOfBit (levels.getLsbD n.val)

/-- The lines of the mask take their new requests. -/
def OutputStage.force (mask levels : Half) (release : Bool) (o : OutputStage) : OutputStage :=
  o.mapLines fun n l => if mask.getLsbD n.val then l.ask (forcedLevel release levels n) else l

/-- The mask names an UNUSED line. -/
def masksUnused (mask : Half) (o : OutputStage) : Bool :=
  (List.finRange 16).any fun n => mask.getLsbD n.val && o.lines[n].role == .unused

/-- A pair with a line in the mask would be requested both HIGH. -/
def forcesPair (mask levels : Half) (o : OutputStage) : Bool :=
  (List.finRange 8).any fun k =>
    (mask.getLsbD (lowerLine k).val || mask.getLsbD (upperLine k).val) && (o.force mask levels false).bothHigh k

/-- The mask of a FORCE_LINES: ARG_LO bits 0 to 15. -/
def forceMask (s : State) : Half := (argument s).extractLsb' 0 16

/-- Its levels: ARG_LO bits 16 to 31. -/
def forceLevels (s : State) : Half := (argument s).extractLsb' 16 16

/-- Its RELEASE: ARG_HI bit 0. -/
def forceRelease (s : State) : Bool := (argument s).getLsbD 32

/-- The accepted command's event in the OS; an empty mask changes nothing. -/
def forceLinesNow (s : State) : State :=
  if forceMask s = 0#16 then s
  else osEvent (OutputStage.force (forceMask s) (forceLevels s) (forceRelease s)) s

/-- FORCE_LINES (R118). -/
def takeForceLines (s : State) : State :=
  if s.su.program ≠ .idle then complete .state s
  else if masksUnused (forceMask s) s.os then complete .badArgument s
  else if forceRelease s = false ∧ forcesPair (forceMask s) (forceLevels s) s.os = true then complete .badArgument s
  else complete .ok (forceLinesNow s)

/-! ## CLEAR_TRIP and STAMP (R134, R166) -/

/-- CLEAR_TRIP (R134). -/
def takeClearTrip (s : State) : State :=
  if s.gu.latch = false then complete .notTripped s
  else if sourceActive s.gu then complete .stillAsserted s
  else jwRun (complete .ok (clearLatch s))

/-- A STAMP record (R166). -/
def stampRecord (s : State) : Record where
  kind := .stamp
  source := noSource
  flags := 0#8
  stamp := stampOf s.tb.tl
  value1 := low32 s.tb.pt
  value2 := (s.tb.pt.extractLsb' 32 16).setWidth 32

/-- STAMP (R166). -/
def takeStamp (s : State) : State :=
  if s.jw.state.takes then jwRun (complete .ok (offer (stampRecord s) s)) else complete .state s

/-! ## DUMP_TALLIES (R187) -/

/-- The snapshot of an accepted DUMP_TALLIES. -/
def snapshotOf (s : State) : TallySnapshot := { tl := s.tb.tl, counters := s.ev.tallies }

/-- With CLEAR every counter becomes 0. -/
def clearTallies (clear : Bool) (e : EventUnit) : EventUnit :=
  if clear then { e with tallies := Vector.replicate 16 0#32 } else e

/-- DUMP_TALLIES; operand bit 0 is CLEAR. -/
def takeDumpTallies (op : Half) (s : State) : State :=
  if (argument s).toNat % 16 ≠ 0 then complete .badArgument s
  else grant (request (.tallyWriteLow (snapshotOf s)) (argument s)
    { s with ev := clearTallies (op.getLsbD 0) s.ev, cp := { s.cp with snapshot := some (snapshotOf s) } })

/-! ## Dispatch of a code written to CMD (12.4, R172) -/

/-- A code that names no command. -/
def takeUnknown (s : State) : State := complete .unknownCommand s

/-- The owner of the command a code names takes it. -/
def ownerOf (code : Byte) (op : Half) (s : State) : State :=
  match code.toNat with
  | 1 => takeLoadContext s
  | 2 => takeStageLimits s
  | 3 => takeStart s
  | 4 => takeStop op s
  | 5 => takePause s
  | 6 => takeResume s
  | 7 => takeForceLines s
  | 8 => takeClearTrip s
  | 9 => takeJournalOpen s
  | 10 => takeJournalFlush s
  | 11 => takeJournalClose s
  | 12 => takeStamp s
  | 13 => takeDumpTallies op s
  | _ => takeUnknown s

/-! ## Resets (R180, R181) -/

/-- The lines after a soft reset keep their trip-covered flags (R119). -/
def OutputStage.softReset (o : OutputStage) : OutputStage where
  lines := Vector.ofFn fun n => { Line.reset with covered := o.lines[n].covered }
  pairs := OutputStage.reset.pairs

/-- The GU after a soft reset keeps the latch, its sources and its mask (R138). -/
def GuardUnit.softReset (g : GuardUnit) : GuardUnit :=
  { GuardUnit.reset with latch := g.latch, sources := g.sources, mask := g.mask }

/-- The TB after a soft reset keeps TL and the TBIN edge (R3, 1.7); the sampled TBIN is a pin. -/
def Timebase.softReset (t : Timebase) : Timebase :=
  { Timebase.reset with tl := t.tl, tbinEdge := t.tbinEdge, tbinPrevious := t.tbinPrevious }

/-- What both resets do: every block takes its reset values, the BP loses its requests and orphans its transfer, and the
pins, RESET#, the free orders and the queue of commands are not the part's to reset. -/
def resetPart (s : State) : State :=
  { State.reset with
    bp := s.bp.afterReset
    pins := s.pins
    resetAsserted := s.resetAsserted
    oracle := s.oracle
    pending := s.pending }

/-- SOFT_RESET (R180). -/
def softReset (s : State) : State :=
  { resetPart s with
    tb := s.tb.softReset
    os := s.os.softReset
    gu := s.gu.softReset
    ev := { EventUnit.reset with tallies := s.ev.tallies } }

/-- RESET# is asserted (R181). -/
def hardReset (s : State) : State :=
  { resetPart s with
    tb := { Timebase.reset with tbinPrevious := s.tb.tbinPrevious }
    resetAsserted := true }

/-! ## Register writes (R170, R184, R185, R190) -/

/-- A write to the register window is taken, unless RESET# is asserted (R181). -/
def registerAccess (f : State → State) (s : State) : State := if s.resetAsserted then s else f s

/-- IRQ_ENABLE is CONTROL bit 1 (R184). -/
def setIrqEnable (v : Word) (s : State) : State := { s with ev := { s.ev with irqEnable := v.getLsbD 1 } }

/-- A CONTROL write (10.4). -/
def writeControl (v : Word) (s : State) : State := if v.getLsbD 0 then softReset s else setIrqEnable v s

/-- An EVENT_MASK write (R184). -/
def writeEventMask (v : Word) (s : State) : State := { s with ev := { s.ev with mask := v.setWidth 13 } }

/-- An EVENTS write (R185). -/
def writeEvents (v : Word) (s : State) : State :=
  { s with ev := { s.ev with events := s.ev.events &&& ~~~(v.setWidth 13) } }

/-- A WAKE write, taken by the FU (R23) and the JW (R156). -/
def writeWake (s : State) : State :=
  pump { s with fu := s.fu.wake (linkReadOutstanding s.bp), jw := s.jw.wake s.bp }

/-- An ARG_LO write (R170). -/
def writeArgLo (v : Word) (s : State) : State := { s with cp := { s.cp with argLo := v } }

/-- An ARG_HI write (R170). -/
def writeArgHi (v : Word) (s : State) : State := { s with cp := { s.cp with argHi := v } }

/-- The code of a word written to CMD: bits 0 to 7 (12.2). -/
def codeOf (v : Word) : Byte := v.extractLsb' 0 8

/-- Its operand: bits 16 to 31. -/
def operandOf (v : Word) : Half := v.extractLsb' 16 16

/-- A CMD write of a word. -/
def writeCmd (v : Word) (s : State) : State :=
  cmdWrite (codeOf v) (operandOf v) (ownerOf (codeOf v) (operandOf v)) s

/-- A write at a byte offset: IDENT, STATUS, other sizes and other offsets ignore it (R190). -/
def writeRegister (offset : Nat) (size : AccessSize) (v : Word) (s : State) : State :=
  if size ≠ .bits32 then s
  else match offset with
    | 0x04 => writeControl v s
    | 0x08 => writeCmd v s
    | 0x0C => writeArgLo v s
    | 0x10 => writeArgHi v s
    | 0x18 => writeEvents v s
    | 0x1C => writeEventMask v s
    | 0x20 => writeWake s
    | _ => s

/-! ## Context commit (R175) -/

/-- The TB takes the timebase setting (R2, R3). -/
def Timebase.commit (c : Context) (p : Pins) (t : Timebase) : Timebase :=
  { t with
    source := c.source
    prescale := c.prescale
    tbinEdge := c.tbinEdge
    prescaleCount := 0
    tbinPrevious := p.tbin }

/-- The CP's own part of the commit. -/
def CommandPort.commit (c : Context) (p : CommandPort) : CommandPort :=
  { p with active := c.limits, staged := none, shadow := [] }

/-- The parts of the TB, FU, SU, CX, JW and CP: each takes its own state and sends nothing (R3, R37, R50, R150, R168). -/
def commitQuiet (c : Context) (p : Pins) (s : State) : State :=
  { s with
    tb := s.tb.commit c p
    fu := { s.fu with watchInterval := c.watchInterval }
    su := { s.su with latePolicy := c.latePolicy }
    cx := CaptureUnit.commit c p
    jw := s.jw.commit c
    cp := s.cp.commit c
    pins := p }

/-- The OS's part (R116). -/
def commitLines (c : Context) (s : State) : State := osEvent (OutputStage.commit c) s

/-- The GU's part, with its remove claims for GUARD0 to GUARD3 (R122). -/
def commitGuards (c : Context) (s : State) : State :=
  { s with gu := s.gu.commit c, tb := { s.tb with guardHolds := 0#4 } }

/-- The OS's edge notices and the GU's commit meet in a free order (R122): one draw puts all the notices of the OS's
commit before the GU's commit, or all after it; that it may not fall between two of them is the model's choice (log entry
37). -/
def commitOutputs (c : Context) (s : State) : State :=
  if drawn s then commitLines c (commitGuards c (afterDraw s)) else commitGuards c (commitLines c (afterDraw s))

/-- The seven owners take the context; with the seventh notice LOAD_CONTEXT completes. -/
def commitContext (c : Context) (p : Pins) (s : State) : State :=
  let n := commitOutputs c (commitQuiet c p s)
  complete .ok { n with cp := { n.cp with contextLoaded := true } }

/-! ## Staging commit (R178) -/

/-- The staged block after a staging commit of a program that is not IDLE. -/
def stagedAfter (m : Limits) (p : CommandPort) : StagedLimits := { limits := m, replaced := p.staged.isSome }

/-- The block becomes active in IDLE, and staged otherwise; the command completes. -/
def stageLimits (m : Limits) (s : State) : State :=
  if s.su.program = .idle then makeActive m (complete .ok s)
  else complete .ok { s with cp := { s.cp with staged := some (stagedAfter m s.cp) } }

end Sys2Proof.Machine
end

