-- ==== Sys2Proof/Machine/HostCommands.lean ====
section
/-! DEFINITION. HostCommands.lean: the meanings of the CMD writes (R169), each with the code of 12.4 and its owner. -/
namespace Sys2Proof.Machine

/-- LOAD_CONTEXT (R173). -/
def execLoadContext (operand : Half) (s : State) : Host.Outcome State Fault Refusal :=
  .next (cmdWrite 1#8 operand takeLoadContext s)

/-- STAGE_LIMITS (R177). -/
def execStageLimits (operand : Half) (s : State) : Host.Outcome State Fault Refusal :=
  .next (cmdWrite 2#8 operand takeStageLimits s)

/-- START_PROGRAM (R85). -/
def execStartProgram (operand : Half) (s : State) : Host.Outcome State Fault Refusal :=
  .next (cmdWrite 3#8 operand takeStart s)

/-- STOP_PROGRAM DRAIN (R88); an operand that names no mode is refused. -/
def execStopProgramDrain (operand : Half) (s : State) : Host.Outcome State Fault Refusal :=
  .next (cmdWrite stopCode operand (takeStop operand) s)

/-- STOP_PROGRAM AT_ONCE (R90). -/
def execStopProgramAtOnce (s : State) : Host.Outcome State Fault Refusal :=
  .next (cmdWrite stopCode 2#16 takeStopAtOnce s)

/-- PAUSE (R100). -/
def execPause (operand : Half) (s : State) : Host.Outcome State Fault Refusal :=
  .next (cmdWrite 5#8 operand takePause s)

/-- RESUME (R101). -/
def execResume (operand : Half) (s : State) : Host.Outcome State Fault Refusal :=
  .next (cmdWrite 6#8 operand takeResume s)

/-- FORCE_LINES (R118). -/
def execForceLines (operand : Half) (s : State) : Host.Outcome State Fault Refusal :=
  .next (cmdWrite 7#8 operand takeForceLines s)

/-- CLEAR_TRIP (R134). -/
def execClearTrip (operand : Half) (s : State) : Host.Outcome State Fault Refusal :=
  .next (cmdWrite 8#8 operand takeClearTrip s)

/-- JOURNAL_OPEN (R163). -/
def execJournalOpen (operand : Half) (s : State) : Host.Outcome State Fault Refusal :=
  .next (cmdWrite 9#8 operand takeJournalOpen s)

/-- JOURNAL_FLUSH (R164). -/
def execJournalFlush (operand : Half) (s : State) : Host.Outcome State Fault Refusal :=
  .next (cmdWrite flushCode operand takeJournalFlush s)

/-- JOURNAL_CLOSE (R165). -/
def execJournalClose (operand : Half) (s : State) : Host.Outcome State Fault Refusal :=
  .next (cmdWrite closeCode operand takeJournalClose s)

/-- STAMP (R166). -/
def execStamp (operand : Half) (s : State) : Host.Outcome State Fault Refusal :=
  .next (cmdWrite 12#8 operand takeStamp s)

/-- DUMP_TALLIES (R187). -/
def execDumpTallies (operand : Half) (s : State) : Host.Outcome State Fault Refusal :=
  .next (cmdWrite 13#8 operand (takeDumpTallies operand) s)

/-- UNKNOWN_COMMAND (R172). -/
def execUnknownCommand (code : Byte) (operand : Half) (s : State) : Host.Outcome State Fault Refusal :=
  .next (cmdWrite code operand (ownerOf code operand) s)

end Sys2Proof.Machine
end

