-- ==== Sys2Proof/Machine/Transfer.lean ====
section
/-! DEFINITION. Transfer.lean: the ends of master transfers (R188, R189) and what each requester does with the result. -/
namespace Sys2Proof.Machine

/-! ## The end of the transfer in flight -/

/-- The BP is idle: the transfer in flight has ended. -/
def freeBus (s : State) : State := { s with bp := { s.bp with inFlight := none } }

/-- The grant that follows the end of a transfer, when it is taken before the requester's request made in the same event
(R188, log entry 1). -/
def grantFirst (s : State) : State := if drawn s then grant (afterDraw s) else afterDraw s

/-- The transfer in flight, if it is of the kind named, ends and is handed to its requester, whose event `act` is, its
request and a grant included; one that a reset left without a requester only frees the BP (R189); an end that nothing in
flight matches is no event (log entry 5). -/
def endTransfer (p : TransferKind → Bool) (act : Transfer → State → State) (s : State) : State :=
  match s.bp.inFlight with
  | some f =>
    if p f.transfer.kind then
      if f.orphan then grant (freeBus s) else act f.transfer (grantFirst (freeBus s))
    else s
  | none => s

/-! ## FU (R17 to R24, R29, R34, R35) -/

/-- A strip header arrives (R17 to R19). -/
def takeHeader (address : Addr) (sequence : Word) (h : StripHeader) (s : State) : State :=
  let sl := Slot.arrived address sequence h
  if badStrip h then suFault .badStrip { s with fu := s.fu.track sl.reject h.link }
  else { s with fu := s.fu.track sl h.link }

/-- The steps of a step read (R20). -/
def readSteps (two : Bool) (d : List Byte) : List Step := if two then [stepOf d 0, stepOf d 32] else [stepOf d 0]

/-- Fetched steps enter the queue with their strip's slot; while admission is closed they are discarded (R47). -/
def enqueueSteps (ps : List Step) (slot : Fin 8) (u : ScheduleUnit) : ScheduleUnit :=
  if u.admissionOpen then { u with queue := u.queue ++ ps.map fun p => { step := p, slot := slot } } else u

/-- The link of a strip whose steps have all been fetched (R21). -/
def takeLink (s : State) : State :=
  if s.fu.link = 0#64 then { s with fu := s.fu.watch }
  else if badLink s.fu.link then suFault .badLink s
  else { s with fu := s.fu.follow s.fu.link }

/-- A step read ends OK (R20, R21). -/
def takeSteps (two : Bool) (d : List Byte) (s : State) : State :=
  match s.fu.newest with
  | some sl =>
    let ps := readSteps two d
    let n := { s with fu := s.fu.onNewest (Slot.stepsArrived ps.length), su := enqueueSteps ps sl.number s.su }
    if n.fu.newestFetched then takeLink n else n
  | none => s

/-- A link re-read ends OK with this value (R24). -/
def takeReread (a : Addr) (s : State) : State :=
  if a = 0#64 then { s with fu := { s.fu with link := a, watchStart := some s.tb.tl } }
  else if badLink a then suFault .badLink { s with fu := { s.fu with link := a } }
  else { s with fu := s.fu.follow a }

/-- A read of the FU ends ERROR (R34, R189). -/
def fetchError (s : State) : State := suFault .busRead (busErrorRaised s)

/-- A read of the FU whose result is marked for discard ends: an ERROR still counts (R30). -/
def discardedRead (ok : Bool) (s : State) : State := if ok then s else busErrorRaised s

/-- A retire write ends OK: the oldest slot is freed (R29). -/
def takeRetired (s : State) : State :=
  match s.fu.table with
  | sl :: rest =>
    let n := { s with fu := { s.fu with table := rest } }
    if sl.notifyRetire then raise .stripRetired n else n
  | [] => s

/-- A retire write ends ERROR: every slot is freed, and a program still active faults (R35). -/
def retireError (s : State) : State :=
  suFault .busWrite (busErrorRaised { s with fu := { s.fu with table := [], abandoned := true } })

/-- The sequence of a strip header read. -/
def TransferKind.sequence : TransferKind → Word
  | .stripHeaderRead q => q
  | _ => 0#32

/-- The step read carries two steps. -/
def TransferKind.readsTwo : TransferKind → Bool
  | .stepRead two => two
  | _ => false

/-- What STRIP_HEADER_READ_COMPLETE does at the FU. -/
def headerTaken (r : ReadResult 32) (t : Transfer) (s : State) : State :=
  match r, t.discard with
  | .ok d, false => takeHeader t.address t.kind.sequence (stripHeaderOf d.toList) s
  | .ok _, true => discardedRead true s
  | .error, false => fetchError s
  | .error, true => discardedRead false s

/-- What STEP_READ_COMPLETE does at the FU and the SU. -/
def stepsTaken (r : ReadResult 64) (t : Transfer) (s : State) : State :=
  match r, t.discard with
  | .ok d, false => takeSteps t.kind.readsTwo d.toList s
  | .ok _, true => discardedRead true s
  | .error, false => fetchError s
  | .error, true => discardedRead false s

/-- What LINK_REREAD_COMPLETE does at the FU. -/
def linkTaken (r : ReadResult 8) (t : Transfer) (s : State) : State :=
  match r, t.discard with
  | .ok d, false => takeReread (long d.toList 0) s
  | .ok _, true => discardedRead true s
  | .error, false => fetchError s
  | .error, true => discardedRead false s

/-- What RETIRE_WRITE_COMPLETE does at the FU. -/
def retireTaken (r : WriteResult) (s : State) : State :=
  match r with
  | .ok => takeRetired s
  | .error => retireError s

/-- STRIP_HEADER_READ_COMPLETE. -/
def headerEnd (r : ReadResult 32) (t : Transfer) (s : State) : State := settle (headerTaken r t s)

/-- STEP_READ_COMPLETE. -/
def stepsEnd (r : ReadResult 64) (t : Transfer) (s : State) : State := settle (stepsTaken r t s)

/-- LINK_REREAD_COMPLETE. -/
def linkEnd (r : ReadResult 8) (t : Transfer) (s : State) : State := settle (linkTaken r t s)

/-- RETIRE_WRITE_COMPLETE. -/
def retireEnd (r : WriteResult) (s : State) : State := settle (retireTaken r s)

/-! ## JW (R155 to R159, R165, R167) -/

/-- What SHEET_HEADER_READ_COMPLETE does at the JW. -/
def sheetReadTaken (r : ReadResult 16) (t : Transfer) (s : State) : State :=
  match r, t.discard with
  | .ok d, false => sheetHeaderRead d.toList s
  | .ok _, true => sheetHeaderReadDiscarded s
  | .error, false => sheetHeaderReadError (busErrorRaised s)
  | .error, true => sheetHeaderReadDiscardedError (busErrorRaised s)

/-- What RECORD_WRITE_COMPLETE does at the JW. -/
def recordTaken (r : WriteResult) (s : State) : State :=
  match r with
  | .ok => { s with jw := s.jw.recordWritten s.tb.tl }
  | .error => recordWriteError (busErrorRaised s)

/-- The header of a sheet header write. -/
def TransferKind.header? : TransferKind → Option SheetHeader
  | .sheetHeaderWrite h => some h
  | _ => none

/-- What SHEET_HEADER_WRITE_COMPLETE does at the JW. -/
def sheetWriteTaken (r : WriteResult) (t : Transfer) (s : State) : State :=
  match r, t.kind.header? with
  | .ok, some h => headerWritten h s
  | .ok, none => s
  | .error, _ => headerWriteError (busErrorRaised s)

/-- SHEET_HEADER_READ_COMPLETE. -/
def sheetReadEnd (r : ReadResult 16) (t : Transfer) (s : State) : State := jwRun (sheetReadTaken r t s)

/-- RECORD_WRITE_COMPLETE. -/
def recordEnd (r : WriteResult) (s : State) : State := jwRun (recordTaken r s)

/-- SHEET_HEADER_WRITE_COMPLETE. -/
def sheetWriteEnd (r : WriteResult) (t : Transfer) (s : State) : State := jwRun (sheetWriteTaken r t s)

/-! ## CP (R173, R177, R187) -/

/-- A transfer of the CP ends ERROR: the command completes with BUS_ERROR and what it had read or held is dropped. -/
def commandError (s : State) : State :=
  complete .busError (busErrorRaised { s with cp := { s.cp with shadow := [], snapshot := none } })

/-- The shadow holds the whole block: validated, then committed or refused (R174, R175). -/
def judgeShadow (p : Pins) (s : State) : State :=
  if dcbValid s.cp.shadow then commitContext (contextOf s.cp.shadow) p s
  else complete .badContext { s with cp := { s.cp with shadow := [] } }

/-- A DCB read ends OK (R173). -/
def takeDcb (d : List Byte) (p : Pins) (s : State) : State :=
  let n := { s with cp := { s.cp with shadow := s.cp.shadow ++ d } }
  if n.cp.shadow.length < 256 then requestDcb n else judgeShadow p n

/-- DCB_READ_COMPLETE. -/
def dcbEnd (r : ReadResult 64) (p : Pins) (s : State) : State :=
  match r with
  | .ok d => grant (takeDcb d.toList p s)
  | .error => grant (commandError s)

/-- The Limits Block is checked and committed (R177). -/
def takeLimits (d : List Byte) (s : State) : State :=
  if limitsFormatOk d 0 then stageLimits (limitsOf d 0) s else complete .badLimits s

/-- LIMITS_READ_COMPLETE. -/
def limitsEnd (r : ReadResult 48) (s : State) : State :=
  match r with
  | .ok d => settle (takeLimits d.toList s)
  | .error => grant (commandError s)

/-- The first tally write has ended OK: the second is requested at the address plus 64 (R187). -/
def requestTallyHigh (a : Addr) (t : TallySnapshot) (s : State) : State := request (.tallyWriteHigh t) (a + 64#64) s

/-- A tally write ends OK. -/
def takeTally (t : Transfer) (s : State) : State :=
  match t.kind with
  | .tallyWriteLow n => requestTallyHigh t.address n s
  | _ => complete .ok { s with cp := { s.cp with snapshot := none } }

/-- TALLY_WRITE_COMPLETE. -/
def tallyEnd (r : WriteResult) (t : Transfer) (s : State) : State :=
  match r with
  | .ok => grant (takeTally t s)
  | .error => grant (commandError s)

/-! ## Kinds, and the response timeout (R189) -/

/-- A strip header read. -/
def TransferKind.isHeaderRead : TransferKind → Bool
  | .stripHeaderRead _ => true
  | _ => false

/-- A step read. -/
def TransferKind.isStepRead : TransferKind → Bool
  | .stepRead _ => true
  | _ => false

/-- A retire write. -/
def TransferKind.isRetireWrite : TransferKind → Bool
  | .retireWrite _ => true
  | _ => false

/-- A record write. -/
def TransferKind.isRecordWrite : TransferKind → Bool
  | .recordWrite _ => true
  | _ => false

/-- A sheet header write. -/
def TransferKind.isSheetWrite : TransferKind → Bool
  | .sheetHeaderWrite _ => true
  | _ => false

/-- A tally block write. -/
def TransferKind.isTallyWrite : TransferKind → Bool
  | .tallyWriteLow _ | .tallyWriteHigh _ => true
  | _ => false

/-- A transfer that ends ERROR, handed to its requester (R189). -/
def transferError (t : Transfer) (s : State) : State :=
  match t.kind with
  | .stripHeaderRead _ => headerEnd .error t s
  | .stepRead _ => stepsEnd .error t s
  | .linkRead => linkEnd .error t s
  | .retireWrite _ => retireEnd .error s
  | .sheetHeaderRead => sheetReadEnd .error t s
  | .recordWrite _ => recordEnd .error s
  | .sheetHeaderWrite _ => sheetWriteEnd .error t s
  | .dcbRead | .limitsRead | .tallyWriteLow _ | .tallyWriteHigh _ => grant (commandError s)

/-- BUS_RESPONSE_TIMEOUT: the transfer in flight, whatever it is, ends ERROR. -/
def takeResponseTimeout (s : State) : State := endTransfer (fun _ => true) transferError s

end Sys2Proof.Machine
end

