-- ==== Sys2Proof/Machine/Tick.lean ====
section
/-! DEFINITION. Tick.lean: time (chapter 1): a tick, the events that fall due at a TL or PT value, a REFCLK period, and
what the part does when no command waits (log entry 2). -/
namespace Sys2Proof.Machine

/-! ## A tick (R4, R6, R8) -/

/-- PT advances at a tick: a program stands in a state other than IDLE and is not held (R6). -/
def ptAdvances (s : State) : Bool := s.su.program != .idle && !held s

/-- The TB takes a tick: TL advances, PT advances or stands at its limit with a time-range notice. -/
def Timebase.tick (advances : Bool) (t : Timebase) : Timebase :=
  if advances then
    if t.pt.toNat = Config.maxTime then { t with tl := t.tl + 1#48, timeRangeNotice := true }
    else { t with tl := t.tl + 1#48, pt := t.pt + 1#48 }
  else { t with tl := t.tl + 1#48 }

/-- One tick. -/
def advance (s : State) : State := { s with tb := s.tb.tick (ptAdvances s) }

/-! ## Events that a tick makes due -/

/-- BLANK_END (R124). -/
def takeBlankEnd (n : Fin 4) (s : State) : State := if blankEnds n s then settle (endBlank n s) else s

/-- HOLD_ESCALATION (R131). -/
def takeEscalation (n : Fin 4) (s : State) : State := if holdExpires n s then settle (escalate n s) else s

/-- Every event due at the present TL and PT is taken, in one fixed order (log entry 3). -/
def takeDue (s : State) : State :=
  let s := takeWaitTimeout (takeApplication (takeTimeRange s))
  let s := (List.finRange 16).foldl (fun s n => takeDeferredRise n s) s
  let s := (List.finRange 16).foldl (fun s n => takeLastFallDiscard n s) s
  let s := (List.finRange 4).foldl (fun s n => takeBlankEnd n s) s
  let s := (List.finRange 4).foldl (fun s n => takeEscalation n s) s
  takeFlushAge (takeSheetRecheck (takeLinkWatch s))

/-! ## Where a tick comes from (R1, R2) -/

/-- The TBIN level before the edge that is a tick, and after it. -/
def levelAfter : Edge → Bool
  | .rise => true
  | .fall => false

/-- The source after a tick: the prescale counter restarts at 0, or TBIN has been sampled at the level after its edge
(log entry 25). -/
def sourceTicked (s : State) : State :=
  match s.tb.source with
  | .internal => { s with tb := { s.tb with prescaleCount := 0 } }
  | .external =>
    { s with
      tb := { s.tb with tbinPrevious := levelAfter s.tb.tbinEdge }
      pins := { s.pins with tbin := levelAfter s.tb.tbinEdge } }

/-- TICK: no tick while RESET# is asserted; otherwise the events of the present tick, then the next one. -/
def takeTick (s : State) : State := if s.resetAsserted then s else advance (sourceTicked (takeDue s))

/-! ## Pin events (R121, R124, R129) -/

/-- CANDIDATE_ASSERTION. -/
def takeAssertion (n : Fin 4) (s : State) : State :=
  if canAssert n s then settle (recognizeAssertion n (levelAsserted n s)) else s

/-- DEASSERTION. -/
def takeDeassertion (n : Fin 4) (s : State) : State :=
  if canDeassert n s then jwRun (recognizeDeassertion n (levelDeasserted n s)) else s

/-! ## A REFCLK period (R1, R2, R121, R140, R189) -/

/-- A filter of length `m` with run `r` changes its level at a sample that differs. -/
def filterPasses (m r : Nat) : Bool := m ≤ r + 1

/-- The sample of FLTn is asserted (R121). -/
def faultSample (n : Fin 4) (s : State) : Bool :=
  s.pins.faults.getLsbD n.val == s.gu.inputs[n].polarity.assertedPin

/-- The filter run of FLTn. -/
def setFaultRun (r : Nat) (n : Fin 4) (s : State) : State :=
  { s with gu := s.gu.setInput n { s.gu.inputs[n] with filterRun := r } }

/-- FLTn is sampled (R121). -/
def sampleFault (s : State) (n : Fin 4) : State :=
  if s.gu.inputs[n].state = .off then s
  else if faultSample n s = s.gu.inputs[n].asserted then setFaultRun 0 n s
  else if filterPasses s.gu.inputs[n].filterLength s.gu.inputs[n].filterRun then
    if faultSample n s then takeAssertion n s else takeDeassertion n s
  else setFaultRun (s.gu.inputs[n].filterRun + 1) n s

/-- The direction of a change to a level. -/
def edgeTo (high : Bool) : Edge := if high then .rise else .fall

/-- The filter run of INn. -/
def setInputRun (r : Nat) (n : Fin 16) (s : State) : State :=
  { s with cx := s.cx.setChannel n { s.cx.channels[n] with filterRun := r } }

/-- INn is sampled (R140). -/
def sampleInput (s : State) (n : Fin 16) : State :=
  if s.cx.channels[n].enable = false then s
  else if s.pins.inputs.getLsbD n.val = s.cx.channels[n].high then setInputRun 0 n s
  else if filterPasses s.cx.channels[n].filterLength s.cx.channels[n].filterRun then
    takeEdge n (edgeTo (s.pins.inputs.getLsbD n.val)) s
  else setInputRun (s.cx.channels[n].filterRun + 1) n s

/-- The two TBIN samples make a tick (R2). -/
def tbinTicks (t : Timebase) (now : Bool) : Bool :=
  match t.tbinEdge with
  | .rise => !t.tbinPrevious && now
  | .fall => t.tbinPrevious && !now

/-- The tick source after one more period. -/
def Timebase.period (now : Bool) (t : Timebase) : Timebase :=
  match t.source with
  | .internal =>
    { t with
      tbinPrevious := now
      prescaleCount := if t.prescale.toNat ≤ t.prescaleCount + 1 then 0 else t.prescaleCount + 1 }
  | .external => { t with tbinPrevious := now }

/-- The period brings a tick. -/
def Timebase.ticks (now : Bool) (t : Timebase) : Bool :=
  match t.source with
  | .internal => t.prescale.toNat ≤ t.prescaleCount + 1
  | .external => tbinTicks t now

/-- One REFCLK period of the TB. -/
def timebasePeriod (s : State) : State :=
  let n := { s with tb := s.tb.period s.pins.tbin }
  if s.tb.ticks s.pins.tbin then advance n else n

/-- The transfer in flight is one period older. -/
def BusPort.period (b : BusPort) : BusPort :=
  { b with inFlight := b.inFlight.map fun f => { f with periods := f.periods + 1 } }

/-- The transfer in flight has had no response for 100,000 periods. -/
def responseOverdue (b : BusPort) : Bool :=
  match b.inFlight with
  | some f => Config.responsePeriods ≤ f.periods
  | none => false

/-- One REFCLK period of the BP. -/
def busPeriod (s : State) : State :=
  let n := { s with bp := s.bp.period }
  if responseOverdue n.bp then takeResponseTimeout n else n

/-- One REFCLK period of the blocks that sample. -/
def samplePeriod (s : State) : State :=
  (List.finRange 16).foldl sampleInput ((List.finRange 4).foldl sampleFault s)

/-- Every admissible step is admitted, at most the steps now in the queue. -/
def admitAll (s : State) : State := s.su.queue.foldl (fun s _ => takeStepAdmission s) s

/-- No command waits: the events due are taken, the admissible steps admitted, and one REFCLK period passes; while RESET#
is asserted only the bus goes on (log entry 2). -/
def idle (s : State) : State :=
  if s.resetAsserted then busPeriod s else timebasePeriod (samplePeriod (busPeriod (admitAll (takeDue s))))

end Sys2Proof.Machine
end

