-- ==== Sys2Proof/Machine/PinEvents.lean ====
section
/-! DEFINITION. PinEvents.lean: the meanings of the filtered pin changes and of an admission. -/
namespace Sys2Proof.Machine

/-- CANDIDATE_ASSERTION (R121, R124). -/
def execCandidateAssertion (input : Fin 4) (s : State) : Host.Outcome State Fault Refusal :=
  .next (takeAssertion input s)

/-- DEASSERTION (R121, R129). -/
def execDeassertion (input : Fin 4) (s : State) : Host.Outcome State Fault Refusal := .next (takeDeassertion input s)

/-- RECOGNIZED_EDGE (R141). -/
def execRecognizedEdge (channel : Fin 16) (edge : Edge) (s : State) : Host.Outcome State Fault Refusal :=
  .next (takeEdge channel edge s)

/-- STEP_ADMISSION (R48). -/
def execStepAdmission (s : State) : Host.Outcome State Fault Refusal := .next (takeStepAdmission s)

end Sys2Proof.Machine
end

