-- ==== Sys2Proof/Machine/Registers.lean ====
section
/-! DEFINITION. Registers.lean: the meanings of the register writes that are not commands of CMD (R190). -/
namespace Sys2Proof.Machine

/-- IRQ_ENABLE (R184). -/
def execIrqEnable (value : Word) (s : State) : Host.Outcome State Fault Refusal :=
  .next (registerAccess (writeControl value) s)

/-- EVENT_MASK (R184). -/
def execEventMask (value : Word) (s : State) : Host.Outcome State Fault Refusal :=
  .next (registerAccess (writeEventMask value) s)

/-- EVENTS_CLEAR (R185). -/
def execEventsClear (value : Word) (s : State) : Host.Outcome State Fault Refusal :=
  .next (registerAccess (writeEvents value) s)

/-- WAKE (R190). -/
def execWake (_value : Word) (s : State) : Host.Outcome State Fault Refusal := .next (registerAccess writeWake s)

/-- REGISTER_WRITE (R170, R190). -/
def execRegisterWrite (offset : Nat) (size : AccessSize) (value : Word) (s : State) : Host.Outcome State Fault Refusal :=
  .next (registerAccess (writeRegister offset size value) s)

end Sys2Proof.Machine
end

