-- ==== Sys2Proof/Machine/Resets.lean ====
section
/-! DEFINITION. Resets.lean: the meanings of the two resets and of the release of RESET#. -/
namespace Sys2Proof.Machine

/-- HARDWARE_RESET (R181). -/
def execHardwareReset (s : State) : Host.Outcome State Fault Refusal := .next (hardReset s)

/-- SOFT_RESET (R180): a CONTROL write, ignored while RESET# is asserted. -/
def execSoftReset (value : Word) (s : State) : Host.Outcome State Fault Refusal :=
  .next (registerAccess (writeControl value) s)

/-- RESET_RELEASE (R181). -/
def execResetRelease (s : State) : Host.Outcome State Fault Refusal := .next ({ s with resetAsserted := false })

end Sys2Proof.Machine
end

