-- ==== Sys2Proof/Machine/TimeEvents.lean ====
section
/-! DEFINITION. TimeEvents.lean: the meanings of the tick and of the events that fall due at a TL or PT value. -/
namespace Sys2Proof.Machine

/-- TICK (R4, R6). -/
def execTick (s : State) : Host.Outcome State Fault Refusal := .next (takeTick s)

/-- TIME_RANGE (R8). -/
def execTimeRange (s : State) : Host.Outcome State Fault Refusal := .next (takeTimeRange s)

/-- APPLICATION (R67). -/
def execApplication (s : State) : Host.Outcome State Fault Refusal := .next (takeApplication s)

/-- DEFERRED_RISE_EXPIRY (R110). -/
def execDeferredRiseExpiry (line : Fin 16) (s : State) : Host.Outcome State Fault Refusal :=
  .next (takeDeferredRise line s)

/-- LAST_FALL_DISCARD (R109). -/
def execLastFallDiscard (line : Fin 16) (s : State) : Host.Outcome State Fault Refusal :=
  .next (takeLastFallDiscard line s)

/-- BLANK_END (R124). -/
def execBlankEnd (input : Fin 4) (s : State) : Host.Outcome State Fault Refusal := .next (takeBlankEnd input s)

/-- HOLD_ESCALATION (R131). -/
def execHoldEscalation (input : Fin 4) (s : State) : Host.Outcome State Fault Refusal := .next (takeEscalation input s)

/-- LINK_WATCH_INTERVAL (R23). -/
def execLinkWatchInterval (s : State) : Host.Outcome State Fault Refusal := .next (takeLinkWatch s)

/-- SHEET_RECHECK_INTERVAL (R156). -/
def execSheetRecheckInterval (s : State) : Host.Outcome State Fault Refusal := .next (takeSheetRecheck s)

/-- FLUSH_AGE (R157). -/
def execFlushAge (s : State) : Host.Outcome State Fault Refusal := .next (takeFlushAge s)

/-- WAIT_TIMEOUT (R60). -/
def execWaitTimeout (s : State) : Host.Outcome State Fault Refusal := .next (takeWaitTimeout s)

/-- BUS_RESPONSE_TIMEOUT (R189). -/
def execBusResponseTimeout (s : State) : Host.Outcome State Fault Refusal := .next (takeResponseTimeout s)

end Sys2Proof.Machine
end

