-- ==== Sys2Proof/Machine/TransferEnds.lean ====
section
/-! DEFINITION. TransferEnds.lean: the meanings of the ends of master transfers (R189). -/
namespace Sys2Proof.Machine

/-- STRIP_HEADER_READ_COMPLETE (R17). -/
def execStripHeaderReadComplete (result : ReadResult 32) (s : State) : Host.Outcome State Fault Refusal :=
  .next (endTransfer TransferKind.isHeaderRead (headerEnd result) s)

/-- STEP_READ_COMPLETE (R20). -/
def execStepReadComplete (result : ReadResult 64) (s : State) : Host.Outcome State Fault Refusal :=
  .next (endTransfer TransferKind.isStepRead (stepsEnd result) s)

/-- LINK_REREAD_COMPLETE (R24). -/
def execLinkRereadComplete (result : ReadResult 8) (s : State) : Host.Outcome State Fault Refusal :=
  .next (endTransfer (· == .linkRead) (linkEnd result) s)

/-- RETIRE_WRITE_COMPLETE (R29). -/
def execRetireWriteComplete (result : WriteResult) (s : State) : Host.Outcome State Fault Refusal :=
  .next (endTransfer TransferKind.isRetireWrite (fun _ => retireEnd result) s)

/-- SHEET_HEADER_READ_COMPLETE (R155). -/
def execSheetHeaderReadComplete (result : ReadResult 16) (s : State) : Host.Outcome State Fault Refusal :=
  .next (endTransfer (· == .sheetHeaderRead) (sheetReadEnd result) s)

/-- RECORD_WRITE_COMPLETE (R158). -/
def execRecordWriteComplete (result : WriteResult) (s : State) : Host.Outcome State Fault Refusal :=
  .next (endTransfer TransferKind.isRecordWrite (fun _ => recordEnd result) s)

/-- SHEET_HEADER_WRITE_COMPLETE (R159). -/
def execSheetHeaderWriteComplete (result : WriteResult) (s : State) : Host.Outcome State Fault Refusal :=
  .next (endTransfer TransferKind.isSheetWrite (sheetWriteEnd result) s)

/-- DCB_READ_COMPLETE (R173). -/
def execDcbReadComplete (result : ReadResult 64) (pins : Pins) (s : State) : Host.Outcome State Fault Refusal :=
  .next (endTransfer (· == .dcbRead) (fun _ => dcbEnd result pins) s)

/-- LIMITS_READ_COMPLETE (R177). -/
def execLimitsReadComplete (result : ReadResult 48) (s : State) : Host.Outcome State Fault Refusal :=
  .next (endTransfer (· == .limitsRead) (fun _ => limitsEnd result) s)

/-- TALLY_WRITE_COMPLETE (R187). -/
def execTallyWriteComplete (result : WriteResult) (s : State) : Host.Outcome State Fault Refusal :=
  .next (endTransfer TransferKind.isTallyWrite (tallyEnd result) s)

end Sys2Proof.Machine
end

