-- ==== Sys2Proof/Machine/Dispatch.lean ====
section
/-! DEFINITION. Dispatch.lean: the meaning of every command, one arm per row of spec/opcode_table.json. -/
namespace Sys2Proof.Machine

/-- A command's effect on everything but the queue. -/
def exec (i : Instr) (s : State) : Host.Outcome State Fault Refusal :=
  match i with
  | .hardwareReset => Sys2Proof.Machine.execHardwareReset s
  | .softReset v => Sys2Proof.Machine.execSoftReset v s
  | .irqEnable v => Sys2Proof.Machine.execIrqEnable v s
  | .eventMask v => Sys2Proof.Machine.execEventMask v s
  | .eventsClear v => Sys2Proof.Machine.execEventsClear v s
  | .wake v => Sys2Proof.Machine.execWake v s
  | .registerWrite off size v => Sys2Proof.Machine.execRegisterWrite off size v s
  | .loadContext op => Sys2Proof.Machine.execLoadContext op s
  | .stageLimits op => Sys2Proof.Machine.execStageLimits op s
  | .startProgram op => Sys2Proof.Machine.execStartProgram op s
  | .stopProgramDrain op => Sys2Proof.Machine.execStopProgramDrain op s
  | .stopProgramAtOnce => Sys2Proof.Machine.execStopProgramAtOnce s
  | .pause op => Sys2Proof.Machine.execPause op s
  | .resume op => Sys2Proof.Machine.execResume op s
  | .forceLines op => Sys2Proof.Machine.execForceLines op s
  | .clearTrip op => Sys2Proof.Machine.execClearTrip op s
  | .journalOpen op => Sys2Proof.Machine.execJournalOpen op s
  | .journalFlush op => Sys2Proof.Machine.execJournalFlush op s
  | .journalClose op => Sys2Proof.Machine.execJournalClose op s
  | .stamp op => Sys2Proof.Machine.execStamp op s
  | .dumpTallies op => Sys2Proof.Machine.execDumpTallies op s
  | .unknownCommand code op => Sys2Proof.Machine.execUnknownCommand code op s
  | .tick => Sys2Proof.Machine.execTick s
  | .timeRange => Sys2Proof.Machine.execTimeRange s
  | .application => Sys2Proof.Machine.execApplication s
  | .deferredRiseExpiry n => Sys2Proof.Machine.execDeferredRiseExpiry n s
  | .lastFallDiscard n => Sys2Proof.Machine.execLastFallDiscard n s
  | .blankEnd n => Sys2Proof.Machine.execBlankEnd n s
  | .holdEscalation n => Sys2Proof.Machine.execHoldEscalation n s
  | .linkWatchInterval => Sys2Proof.Machine.execLinkWatchInterval s
  | .sheetRecheckInterval => Sys2Proof.Machine.execSheetRecheckInterval s
  | .flushAge => Sys2Proof.Machine.execFlushAge s
  | .waitTimeout => Sys2Proof.Machine.execWaitTimeout s
  | .busResponseTimeout => Sys2Proof.Machine.execBusResponseTimeout s
  | .candidateAssertion n => Sys2Proof.Machine.execCandidateAssertion n s
  | .deassertion n => Sys2Proof.Machine.execDeassertion n s
  | .recognizedEdge ch e => Sys2Proof.Machine.execRecognizedEdge ch e s
  | .stepAdmission => Sys2Proof.Machine.execStepAdmission s
  | .stripHeaderReadComplete r => Sys2Proof.Machine.execStripHeaderReadComplete r s
  | .stepReadComplete r => Sys2Proof.Machine.execStepReadComplete r s
  | .linkRereadComplete r => Sys2Proof.Machine.execLinkRereadComplete r s
  | .retireWriteComplete r => Sys2Proof.Machine.execRetireWriteComplete r s
  | .sheetHeaderReadComplete r => Sys2Proof.Machine.execSheetHeaderReadComplete r s
  | .recordWriteComplete r => Sys2Proof.Machine.execRecordWriteComplete r s
  | .sheetHeaderWriteComplete r => Sys2Proof.Machine.execSheetHeaderWriteComplete r s
  | .dcbReadComplete r p => Sys2Proof.Machine.execDcbReadComplete r p s
  | .limitsReadComplete r => Sys2Proof.Machine.execLimitsReadComplete r s
  | .tallyWriteComplete r => Sys2Proof.Machine.execTallyWriteComplete r s
  | .resetRelease => Sys2Proof.Machine.execResetRelease s

end Sys2Proof.Machine
end

