-- ==== Sys2Proof/Machine/Step.lean ====
section
/-! DEFINITION. Step.lean: one step of the part: the command at the front of the queue, or, with no command waiting, the
passing of one REFCLK period (log entry 2). -/
namespace Sys2Proof.Machine

/-- One step. -/
def step (s : State) : Host.Outcome State Fault Refusal :=
  match s.pending with
  | c :: rest => exec c { s with pending := rest }
  | [] => .next (idle s)

/-- The state with the command that a word spells at the front of its queue; no word spells one (log entry 21). -/
def State.withFetchWord (s : State) (nbits w : Nat) : State :=
  match decodeTableWord nbits w with
  | some c => { s with pending := c :: s.pending }
  | none => s

end Sys2Proof.Machine
end

