-- ==== Sys2Proof/Machine/Core.lean ====
section
/-! DEFINITION. Core.lean: the part as the host's interface takes it. -/

/-- The machine: its state, its (absent) faults and refusals, one step, and the state after reset. -/
def Sys2Proof.core : Host.Core where
  State := Sys2Proof.Machine.State
  Fault := Sys2Proof.Machine.Fault
  Refusal := Sys2Proof.Machine.Refusal
  step := Sys2Proof.Machine.step
  reset := Sys2Proof.Machine.State.reset
end

