-- ==== Sys2Proof/Safety.lean ====
section
/-! DEFINITION. Safety.lean: the properties that every step keeps and that statements are made about: the pair safety of
R111, the admission state of R63 and R82, the trip latch's hold on the program (R92), the capacities of R47, R66 and
R153; the premises that a state between events meets; and the words the statements are written in. -/
namespace Sys2Proof.Machine

/-! ## Output lines (R111) -/

/-- A line that is driven HIGH, or whose rise is deferred, is one that resolution drives HIGH: requested HIGH and not
forced to safe, or forced to safe with safe level HIGH. -/
def Line.driveOk (l : Line) : Prop := (l.driven = .high ∨ l.deferred ≠ none) → l.target = .high

/-- The lines of an enabled pair are SEQUENCED, have no safe level HIGH, and are not both requested HIGH. -/
def OutputStage.pairKept (o : OutputStage) (k : Fin 8) : Prop :=
  o.pairs[k].enabled = true →
    o.lines[lowerLine k].role = .sequenced ∧ o.lines[upperLine k].role = .sequenced ∧
      o.lines[lowerLine k].safe ≠ .high ∧ o.lines[upperLine k].safe ≠ .high ∧
        ¬(o.lines[lowerLine k].requested = .high ∧ o.lines[upperLine k].requested = .high)

/-- The invariant of the Output Stage. -/
def OutputStage.Safe (o : OutputStage) : Prop := (∀ n : Fin 16, o.lines[n].driveOk) ∧ ∀ k : Fin 8, o.pairKept k

/-! ## Program state (R63, R78, R82, R92) -/

/-- Admission is open only in RUNNING; while it is closed the queue is empty and no wait is in progress; an END entry in
the agenda has closed it; the agenda is empty in IDLE and STOPPING and not empty in DRAINING. -/
def ScheduleUnit.Shaped (u : ScheduleUnit) : Prop :=
  (u.admissionOpen = true → u.program = .running) ∧
    (u.admissionOpen = false → u.queue = [] ∧ u.waiter = none) ∧
      (u.admissionOpen = true → ∀ e ∈ u.agenda, e.kind ≠ .endProgram) ∧
        (u.program = .idle ∨ u.program = .stopping → u.agenda = []) ∧ (u.program = .draining → u.agenda ≠ [])

/-- No trip notice is out, and the program is IDLE or STOPPING while the trip latch is set. -/
def TripGated (s : State) : Prop :=
  s.gu.tripNotice = none ∧ (s.gu.latch = true → s.su.program = .idle ∨ s.su.program = .stopping)

/-- Steps that a step read carries. -/
def TransferKind.steps : TransferKind → Nat
  | .stepRead two => if two then 2 else 1
  | _ => 0

/-- Steps that the FU has asked for and that have not arrived: in a waiting request, or in a transfer in flight that no
reset has orphaned. -/
def stepsAwaited (b : BusPort) : Nat :=
  (b.fu.elim 0 fun t => t.kind.steps) +
    b.inFlight.elim 0 fun f => if f.orphan then 0 else f.transfer.kind.steps

/-- A requester whose own transfer is in flight has no request waiting (R33, R158). -/
def BusPort.single (o : Requester) (b : BusPort) : Prop :=
  ∀ f ∈ b.inFlight, f.orphan = false → f.transfer.kind.owner = o → b.waiting o = none

/-- A waiting request stands in its own requester's place (R188). -/
def BusPort.Filed (b : BusPort) : Prop := ∀ o t, b.waiting o = some t → t.kind.owner = o

/-- The hold FIFO, the agenda and the step queue, counted with the steps on their way to it, are within their capacities
(R47, R66, R153), the JW and the FU have at most one transfer each, and each waiting request is its requester's own. -/
def WithinCapacity (s : State) : Prop :=
  s.jw.fifo.length ≤ Config.fifoCapacity ∧ s.su.agenda.length ≤ Config.agendaCapacity ∧
    s.su.queue.length + stepsAwaited s.bp ≤ Config.queueCapacity ∧ s.bp.single .jw ∧ s.bp.single .fu ∧ s.bp.Filed

/-! ## Between events -/

/-- No notice is out: no trip, no retirement done that a STOPPING program would take, no slot left to make RETIRE_READY,
no end of retirement and no starvation left to report. -/
def Quiet (s : State) : Prop :=
  s.gu.tripNotice = none ∧ s.fu.markReady = s.fu ∧ ¬(s.fu.state = .stopped ∧ s.fu.table = []) ∧
    (s.su.program = .stopping → s.fu.doneNotice = none) ∧ starving s = false

/-- No request is left to make: neither the JW nor the FU asks for a transfer it has not asked for, and no request waits
at an idle BP. -/
def Rested (s : State) : Prop := jwPump s = s ∧ fuPump s = s ∧ s.bp.grant = s.bp

/-- Nothing is due at the present TL and PT: no event that a tick made due waits to be taken. -/
def NothingDue (s : State) : Prop :=
  s.tb.timeRangeNotice = false ∧ applicationDue s = false ∧ (∀ w ∈ s.su.waiter, w.deadline ≠ some s.tb.pt) ∧
    (∀ n, riseDue n s = false) ∧ (∀ n, fallExpires n s = false) ∧ (∀ n, blankEnds n s = false) ∧
      (∀ n, holdExpires n s = false) ∧ watchExpires s = false ∧ recheckExpires s = false ∧ ageExpires s = false

/-- A cause is pending (R183). -/
def pendingCause (c : Cause) (s : State) : Bool := s.ev.events.getLsbD c.bit

/-! ## Words of the statements: commands -/

/-- The rows that write CMD. -/
def writesCmd : Instr → Bool
  | .loadContext _ | .stageLimits _ | .startProgram _ | .stopProgramDrain _ | .stopProgramAtOnce | .pause _ | .resume _
  | .forceLines _ | .clearTrip _ | .journalOpen _ | .journalFlush _ | .journalClose _ | .stamp _ | .dumpTallies _
  | .unknownCommand _ _ => true
  | _ => false

/-- The rows that write the register window. -/
def writesWindow : Instr → Bool
  | .softReset _ | .irqEnable _ | .eventMask _ | .eventsClear _ | .wake _ | .registerWrite _ _ _ => true
  | c => writesCmd c

/-- The port takes a command: RESET# is not asserted and no command is in progress (R169, R181). -/
def Ready (s : State) : Prop := s.resetAsserted = false ∧ s.cp.inProgress = none

/-- ARG_HI and ARG_LO as one value (R170). -/
def argWords (s : State) : Addr := s.cp.argHi ++ s.cp.argLo

/-- A command has completed in the event that took it (R169, R171). -/
def answered (code : Byte) (op : Half) (r : Result) (s : State) : State :=
  { s with
    cp := { s.cp with inProgress := none, lastResult := r, lastCode := code, lastOperand := op }
    ev := s.ev.raise .cmdDone }

/-- A command has been accepted and is in progress (R169). -/
def busyWith (code : Byte) (op : Half) (s : State) : State :=
  { s with cp := { s.cp with
      inProgress := some { code := code, operand := op, arg := argWords s }
      lastCode := code
      lastOperand := op } }

/-! ## Words of the statements: transfers -/

/-- The transfer that a request asks for. -/
def asked (kind : TransferKind) (a : Addr) : Transfer := { kind := kind, address := a, discard := false }

/-- The transfer has been requested: it waits for its grant, or it has just started. -/
def BusPort.holds (b : BusPort) (t : Transfer) : Prop :=
  b.waiting t.kind.owner = some t ∨ b.inFlight = some (Flight.start t)

/-- The transfer in flight belongs to its requester and is not marked for discard. -/
def inFlightIs (s : State) (kind : TransferKind) (a : Addr) : Prop :=
  ∃ f, s.bp.inFlight = some f ∧ f.orphan = false ∧ f.transfer = asked kind a

/-- The command that stands for the end ERROR of a transfer. -/
def errorEnd (p : Pins) : TransferKind → Instr
  | .stripHeaderRead _ => .stripHeaderReadComplete .error
  | .stepRead _ => .stepReadComplete .error
  | .linkRead => .linkRereadComplete .error
  | .retireWrite _ => .retireWriteComplete .error
  | .sheetHeaderRead => .sheetHeaderReadComplete .error
  | .recordWrite _ => .recordWriteComplete .error
  | .sheetHeaderWrite _ => .sheetHeaderWriteComplete .error
  | .dcbRead => .dcbReadComplete .error p
  | .limitsRead => .limitsReadComplete .error
  | .tallyWriteLow _ | .tallyWriteHigh _ => .tallyWriteComplete .error

/-! ## Words of the statements: what the FU asks for next (R17, R20, R23, R29, R33) -/

/-- The oldest strip is not RETIRE_READY, so no retire write comes before a read. -/
def NoRetireFirst (t : State) : Prop := ∀ x ∈ t.fu.table.head?, x.state ≠ .retireReady

/-- The retire write of an oldest strip that is RETIRE_READY is asked for, with the present PT. -/
def RetireAsked (t : State) : Prop :=
  ∀ x, t.fu.table.head? = some x → x.state = .retireReady → ∀ o, x.outcome = some o →
    t.bp.holds (asked (.retireWrite { outcome := o, admitted := x.stepsAdmitted, pt := t.tb.pt.setWidth 32 })
      (x.address + 24#64))

/-- The read of the next step of a newest strip that is FETCHING is asked for when the queue of 32 has room: of two
steps where two remain unfetched and there is room for both, of one otherwise; without room nothing is asked for. -/
def StepsAsked (t : State) : Prop :=
  t.fu.state = .fetching → NoRetireFirst t → ∀ x, t.fu.newest = some x → x.state = .fetching →
    let room := 32 - t.su.queue.length
    let left := x.stepCount.toNat - x.stepsFetched
    (room = 0 → t.bp.outstanding .fu = false) ∧
      (0 < room → t.bp.holds
        (asked (.stepRead (decide (2 ≤ left ∧ 2 ≤ room))) (x.address + BitVec.ofNat 64 (32 + 32 * x.stepsFetched))))

/-- What a FETCHING unit asks for after an event that leaves it without a transfer: the retire write first, then the
next step read. -/
def FetchAsked (t : State) : Prop := RetireAsked t ∧ StepsAsked t

/-- The header at `a`, of the strip of sequence `q`, is the next one: its read is asked for when its slot is free and no
retire write comes first, and its address is kept otherwise. -/
def HeaderNext (a : Addr) (q : Word) (t : State) : Prop :=
  let free : Prop := ∀ x ∈ t.fu.table, x.number.val ≠ q.toNat % 8
  (NoRetireFirst t → free → t.fu.nextAddress = none ∧ t.fu.nextSequence = q + 1#32 ∧
    t.bp.holds (asked (.stripHeaderRead q) a)) ∧
    (¬(NoRetireFirst t ∧ free) → t.fu.nextAddress = some a ∧ t.fu.nextSequence = q) ∧
      (NoRetireFirst t → ¬free → t.bp.outstanding .fu = false)

/-- The wanted re-read of the watched tail's link is asked for, and counted, unless a retire write comes first; then it
stays wanted. -/
def LinkAsked (s t : State) : Prop :=
  (NoRetireFirst t → (∀ x, t.fu.newest = some x → t.bp.holds (asked .linkRead x.address)) ∧ t.fu.rereadWanted = false ∧
    t.ev.tallies[14] = satAdd s.ev.tallies[14] 1) ∧
    (¬NoRetireFirst t → t.fu.rereadWanted = true ∧ t.ev.tallies[14] = s.ev.tallies[14])

/-- STARVED after an event that neither opens nor closes a WATCHING episode (R32): raised, and marked as reported, when
the program is RUNNING with an empty queue and no wait, the FU WATCHING and the episode not yet reported. -/
def StarvedJudged (s t : State) : Prop :=
  let starves : Prop := t.su.program = .running ∧ t.su.queue = [] ∧ t.su.waiter = none ∧ t.fu.state = .watching ∧
    s.fu.starvedReported = false
  (starves → pendingCause .starved t = true ∧ t.fu.starvedReported = true) ∧
    (¬starves → pendingCause .starved t = pendingCause .starved s ∧ t.fu.starvedReported = s.fu.starvedReported)

/-! ## Words of the statements: offers (R153) -/

/-- What `n` offers of one event count: a journal that takes records loses those for which its FIFO of 16 has no room,
in its lost count, in the records lost tally and with RECORDS_LOST; any other leaves all of them to the records
unjournaled tally. -/
def OffersCounted (n : Nat) (s t : State) : Prop :=
  let taken : Prop := s.jw.state = .seeking ∨ s.jw.state = .opened ∨ s.jw.state = .blocked
  let lost : Nat := if taken then n - (16 - s.jw.fifo.length) else 0
  t.ev.tallies[10] = satAdd s.ev.tallies[10] lost ∧
    t.ev.tallies[11] = satAdd s.ev.tallies[11] (if taken then 0 else n) ∧
      t.jw.lostCount = satAdd s.jw.lostCount lost ∧
        pendingCause .recordsLost t = (pendingCause .recordsLost s || decide (0 < lost))

/-- What an event counts that offers `n` records and, beside them, one for each pair it suppresses (R107) and one for
each hold it escalates (R131), as the tallies of the two say. -/
def OffersCountedWith (n : Nat) (s t : State) : Prop :=
  ∃ shoots : Fin 9, ∃ escalations : Fin 5, t.ev.tallies[4] = satAdd s.ev.tallies[4] shoots.val ∧
    t.ev.tallies[8] = satAdd s.ev.tallies[8] escalations.val ∧
      OffersCounted (n + shoots.val + escalations.val) s t

/-! ## Words of the statements: the actions of the fault inputs (R125 to R128, R136) -/

/-- Input `n` has become ACTIVE: GUARD is raised, its ASSERT record offered, before the SU's and the OS's records of the
step (log entry 6), and, with no block staged, the activation counted; CLAMP and HOLD clamp their SEQUENCED lines, HOLD
holds the program, TRIP sets the latch with its source and mask, raises TRIP and counts it, covers the lines and leaves
no program active. -/
def GuardActed (n : Fin 4) (s t : State) : Prop :=
  let i := s.gu.inputs[n]
  let masked (m : Fin 16) : Prop := i.clampMask.getLsbD m.val = true
  t.gu.inputs[n].state = .active ∧ t.gu.inputs[n].asserted = true ∧ pendingCause .guard t = true ∧ t.cx = s.cx ∧
    t.tb.tl = s.tb.tl ∧ t.tb.pt = s.tb.pt ∧
      (let trips : Bool := i.action == .trip;
        let mask : Half := if trips then s.gu.mask ||| i.clampMask else s.gu.mask
        let sources : FaultSet := if trips then s.gu.sources ||| faultBit n else s.gu.sources
        (s.jw.offer
          { kind := .guard, source := BitVec.ofNat 8 n.val, flags := if trips then 0x09#8 else 0x01#8,
            stamp := s.tb.tl.setWidth 40, value1 := BitVec.ofNat 32 i.action.code,
            value2 := mask.setWidth 32 ||| sources.setWidth 32 <<< 16 }).fifo <+: t.jw.fifo) ∧
        (s.cp.staged = none → t.ev.tallies[6] = satAdd s.ev.tallies[6] 1 ∧
          t.ev.tallies[7] = satAdd s.ev.tallies[7] (if i.action = .trip then 1 else 0)) ∧
          (i.action = .clamp ∨ i.action = .hold → ∀ m, masked m → s.os.lines[m].role = .sequenced →
            t.os.lines[m].clampSet.getLsbD n.val = true ∧ t.os.lines[m].driven = s.os.lines[m].safe) ∧
            (i.action = .hold → t.tb.guardHolds = s.tb.guardHolds ||| faultBit n ∧
              t.gu.inputs[n].holdStart = some s.tb.tl) ∧
              (i.action ≠ .trip → t.gu.latch = s.gu.latch ∧ t.gu.sources = s.gu.sources ∧ t.gu.mask = s.gu.mask) ∧
                (i.action = .trip → t.gu.latch = true ∧ t.gu.sources.getLsbD n.val = true ∧
                  pendingCause .trip t = true ∧ (t.su.program = .idle ∨ t.su.program = .stopping) ∧
                    ∀ m, masked m → t.gu.mask.getLsbD m.val = true ∧ t.os.lines[m].covered = true)

/-! ## Words of the statements: the end of a program -/

/-- The program has entered STOPPING by an abort (R94): its outcome and reason, admission closed, queue, wait and agenda
gone, the lines taking their stop levels; the cursor, the anchor, the counter and the late policy stand, and so do the
timebase, the channels and the pins. -/
def Aborted (o : ProgramOutcome) (r : Reason) (s t : State) : Prop :=
  t.su = { s.su with
      program := .stopping, outcome := o, reason := r, admissionOpen := false, queue := [], waiter := none, agenda := [] } ∧
    t.os = (osEndLevels s).os ∧ t.gu = (osEndLevels s).gu ∧ t.tb = s.tb ∧ t.cx = s.cx ∧ t.pins = s.pins ∧
      t.resetAsserted = s.resetAsserted ∧ t.pending = s.pending ∧
        (s.su.admissionOpen = true → t.fu.state ≠ .fetching ∧ t.fu.state ≠ .watching)

/-- The FU still tracks a strip and has not reported the end of retirement, so an abort leaves the program STOPPING. -/
def Retiring (s : State) : Prop := s.fu.table ≠ [] ∧ s.fu.doneNotice = none

/-- The FU of an open program tracks no strip, so an end of the program is complete in the event that causes it. -/
def Untracked (s : State) : Prop :=
  s.fu.state = .fetching ∧ s.fu.table = [] ∧ s.fu.doneNotice = none ∧ s.fu.abandoned = false ∧
    s.su.admissionOpen = true

/-- The program has ended and is IDLE in the event that ended it (R30, R94, R95): its outcome and reason, nothing left
of its queue, wait and agenda, the FU IDLE, PROGRAM_END; with no Limits staged, time stands and the lines have their
stop levels where the outcome asks for them. -/
def EndedAtOnce (o : ProgramOutcome) (r : Reason) (s t : State) : Prop :=
  t.su = { s.su with
      program := .idle, outcome := o, reason := r, retireIncomplete := false, admissionOpen := false, queue := [],
      waiter := none, agenda := [] } ∧
    t.fu.state = .idle ∧ t.fu.table = [] ∧ pendingCause .programEnd t = true ∧ t.cx = s.cx ∧ t.pins = s.pins ∧
      (s.cp.staged = none → t.tb = s.tb ∧ t.os = if o.changesLevels then (osEndLevels s).os else s.os)

/-! ## Words of the statements: resolution (R108, R109) -/

/-- What the resolution of one event makes of line `n`: `o` holds the driven states, the last-fall stamps and the
deferrals before it, `o'` is the stage after it, whose requests, forcing and pairs are those the event has set. A line
that does not call for HIGH is driven at once, one forced to HIGH too; a rise waits out the dead time after the
partner's last fall. -/
def LineResolved (tl : Time) (o o' : OutputStage) (n : Fin 16) : Prop :=
  let l := o.lines[n]
  let l' := o'.lines[n]
  let p := o'.pairs[pairOf n]
  let forced : Prop := l'.clampSet ≠ 0#4 ∨ l'.await = true ∨ l'.covered = true
  let goal : Level := if l'.role = .unused then .released else if forced then l'.safe else l'.requested
  (goal ≠ .high → l'.driven = goal ∧ l'.deferred = none) ∧
    l'.lastFall = (if goal ≠ .high ∧ l.driven = .high then some tl else l.lastFall) ∧
      (goal = .high → forced ∨ l.driven = .high ∨ p.enabled = false → l'.driven = .high) ∧
        (goal = .high → ¬forced → l.driven ≠ .high → p.enabled = true →
          (l.deferred ≠ none → l'.driven = l.driven ∧ l'.deferred = l.deferred) ∧
            (l.deferred = none →
              (o'.lines[partner n].lastFall = none → l'.driven = .high ∧ l'.deferred = none) ∧
                ∀ f, o'.lines[partner n].lastFall = some f →
                  (p.deadTime.toNat ≤ (tl - f).toNat → l'.driven = .high ∧ l'.deferred = none) ∧
                    ((tl - f).toNat < p.deadTime.toNat →
                      l'.driven = l.driven ∧ l'.deferred = some (f + p.deadTime.setWidth 48))))

/-- Every line is resolved so. -/
def Resolved (tl : Time) (o o' : OutputStage) : Prop := ∀ n : Fin 16, LineResolved tl o o' n

/-- The lines whose rise the event has deferred. -/
def risesDeferred (o o' : OutputStage) : Nat :=
  ((List.finRange 16).filter fun n => o.lines[n].deferred.isNone && o'.lines[n].deferred.isSome).length

/-! ## Words of the statements: strips and steps (R26 to R28, R50) -/

/-- What R27 and R28 make of a slot of the FU `f`: RETIRE_READY when its steps are admitted or admission has closed, no
entry of it is outstanding and it is not the watched tail; PLAYED when nothing of it was discarded and it was admitted
whole or up to an END, and CUT otherwise. -/
def slotJudged (f : FetchUnit) (sl : Slot) : Slot :=
  if sl.state ≠ .retireReady ∧ (sl.stepsAdmitted = sl.stepCount.toNat ∨ f.state = .stopped) ∧ sl.outstanding = 0 ∧
      ¬(f.state = .watching ∧ (f.table.getLast?.map fun x => x.sequence) = some sl.sequence) then
    { sl with
      state := .retireReady
      outcome := some (if sl.entryDiscarded = false ∧ (sl.stepsAdmitted = sl.stepCount.toNat ∨ sl.endAdmitted = true)
        then .played else .cut) }
  else sl

/-- The change that a notice of slot `n` makes, if it finds the slot occupied and not RETIRE_READY (R26, R27). -/
def slotNoticed (n : Fin 8) (change : Slot → Slot) (sl : Slot) : Slot :=
  if sl.number = n ∧ sl.state ≠ .retireReady then change sl else sl

/-- The time that a step takes after its due time (R46, R50): the length of a TRAIN, the width of a PULSE. -/
def stepSpan (p : Step) : Nat :=
  if p.kind.toNat = 2 then p.width.toNat else if p.kind.toNat = 3 then p.count.toNat * p.period.toNat else 0

/-- The step fails validation, by the points of R50 in their order (kinds by 12.4: SET 1, PULSE 2, TRAIN 3, WAIT 4,
ANCHOR 5, END 8). -/
def BadStep (s : State) (p : Step) : Prop :=
  let kind := p.kind.toNat
  let onLines : Prop := kind = 1 ∨ kind = 2 ∨ kind = 3
  let due := (if p.baseAnchor then s.su.anchor else s.su.cursor).toNat + p.delay.toNat
  let late : Prop := kind ≠ 4 ∧ kind ≠ 5 ∧ due < s.tb.pt.toNat
  kind = 0 ∨ 8 < kind ∨ (onLines ∧ p.mask = 0#16) ∨
    (onLines ∧ ∃ n : Fin 16, p.mask.getLsbD n.val = true ∧ s.os.lines[n].role = .unused) ∨
    (kind = 2 ∧ p.width = 0#32) ∨
    (kind = 3 ∧ (p.count = 0#16 ∨ p.width = 0#32 ∨ p.period.toNat ≤ p.width.toNat)) ∨
    (kind = 4 ∧ (15 < p.channel.toNat ∨ 2 < p.edge.toNat ∨
      ∃ c : Fin 16, p.channel.toNat = c.val ∧ s.cx.channels[c].enable = false)) ∨
    (kind = 4 ∧ p.timeout ≠ 0#32 ∧ 2 ^ 48 - 1 < s.tb.pt.toNat + p.timeout.toNat) ∨
    (kind ≠ 4 ∧ 2 ^ 48 - 1 < due + stepSpan p) ∨
    (late ∧ s.su.latePolicy = .apply ∧ 2 ^ 48 - 1 < s.tb.pt.toNat + stepSpan p)

/-! ## Words of the statements: the layouts of 12.3 -/

/-- The number that the `n` bytes at offset `i` hold, least significant byte first (R191). -/
def leAt (d : List Byte) (i n : Nat) : Nat := ((d.drop i).take n).foldr (fun b v => b.toNat + 256 * v) 0

/-- The two bits from bit `b` of line byte `n` of a Device Context Block (12.3). -/
def lineBits (d : List Byte) (n b : Nat) : Nat := leAt d (48 + n) 1 / 2 ^ b % 4

/-- A filter length that R174 refuses. -/
def badFilter (m : Nat) : Prop := m ≠ 0 ∧ m ≠ 2 ∧ m ≠ 4 ∧ m ≠ 8

/-- The Device Context Block is refused, by the points of R174 in their order, with the pair rules of R115 and the
channel rules of R142; the fields stand where 12.3 puts them and the values are those of 12.4. -/
def DcbRefused (d : List Byte) : Prop :=
  let role (n : Nat) := lineBits d n 0
  let idle (n : Nat) := lineBits d n 2
  let stop (n : Nat) := lineBits d n 4
  let safe (n : Nat) := lineBits d n 6
  leAt d 0 1 ≠ 1 ∨ leAt d 208 1 ≠ 1 ∨
    1 < leAt d 8 1 ∨ 1 < leAt d 9 1 ∨ leAt d 10 2 = 0 ∨ 1024 < leAt d 10 2 ∨
    2 < leAt d 12 1 ∨
    leAt d 16 4 = 0 ∨ 2 ^ 24 ≤ leAt d 16 4 ∨ leAt d 20 4 = 0 ∨ 2 ^ 24 ≤ leAt d 20 4 ∨ 2 ^ 24 ≤ leAt d 24 4 ∨
    leAt d 32 8 % 512 ≠ 0 ∨ leAt d 14 2 < 2 ∨ 256 < leAt d 14 2 ∨ 2 ^ 64 < leAt d 32 8 + 512 * leAt d 14 2 ∨
    leAt d 13 1 = 0 ∨
    (∃ n : Fin 16, 1 < role n.val ∨ idle n.val = 3 ∨ safe n.val = 3) ∨
    (∃ k : Fin 8, (leAt d 64 1).testBit k.val = true ∧
      (role (2 * k.val) = 0 ∨ role (2 * k.val + 1) = 0 ∨ safe (2 * k.val) = 1 ∨ safe (2 * k.val + 1) = 1 ∨
        (idle (2 * k.val) = 1 ∧ idle (2 * k.val + 1) = 1) ∨ (stop (2 * k.val) = 2 ∧ stop (2 * k.val + 1) = 2))) ∨
    (∃ n : Fin 4, 3 < leAt d (74 + 8 * n.val) 1 ∨ 1 < leAt d (75 + 8 * n.val) 1 ∨ badFilter (leAt d (73 + 8 * n.val) 1) ∨
      ∃ m : Fin 16, (leAt d (76 + 8 * n.val) 2).testBit m.val = true ∧ role m.val = 0) ∨
    ∃ n : Fin 16, badFilter (leAt d (105 + 6 * n.val) 1) ∨ 3 < leAt d (106 + 6 * n.val) 1 ∨
      2 < leAt d (107 + 6 * n.val) 1 ∨ leAt d (108 + 6 * n.val) 2 = 0 ∨ 256 < leAt d (108 + 6 * n.val) 2 ∨
      (leAt d (106 + 6 * n.val) 1 ≠ 0 ∧ leAt d (107 + 6 * n.val) 1 = 2)

/-- The Limits that the Limits Block at offset `o` holds (12.3). -/
def LimitsRead (d : List Byte) (o : Nat) (m : Limits) : Prop :=
  (∀ k : Fin 8, m.deadTimes[k].toNat = leAt d (o + 8 + 2 * k.val) 2) ∧
    ∀ n : Fin 4, m.blankLengths[n].toNat = leAt d (o + 24 + 2 * n.val) 2 ∧
      m.holdLimits[n].toNat = leAt d (o + 32 + 4 * n.val) 4

/-- The context that a block which is not refused holds, field by field (12.3, 12.4). -/
def ContextRead (d : List Byte) (c : Context) : Prop :=
  (c.firstSequence.toNat = leAt d 4 4 ∧ (c.source = .external ↔ leAt d 8 1 = 1) ∧
    (c.tbinEdge = .fall ↔ leAt d 9 1 = 1) ∧ c.prescale.toNat = leAt d 10 2 ∧
    (c.latePolicy = .drop ↔ leAt d 12 1 = 1) ∧ (c.latePolicy = .stop ↔ leAt d 12 1 = 2) ∧ c.batch = leAt d 13 1 ∧
    c.sheetCount = leAt d 14 2 ∧ c.watchInterval.toNat = leAt d 16 4 ∧ c.recheckInterval.toNat = leAt d 20 4 ∧
    c.flushAge.toNat = leAt d 24 4 ∧ c.base.toNat = leAt d 32 8 ∧ c.paired.toNat = leAt d 64 1) ∧
    (∀ n : Fin 16, (c.lines[n].role = .sequenced ↔ lineBits d n.val 0 = 1) ∧
      (c.lines[n].idle = .high ↔ lineBits d n.val 2 = 1) ∧ (c.lines[n].idle = .released ↔ lineBits d n.val 2 = 2) ∧
      (c.lines[n].stop = .low ↔ lineBits d n.val 4 = 1) ∧ (c.lines[n].stop = .high ↔ lineBits d n.val 4 = 2) ∧
      (c.lines[n].stop = .released ↔ lineBits d n.val 4 = 3) ∧
      (c.lines[n].safe = .high ↔ lineBits d n.val 6 = 1) ∧ (c.lines[n].safe = .released ↔ lineBits d n.val 6 = 2)) ∧
    (∀ n : Fin 4, c.inputs[n].enable = (leAt d (72 + 8 * n.val) 1).testBit 0 ∧
      (c.inputs[n].polarity = .assertedLow ↔ (leAt d (72 + 8 * n.val) 1).testBit 1 = true) ∧
      c.inputs[n].filterLength = leAt d (73 + 8 * n.val) 1 ∧ c.inputs[n].action.code = leAt d (74 + 8 * n.val) 1 ∧
      (c.inputs[n].policy = .onNextAction ↔ leAt d (75 + 8 * n.val) 1 = 1) ∧
      c.inputs[n].clampMask.toNat = leAt d (76 + 8 * n.val) 2 ∧
      c.inputs[n].blankMask.toNat = leAt d (78 + 8 * n.val) 2) ∧
    (∀ n : Fin 16, c.channels[n].enable = (leAt d (104 + 6 * n.val) 1).testBit 0 ∧
      c.channels[n].record = (leAt d (104 + 6 * n.val) 1).testBit 1 ∧
      c.channels[n].filterLength = leAt d (105 + 6 * n.val) 1 ∧
      (c.channels[n].mode = .interval ↔ leAt d (106 + 6 * n.val) 1 = 1) ∧
      (c.channels[n].mode = .width ↔ leAt d (106 + 6 * n.val) 1 = 2) ∧
      (c.channels[n].mode = .cycle ↔ leAt d (106 + 6 * n.val) 1 = 3) ∧
      (c.channels[n].select = .fall ↔ leAt d (107 + 6 * n.val) 1 = 1) ∧
      (c.channels[n].select = .both ↔ leAt d (107 + 6 * n.val) 1 = 2) ∧
      c.channels[n].decimation = leAt d (108 + 6 * n.val) 2) ∧
    LimitsRead d 208 c.limits

end Sys2Proof.Machine
end

