-- ==== Sys2Proof/Certificates/Slice0/Obligations.lean ====
section
/-! DEFINITION. Obligations.lean: the statements for the provers, in the order of OBLIGATIONS.json. Rule numbers are those
of spec/; "log entry n" is notes/assumptions/n.md. -/
section
open Sys2Proof Sys2Proof.Machine

/-! ## The block as a whole -/

/-- A step with a command at the front of the queue is that command's effect on the rest. -/
def Obligations.FrontCommandRuns : Prop :=
  ∀ (c : Instr) (rest : List Instr) (s : State),
    step { s with pending := c :: rest } = exec c { s with pending := rest }

/-- No command stops the part: each answers a next state, and leaves the queue alone; RESET# moves by its own two rows
only. That no command stops is log entry 24. -/
def Obligations.EveryCommandAnswersNext : Prop :=
  ∀ (c : Instr) (s : State), ∃ t, exec c s = .next t ∧ t.pending = s.pending ∧
    (c ≠ .hardwareReset → c ≠ .resetRelease → t.resetAsserted = s.resetAsserted)

/-- With no command waiting, one REFCLK period passes (the model's choice, log entry 2); under INTERNAL it counts in the
prescale counter and brings a tick exactly when the count reaches the prescale (R1), under EXTERNAL exactly when the
TBIN samples differ in the direction of the TBIN edge (R2); each FLT and IN pin passes its filter (R121, R140); the
transfer in flight ages, and ends ERROR at 100,000 periods (R189); while RESET# is asserted and nothing is in flight
nothing changes. -/
def Obligations.EmptyQueuePassesAPeriod : Prop :=
  ∀ s : State, s.pending = [] →
    (s.resetAsserted = true → s.bp.inFlight = none → step s = .next s) ∧
      (s.resetAsserted = false → s.tb.source = .internal →
        ∃ t, step s = .next t ∧
          (s.tb.prescale.toNat ≤ s.tb.prescaleCount + 1 → t.tb.tl = s.tb.tl + 1#48 ∧ t.tb.prescaleCount = 0) ∧
            (s.tb.prescaleCount + 1 < s.tb.prescale.toNat →
              t.tb.tl = s.tb.tl ∧ t.tb.prescaleCount = s.tb.prescaleCount + 1)) ∧
      (s.resetAsserted = false → s.tb.source = .external →
        let qualifies : Prop :=
          (s.tb.tbinEdge = .rise ∧ s.tb.tbinPrevious = false ∧ s.pins.tbin = true) ∨
            (s.tb.tbinEdge = .fall ∧ s.tb.tbinPrevious = true ∧ s.pins.tbin = false)
        ∃ t, step s = .next t ∧ t.tb.tbinPrevious = s.pins.tbin ∧ (qualifies → t.tb.tl = s.tb.tl + 1#48) ∧
          (¬qualifies → t.tb.tl = s.tb.tl)) ∧
      (s.resetAsserted = false → ∃ t, step s = .next t ∧
        (∀ n : Fin 4,
          let i := s.gu.inputs[n]
          let sample : Bool := s.pins.faults.getLsbD n.val == (i.polarity == .assertedHigh)
          (i.state = .off → t.gu.inputs[n].asserted = i.asserted ∧ t.gu.inputs[n].filterRun = i.filterRun) ∧
            (i.state ≠ .off → sample = i.asserted →
              t.gu.inputs[n].asserted = i.asserted ∧ t.gu.inputs[n].filterRun = 0) ∧
              (i.state ≠ .off → sample ≠ i.asserted → i.filterRun + 1 < i.filterLength →
                t.gu.inputs[n].asserted = i.asserted ∧ t.gu.inputs[n].filterRun = i.filterRun + 1) ∧
                (i.state ≠ .off → sample ≠ i.asserted → i.filterLength ≤ i.filterRun + 1 →
                  t.gu.inputs[n].asserted = sample ∧ t.gu.inputs[n].filterRun = 0)) ∧
          ∀ n : Fin 16,
            let c := s.cx.channels[n]
            let sample : Bool := s.pins.inputs.getLsbD n.val
            (c.enable = false → t.cx.channels[n] = c) ∧
              (c.enable = true → sample = c.high → t.cx.channels[n] = { c with filterRun := 0 }) ∧
                (c.enable = true → sample ≠ c.high → c.filterRun + 1 < c.filterLength →
                  t.cx.channels[n] = { c with filterRun := c.filterRun + 1 }) ∧
                  (c.enable = true → sample ≠ c.high → c.filterLength ≤ c.filterRun + 1 →
                    t.cx.channels[n].high = sample ∧ t.cx.channels[n].filterRun = 0)) ∧
      ∀ f, s.bp.inFlight = some f → ∃ t, step s = .next t ∧
        (f.periods + 1 < 100000 → ∃ g, t.bp.inFlight = some g ∧ g.periods = f.periods + 1 ∧ g.orphan = f.orphan ∧
          g.transfer.kind = f.transfer.kind ∧ g.transfer.address = f.transfer.address) ∧
          (100000 ≤ f.periods + 1 → (∀ g, t.bp.inFlight = some g → g.periods = 0) ∧
            (f.orphan = false → pendingCause .busError t = true))

/-! ## Registers and resets -/

/-- What each read of the window returns (R190, R170, 12.2): the fields of STATUS one by one, and 0 where nothing is.
That an offset inside the window that names no register, 21h to 23h among them, reads 0 is the model's choice (log entry
34). -/
def Obligations.RegisterReads : Prop :=
  ∀ s : State,
    (s.resetAsserted = true → ∀ off size, readRegister s off size = none) ∧
      (s.resetAsserted = false →
        (∀ off size, size ≠ .bits32 → readRegister s off size = some 0#32) ∧
          readRegister s 0x00 .bits32 = some 0x570101A0#32 ∧
            readRegister s 0x04 .bits32 = some (if s.ev.irqEnable then 2#32 else 0#32) ∧
              readRegister s 0x0C .bits32 = some s.cp.argLo ∧ readRegister s 0x10 .bits32 = some s.cp.argHi ∧
                (∃ w, readRegister s 0x08 .bits32 = some w ∧ w.extractLsb' 0 8 = s.cp.lastCode ∧
                  w.extractLsb' 16 16 = s.cp.lastOperand) ∧
                  (∃ w, readRegister s 0x14 .bits32 = some w ∧ (w.getLsbD 0 = s.cp.inProgress.isSome) ∧
                    (w.extractLsb' 4 4).toNat = s.cp.lastResult.code ∧
                      (w.extractLsb' 8 2).toNat = s.su.program.code ∧ w.getLsbD 10 = held s ∧
                        (w.getLsbD 11 = true ↔ s.fu.state = .watching) ∧
                          (w.extractLsb' 12 3).toNat = s.jw.state.code ∧ w.getLsbD 15 = s.gu.latch ∧
                            w.getLsbD 16 = s.cp.contextLoaded) ∧
                    readRegister s 0x18 .bits32 = some (s.ev.events.setWidth 32) ∧
                      readRegister s 0x1C .bits32 = some (s.ev.mask.setWidth 32) ∧
                        (∀ off, 0x20 ≤ off → readRegister s off .bits32 = some 0#32) ∧
                          ∀ off, off % 4 ≠ 0 → readRegister s off .bits32 = some 0#32)

/-- The IRQ line is asserted exactly while IRQ_ENABLE is 1 and a cause is pending and enabled (R184), and never while
RESET# is asserted (R193); EVENT_MASK and CONTROL writes set their inputs from the value written, and the bits of EVENTS
and EVENT_MASK that name no cause read 0 and are not written. -/
def Obligations.IrqLineIsALevel : Prop :=
  ∀ s : State,
    (irqLine s = true ↔ s.resetAsserted = false ∧ s.ev.irqEnable = true ∧
      ∃ c : Cause, pendingCause c s = true ∧ s.ev.mask.getLsbD c.bit = true) ∧
      (s.resetAsserted = false → ∀ v : Word,
        exec (.eventMask v) s = .next { s with ev := { s.ev with mask := v.setWidth 13 } } ∧
          exec (.eventsClear v) s =
            .next { s with ev := { s.ev with events := s.ev.events &&& ~~~(v.setWidth 13 : BitVec 13) } } ∧
            (v.getLsbD 0 = false →
              exec (.irqEnable v) s = .next { s with ev := { s.ev with irqEnable := v.getLsbD 1 } })) ∧
        ∀ off w, (off = 0x18 ∨ off = 0x1C) → readRegister s off .bits32 = some w →
          ∀ i, 13 ≤ i → w.getLsbD i = false

/-- Register writes: CONTROL with SOFT_RESET 0 sets IRQ_ENABLE, EVENT_MASK sets the enable bits, EVENTS clears the
causes written 1, ARG_LO and ARG_HI set themselves, BUSY or not; a write of another size, to IDENT or STATUS or beyond
WAKE changes nothing, and no write changes anything else (R170, R184, R185, R190, 10.4). That a write at 21h to 23h,
inside the window but naming no register, is ignored is the model's choice (log entry 21). -/
def Obligations.RegisterWrites : Prop :=
  ∀ (v : Word) (s : State), s.resetAsserted = false →
    (v.getLsbD 0 = false → exec (.irqEnable v) s = .next { s with ev := { s.ev with irqEnable := v.getLsbD 1 } }) ∧
      (∃ m, exec (.eventMask v) s = .next { s with ev := { s.ev with mask := m } } ∧
        ∀ c : Cause, m.getLsbD c.bit = v.getLsbD c.bit) ∧
        (∃ e, exec (.eventsClear v) s = .next { s with ev := { s.ev with events := e } } ∧
          ∀ c : Cause, e.getLsbD c.bit = (s.ev.events.getLsbD c.bit && !v.getLsbD c.bit)) ∧
          exec (.registerWrite 0x0C .bits32 v) s = .next { s with cp := { s.cp with argLo := v } } ∧
            exec (.registerWrite 0x10 .bits32 v) s = .next { s with cp := { s.cp with argHi := v } } ∧
              (∀ off size, size ≠ .bits32 → exec (.registerWrite off size v) s = .next s) ∧
                ∀ off, (off = 0x00 ∨ off = 0x14 ∨ 0x20 < off) → exec (.registerWrite off .bits32 v) s = .next s

/-- A WAKE of a state between events: with the FU not WATCHING and the journal not BLOCKED nothing changes; a re-read
already requested or in flight is marked by nothing; a WATCHING FU with nothing outstanding requests its re-read at
once, behind another transfer it marks it, and a BLOCKED JW requests its header at once (R23, R156; log entry 13 for a
re-read that still waits for its grant). -/
def Obligations.WakeMarksRereads : Prop :=
  ∀ (v : Word) (s : State), s.resetAsserted = false → Rested s →
    (s.fu.state ≠ .watching ∨ linkReadOutstanding s.bp = true → s.jw.state ≠ .blocked ∨ s.bp.outstanding .jw = true →
      exec (.wake v) s = .next s) ∧
      (s.fu.state = .watching → s.bp.outstanding .fu = true → linkReadOutstanding s.bp = false →
        s.jw.state ≠ .blocked ∨ s.bp.outstanding .jw = true →
          exec (.wake v) s = .next { s with fu := { s.fu with rereadWanted := true } }) ∧
        (∀ sl, s.fu.state = .watching → s.bp.outstanding .fu = false → s.fu.newest = some sl →
          ∃ t, exec (.wake v) s = .next t ∧ t.bp.holds (asked .linkRead sl.address) ∧
            t.fu = { s.fu with rereadWanted := false } ∧ t.ev = s.ev.count .linkRechecks 1 ∧
              (s.jw.state ≠ .blocked → t.jw = s.jw) ∧ t.su = s.su ∧ t.os = s.os ∧ t.gu = s.gu ∧ t.cx = s.cx ∧
                t.cp = s.cp ∧ t.tb = s.tb) ∧
          (s.jw.state = .blocked → s.bp.outstanding .jw = false →
            ∃ t, exec (.wake v) s = .next t ∧
              t.bp.holds (asked .sheetHeaderRead (s.jw.sheetAddress s.jw.nextIndex)) ∧
                t.jw = { s.jw with rereadWanted := false } ∧
                  (s.fu.state ≠ .watching → t.fu = s.fu ∧ t.ev = s.ev) ∧ t.su = s.su ∧ t.os = s.os ∧ t.gu = s.gu ∧
                    t.cx = s.cx ∧ t.cp = s.cp ∧ t.tb = s.tb)

/-- While RESET# is asserted the window takes no access (R181, R190) and a tick finds nothing to do (log entry 10). -/
def Obligations.WindowClosedInReset : Prop :=
  ∀ (c : Instr) (s : State), s.resetAsserted = true → writesWindow c = true ∨ c = .tick → exec c s = .next s

/-- A hardware reset gives every block its reset state, TL, the trip latch and the tallies included, leaves a transfer
in flight without a requester, and holds until RESET# is released (R181, R189); the release changes nothing else. The
pins kept and the values that no rule gives are the model's (log entries 8 and 9). -/
def Obligations.HardwareReset : Prop :=
  ∀ s : State,
    (∃ t, exec .hardwareReset s = .next t ∧ t.tb = { Timebase.reset with tbinPrevious := s.tb.tbinPrevious } ∧
      t.fu = FetchUnit.reset ∧ t.su = ScheduleUnit.reset ∧ t.os = OutputStage.reset ∧ t.gu = GuardUnit.reset ∧
        t.cx = CaptureUnit.reset ∧ t.jw = JournalWriter.reset ∧ t.cp = CommandPort.reset ∧ t.ev = EventUnit.reset ∧
          t.bp = { inFlight := s.bp.inFlight.map fun f => { f with orphan := true }, jw := none, fu := none, cp := none } ∧
            t.pins = s.pins ∧ t.resetAsserted = true ∧ t.pending = s.pending) ∧
      exec .resetRelease s = .next { s with resetAsserted := false }

/-- A soft reset does the same, but keeps TL and the TBIN edge, the trip latch with its sources and mask, the
trip-covered flags and the tallies (R180, R3, R119, R138, R185, R186). The pins kept and the values that no rule gives
are the model's (log entries 8 and 9). -/
def Obligations.SoftReset : Prop :=
  ∀ (v : Word) (s : State), v.getLsbD 0 = true → s.resetAsserted = false →
    ∃ t, exec (.softReset v) s = .next t ∧
      t.tb = { Timebase.reset with tl := s.tb.tl, tbinEdge := s.tb.tbinEdge, tbinPrevious := s.tb.tbinPrevious } ∧
        t.gu = { GuardUnit.reset with latch := s.gu.latch, sources := s.gu.sources, mask := s.gu.mask } ∧
          (∀ n : Fin 16, t.os.lines[n] = { Line.reset with covered := s.os.lines[n].covered }) ∧
            t.os.pairs = OutputStage.reset.pairs ∧ t.ev = { EventUnit.reset with tallies := s.ev.tallies } ∧
              t.fu = FetchUnit.reset ∧ t.su = ScheduleUnit.reset ∧ t.cx = CaptureUnit.reset ∧
                t.jw = JournalWriter.reset ∧ t.cp = CommandPort.reset ∧ t.pins = s.pins ∧
                  t.bp = { inFlight := s.bp.inFlight.map fun f => { f with orphan := true }, jw := none, fu := none,
                           cp := none } ∧ t.resetAsserted = false ∧ t.pending = s.pending

/-- The values the spec gives for reset, block by block, as its reset tables list them: the TB (R3, R4, R7, R9), the FU
(R37), the SU (R63, R82, R103), lines and pairs (R119), fault inputs and the trip latch (R138), channels (R151), the
journal (R168), the command port (R180), events, enables and tallies (R185, R186), and a Bus Port with nothing in flight
or waiting. That the FU has no address of a next header is the model's choice (log entry 9). -/
def Obligations.ResetValues : Prop :=
  let s := State.reset
  (s.tb.source = .internal ∧ s.tb.prescale = 1#16 ∧ s.tb.tbinEdge = .rise ∧ s.tb.tl = 0#48 ∧ s.tb.pt = 0#48 ∧
      s.tb.prescaleCount = 0 ∧ s.tb.hostPause = false ∧ s.tb.guardHolds = 0#4 ∧ held s = false) ∧
    (s.fu.state = .idle ∧ s.fu.table = [] ∧ s.fu.nextAddress = none ∧ s.fu.nextSequence = 0#32 ∧
      s.fu.watchStart = none ∧ s.fu.rereadWanted = false ∧ s.fu.starvedReported = false) ∧
      (s.su.program = .idle ∧ s.su.outcome = .none ∧ s.su.reason = .none ∧ s.su.retireIncomplete = false ∧
        s.su.queue = [] ∧ s.su.cursor = 0#48 ∧ s.su.anchor = 0#48 ∧ s.su.admissionOpen = false ∧
          s.su.admissionCount = 0#32 ∧ s.su.waiter = none ∧ s.su.agenda = []) ∧
        ((∀ n : Fin 16, s.os.lines[n] =
            { role := .unused, requested := .released, driven := .released, idle := .released, stop := .keep,
              safe := .released, clampSet := 0#4, await := false, covered := false, lastFall := none,
              deferred := none }) ∧
          ∀ k : Fin 8, s.os.pairs[k] = { enabled := false, deadTime := 0#16 }) ∧
          ((∀ n : Fin 4, s.gu.inputs[n] =
              { enable := false, polarity := .assertedHigh, filterLength := 0, action := .note, clampMask := 0#16,
                blankMask := 0#16, policy := .onDeassert, blankLength := 0#16, holdLimit := 0#32, state := .off,
                asserted := false, filterRun := 0, blankUntil := none, holdStart := none, escalated := false }) ∧
            s.gu.latch = false ∧ s.gu.sources = 0#4 ∧ s.gu.mask = 0#16) ∧
            (∀ n : Fin 16, s.cx.channels[n] =
              { enable := false, filterLength := 0, mode := .edge, select := .rise, record := false, decimation := 1,
                high := false, filterRun := 0, lastLeading := none, phase := none, decimationCount := 0 }) ∧
              (s.jw.state = .off ∧ s.jw.fifo = [] ∧ s.jw.nextIndex = 0 ∧ s.jw.nextSequence = 0#32 ∧
                s.jw.lostCount = 0#32 ∧ s.jw.readyCount = 0 ∧ s.jw.ageStart = none ∧ s.jw.recheckStart = none) ∧
                (s.cp.inProgress = none ∧ s.cp.lastResult = .ok ∧ s.cp.lastCode = 0#8 ∧ s.cp.lastOperand = 0#16 ∧
                  s.cp.argLo = 0#32 ∧ s.cp.argHi = 0#32 ∧ s.cp.contextLoaded = false ∧ s.cp.active = Limits.zero ∧
                    s.cp.staged = none) ∧
                  (s.ev.events = 0#13 ∧ s.ev.mask = 0#13 ∧ s.ev.irqEnable = false ∧
                    ∀ n : Fin 16, s.ev.tallies[n] = 0#32) ∧
                    s.bp = { inFlight := none, jw := none, fu := none, cp := none } ∧ s.pending = []

/-! ## Commands of the port (chapter 10, sections 5 and 9) -/

/-- A CMD write that finds the port BUSY is discarded: CMD_REFUSED is raised and nothing else changes (R169). -/
def Obligations.BusyPortRefuses : Prop :=
  ∀ (c : Instr) (s : State), writesCmd c = true → s.resetAsserted = false → s.cp.inProgress.isSome = true →
    exec c s = .next { s with ev := s.ev.raise .cmdRefused }

/-- PAUSE adds HOST_PAUSE and completes OK, in every state, with CMD_DONE, no other event and no record; STATUS.HELD
reads 1, PT stands at the next tick, and a START_PROGRAM leaves the program held (R100). -/
def Obligations.PauseHolds : Prop :=
  ∀ (op : Half) (s : State), Ready s →
    ∃ t, exec (.pause op) s = .next t ∧ t = answered 5#8 op .ok { s with tb := { s.tb with hostPause := true } } ∧
      held t = true ∧ (∃ w, readRegister t 0x14 .bits32 = some w ∧ w.getLsbD 10 = true) ∧
        (∃ u, exec .tick t = .next u ∧ u.tb.pt = t.tb.pt) ∧
          ∀ o u, exec (.startProgram o) t = .next u → u.tb.hostPause = true

/-- RESUME removes HOST_PAUSE alone and completes OK, the program held while a guard cause remains; with HOST_PAUSE
absent it is refused with NOT_PAUSED (R101). -/
def Obligations.ResumeReleases : Prop :=
  ∀ (op : Half) (s : State), Ready s →
    (s.tb.hostPause = true →
      exec (.resume op) s = .next (answered 6#8 op .ok { s with tb := { s.tb with hostPause := false } }) ∧
        held (answered 6#8 op .ok { s with tb := { s.tb with hostPause := false } }) = (s.tb.guardHolds != 0#4)) ∧
      (s.tb.hostPause = false → exec (.resume op) s = .next (answered 6#8 op .notPaused s))

/-- A code that names no command completes with UNKNOWN_COMMAND; only the last code, the last result and CMD_DONE change
(R172). -/
def Obligations.UnknownCodeAnswered : Prop :=
  ∀ (code : Byte) (op : Half) (s : State), code.toNat = 0 ∨ 13 < code.toNat → Ready s →
    exec (.unknownCommand code op) s = .next (answered code op .unknownCommand s)

/-- LOAD_CONTEXT and STAGE_LIMITS: their checks in order, and the read that an accepted one requests (R173, R177). -/
def Obligations.ReadingCommandsStart : Prop :=
  ∀ (op : Half) (s : State), Ready s →
    (s.su.program ≠ .idle ∨ s.jw.state ≠ .off → exec (.loadContext op) s = .next (answered 1#8 op .state s)) ∧
      (s.su.program = .idle → s.jw.state = .off → (argWords s).toNat % 64 ≠ 0 →
        exec (.loadContext op) s = .next (answered 1#8 op .badArgument s)) ∧
        (s.su.program = .idle → s.jw.state = .off → (argWords s).toNat % 64 = 0 →
          exec (.loadContext op) s = .next { busyWith 1#8 op s with
            cp := { (busyWith 1#8 op s).cp with shadow := [] }
            bp := (s.bp.request (asked .dcbRead (argWords s))).grant }) ∧
          (s.cp.contextLoaded = false → exec (.stageLimits op) s = .next (answered 2#8 op .noContext s)) ∧
            (s.cp.contextLoaded = true → (argWords s).toNat % 16 ≠ 0 →
              exec (.stageLimits op) s = .next (answered 2#8 op .badArgument s)) ∧
              (s.cp.contextLoaded = true → (argWords s).toNat % 16 = 0 →
                exec (.stageLimits op) s = .next { busyWith 2#8 op s with
                  bp := (s.bp.request (asked .limitsRead (argWords s))).grant })

/-- The refusals of START_PROGRAM in their order (R85), and those of STOP_PROGRAM: an operand that names no mode, a
program that cannot be stopped, a DRAIN of a DRAINING program (R88, R90). -/
def Obligations.ProgramCommandsRefused : Prop :=
  ∀ (op : Half) (s : State), Ready s →
    (s.su.program ≠ .idle → exec (.startProgram op) s = .next (answered 3#8 op .state s)) ∧
      (s.su.program = .idle → s.cp.contextLoaded = false →
        exec (.startProgram op) s = .next (answered 3#8 op .noContext s)) ∧
        (s.su.program = .idle → s.cp.contextLoaded = true → s.gu.latch = true →
          exec (.startProgram op) s = .next (answered 3#8 op .tripped s)) ∧
          (s.su.program = .idle → s.cp.contextLoaded = true → s.gu.latch = false → (argWords s).toNat % 32 ≠ 0 →
            exec (.startProgram op) s = .next (answered 3#8 op .badArgument s)) ∧
            (op ≠ 1#16 → op ≠ 2#16 → exec (.stopProgramDrain op) s = .next (answered 4#8 op .badArgument s)) ∧
              (s.su.program = .idle ∨ s.su.program = .stopping →
                exec (.stopProgramDrain 1#16) s = .next (answered 4#8 1#16 .notRunning s) ∧
                  exec .stopProgramAtOnce s = .next (answered 4#8 2#16 .notRunning s)) ∧
                (s.su.program = .draining →
                  exec (.stopProgramDrain 1#16) s = .next (answered 4#8 1#16 .state s))

/-- An accepted START_PROGRAM, of a state between events: PT 0, the SU at its start, the FU fetching the first strip at
the argument, at once or behind a read that an earlier program left, the STARTED record offered, no line, input, channel
or hold changed, the command complete with OK (R85, R86, R16, R98). A time-range notice left over is dropped (log entry
20). -/
def Obligations.StartProgramStarts : Prop :=
  ∀ (op : Half) (s : State), Ready s → Quiet s → Rested s → s.su.program = .idle → s.cp.contextLoaded = true →
    s.gu.latch = false → (argWords s).toNat % 32 = 0 →
      ∃ t, exec (.startProgram op) s = .next t ∧ t.cp = (answered 3#8 op .ok s).cp ∧
        t.tb = { s.tb with pt := 0#48, timeRangeNotice := false } ∧
          t.su = { s.su with
            program := .running, outcome := .none, reason := .none, retireIncomplete := false, queue := [],
            cursor := 0#48, anchor := 0#48, admissionOpen := true, admissionCount := 0#32, waiter := none,
            agenda := [] } ∧
            t.fu.state = .fetching ∧ t.fu.table = [] ∧
              (s.bp.outstanding .fu = false → t.fu.nextAddress = none ∧ t.fu.nextSequence = 1#32 ∧
                t.bp.holds (asked (.stripHeaderRead 0#32) (argWords s))) ∧
                (s.bp.outstanding .fu = true → t.fu.nextAddress = some (argWords s) ∧ t.fu.nextSequence = 0#32) ∧
                  t.jw.fifo = (s.jw.offer
                    { kind := .program, source := 0#8, flags := 1#8, stamp := s.tb.tl.setWidth 40,
                      value1 := s.cp.argLo, value2 := s.cp.argHi }).fifo ∧
                    pendingCause .cmdDone t = true ∧ t.os = s.os ∧ t.gu = s.gu ∧ t.cx = s.cx ∧ t.pins = s.pins ∧
                      t.oracle = s.oracle

/-- An accepted DRAIN, of a state between events: DRAINED is pending and the program DRAINING, or STOPPING when the
agenda is empty, or at its end when the FU tracks no strip either; admission is closed, the queue and the wait are gone,
the FU's reads are marked for discard; the lines, the inputs, the channels, time and the held records are as they were;
the command completes with OK (R88, R89, R30). -/
def Obligations.DrainAccepted : Prop :=
  ∀ s : State, Ready s → Quiet s → Rested s → s.su.program = .running →
    (s.su.agenda ≠ [] → ∃ t, exec (.stopProgramDrain 1#16) s = .next t ∧ t.cp = (answered 4#8 1#16 .ok s).cp ∧
      t.su = { s.su with program := .draining, outcome := .drained, reason := .none, admissionOpen := false, queue := [],
                         waiter := none } ∧
        t.fu.state ≠ .fetching ∧ t.fu.state ≠ .watching ∧
          (∀ f, t.bp.inFlight = some f → f.transfer.kind.isFetchRead = true → f.transfer.discard = true) ∧
            t.jw.fifo = s.jw.fifo ∧ t.os = s.os ∧ t.gu = s.gu ∧ t.tb = s.tb ∧ t.cx = s.cx ∧ t.pins = s.pins) ∧
      (s.su.agenda = [] → Retiring s → ∃ t, exec (.stopProgramDrain 1#16) s = .next t ∧
        t.cp = (answered 4#8 1#16 .ok s).cp ∧
          t.su = { s.su with program := .stopping, outcome := .drained, reason := .none, admissionOpen := false,
                             queue := [], waiter := none } ∧
            t.fu.state ≠ .fetching ∧ t.fu.state ≠ .watching ∧ t.jw.fifo = s.jw.fifo ∧ t.os = s.os ∧ t.gu = s.gu ∧
              t.tb = s.tb ∧ t.cx = s.cx ∧ t.pins = s.pins) ∧
        (s.su.agenda = [] → Untracked s → ∃ t, exec (.stopProgramDrain 1#16) s = .next t ∧
          EndedAtOnce .drained .none s t ∧ (s.cp.staged = none → t.cp = (answered 4#8 1#16 .ok s).cp))

/-- An accepted AT_ONCE, of a state between events: the program enters STOPPING with outcome STOPPED, and the command
stays in progress; each strip whose outstanding entries the discard of the agenda brings to 0 becomes RETIRE_READY,
PLAYED or CUT; with no strip tracked the program is IDLE in the same event and the command complete with OK (R26 to R28,
R79, R80, R90, R94, R95, R99). -/
def Obligations.StopAtOnceAccepted : Prop :=
  ∀ s : State, Ready s → Quiet s → Rested s → s.su.program = .running ∨ s.su.program = .draining →
    (Retiring s → ∃ t, exec .stopProgramAtOnce s = .next t ∧ Aborted .stopped .none s t ∧
      t.cp = (busyWith 4#8 2#16 s).cp ∧
        ((s.su.admissionOpen = true ∧ (s.fu.state = .fetching ∨ s.fu.state = .watching)) ∨ s.fu.state = .stopped →
          ∀ (i : Nat) (sl : Slot), s.fu.table[i]? = some sl → sl.state ≠ .retireReady →
            (s.su.agenda.filter fun e => e.slot == sl.number).length = sl.outstanding →
              ∃ sl', t.fu.table[i]? = some sl' ∧ sl'.state = .retireReady ∧
                sl'.outcome = some (if sl.outstanding = 0 ∧ sl.entryDiscarded = false ∧
                  (sl.stepsAdmitted = sl.stepCount.toNat ∨ sl.endAdmitted = true) then .played else .cut))) ∧
      (Untracked s → ∃ t, exec .stopProgramAtOnce s = .next t ∧ EndedAtOnce .stopped .none s t ∧
        (s.cp.staged = none → t.cp = (answered 4#8 2#16 .ok s).cp))

/-- FORCE_LINES: its checks in order, and, accepted, the request of each masked line (RELEASED, or the level of its bit)
with its await flag cleared and the lines resolved; lines outside the mask keep their requests, and no event is raised
but CMD_DONE (R118). -/
def Obligations.ForceLines : Prop :=
  ∀ (op : Half) (s : State), Ready s →
    let mask : Half := s.cp.argLo.extractLsb' 0 16
    let levels : Half := s.cp.argLo.extractLsb' 16 16
    let release : Bool := s.cp.argHi.getLsbD 0
    let unusedMasked : Prop := ∃ n : Fin 16, mask.getLsbD n.val = true ∧ s.os.lines[n].role = .unused
    let pairHigh : Prop := ∃ k : Fin 8,
      (mask.getLsbD (lowerLine k).val = true ∨ mask.getLsbD (upperLine k).val = true) ∧
        (s.os.force mask levels false).bothHigh k = true
    (s.su.program ≠ .idle → exec (.forceLines op) s = .next (answered 7#8 op .state s)) ∧
      (s.su.program = .idle → unusedMasked → exec (.forceLines op) s = .next (answered 7#8 op .badArgument s)) ∧
        (s.su.program = .idle → ¬unusedMasked → release = false → pairHigh →
          exec (.forceLines op) s = .next (answered 7#8 op .badArgument s)) ∧
          (s.su.program = .idle → ¬unusedMasked → (release = true ∨ ¬pairHigh) →
            ∃ t, exec (.forceLines op) s = .next t ∧ t.cp = (answered 7#8 op .ok s).cp ∧
              (mask ≠ 0#16 → t.os = (s.os.force mask levels release).resolve s.tb.tl) ∧
                (mask = 0#16 → t = answered 7#8 op .ok s) ∧
                (∀ n : Fin 16, mask.getLsbD n.val = true → t.os.lines[n].await = false ∧
                  t.os.lines[n].requested = if release then .released else if levels.getLsbD n.val then .high else .low) ∧
                  (∀ n : Fin 16, mask.getLsbD n.val = false →
                    t.os.lines[n].requested = s.os.lines[n].requested ∧ t.os.lines[n].await = s.os.lines[n].await) ∧
                    t.ev.events = (s.ev.raise .cmdDone).events ∧ t.su = s.su ∧ t.fu = s.fu ∧ t.jw = s.jw ∧
                      t.tb = s.tb ∧ t.cx = s.cx ∧ t.bp = s.bp ∧ t.pins = s.pins ∧ t.gu.latch = s.gu.latch ∧
                        t.gu.mask = s.gu.mask ∧ t.gu.sources = s.gu.sources)

/-- CLEAR_TRIP: refused with NOT_TRIPPED or STILL_ASSERTED; accepted, it clears the latch, the sources, the mask and
every coverage, and offers the CLEARED record (R134, R136). -/
def Obligations.ClearTrip : Prop :=
  ∀ (op : Half) (s : State), Ready s → Rested s →
    let blocked : Prop := ∃ n : Fin 4, s.gu.sources.getLsbD n.val = true ∧ s.gu.inputs[n].state = .active
    (s.gu.latch = false → exec (.clearTrip op) s = .next (answered 8#8 op .notTripped s)) ∧
      (s.gu.latch = true → blocked → exec (.clearTrip op) s = .next (answered 8#8 op .stillAsserted s)) ∧
        (s.gu.latch = true → ¬blocked →
          ∃ t, exec (.clearTrip op) s = .next t ∧ t.cp = (answered 8#8 op .ok s).cp ∧ t.gu.latch = false ∧
            t.gu.sources = 0#4 ∧ t.gu.mask = 0#16 ∧ (∀ n : Fin 16, t.os.lines[n].covered = false) ∧
              t.os = s.os.uncover.resolve s.tb.tl ∧
                t.jw.fifo = (s.jw.offer
                  { kind := .guard, source := 0xFF#8, flags := 0x10#8, stamp := s.tb.tl.setWidth 40,
                    value1 := 0xFFFFFFFF#32, value2 := 0#32 }).fifo ∧
                  t.su = s.su ∧ t.fu = s.fu ∧ t.tb = s.tb ∧ t.cx = s.cx ∧ t.pins = s.pins)

/-- JOURNAL_OPEN: refused with NO_CONTEXT or STATE; accepted, the journal is SEEKING with its position as it stands and
the OPENED flag marked, takes records, and asks for the header of the next sheet unless a read of the last journal is
still out (R163, R155). -/
def Obligations.JournalOpen : Prop :=
  ∀ (op : Half) (s : State), Ready s →
    (s.cp.contextLoaded = false → exec (.journalOpen op) s = .next (answered 9#8 op .noContext s)) ∧
      (s.cp.contextLoaded = true → s.jw.state ≠ .off →
        exec (.journalOpen op) s = .next (answered 9#8 op .state s)) ∧
        (s.cp.contextLoaded = true → s.jw.state = .off →
          ∃ t, exec (.journalOpen op) s = .next t ∧ t.cp = (answered 9#8 op .ok s).cp ∧
            t.jw = { s.jw with state := .seeking, openedMark := true } ∧ t.jw.state.takes = true ∧
              (s.bp.outstanding .jw = false →
                t.bp.holds (asked .sheetHeaderRead (s.jw.base + BitVec.ofNat 64 (512 * s.jw.nextIndex)))) ∧
                t.ev = s.ev.raise .cmdDone ∧ t.su = s.su ∧ t.fu = s.fu ∧ t.os = s.os ∧ t.gu = s.gu ∧ t.tb = s.tb ∧
                  t.cx = s.cx ∧ t.pins = s.pins)

/-- JOURNAL_FLUSH: refused with STATE unless the journal is OPEN (that CLOSING, which no run meets with an IDLE port, is
refused too is the model's choice, log entry 18); with no place allotted it completes OK with no effect; otherwise the
sheet is sealed, keeping an earlier reason, its age timer stops, and the command stays BUSY (R164, R157). -/
def Obligations.JournalFlush : Prop :=
  ∀ (op : Half) (s : State), Ready s →
    (s.jw.state ≠ .opened → exec (.journalFlush op) s = .next (answered 10#8 op .state s)) ∧
      ∀ h, s.jw.state = .opened → s.jw.sheet = some h →
        (h.allotted = 0 → exec (.journalFlush op) s = .next (answered 10#8 op .ok s)) ∧
          (h.allotted ≠ 0 →
            ∃ t, exec (.journalFlush op) s = .next t ∧ t.cp = (busyWith 10#8 op s).cp ∧
              t.jw = { s.jw with sheet := some { h with sealed := some (h.sealed.getD .flush) }, ageStart := none } ∧
                t.ev = s.ev ∧ t.su = s.su ∧ t.fu = s.fu ∧ t.os = s.os ∧ t.gu = s.gu ∧ t.tb = s.tb ∧ t.cx = s.cx ∧
                  t.pins = s.pins)

/-- JOURNAL_CLOSE: refused with STATE in OFF; in OPEN with a transfer under way it waits in CLOSING, with none it seals
a sheet with places CLOSED and asks for its header write, or is OFF at once with an untouched sheet; in SEEKING it
waits, with the header read marked for discard and the held records lost; in BLOCKED and FAULTED the journal is OFF at
once, the held records, and in FAULTED those written into an open sheet, lost and the command complete (R165). -/
def Obligations.JournalClose : Prop :=
  ∀ (op : Half) (s : State), Ready s →
    (s.jw.state = .off → exec (.journalClose op) s = .next (answered 11#8 op .state s)) ∧
      (s.jw.state = .opened → s.bp.outstanding .jw = true → ∃ t, exec (.journalClose op) s = .next t ∧
        t.cp = (busyWith 11#8 op s).cp ∧ t.jw = { s.jw with state := .closing } ∧ t.ev = s.ev ∧ t.su = s.su ∧
          t.fu = s.fu ∧ t.os = s.os ∧ t.gu = s.gu ∧ t.tb = s.tb ∧ t.cx = s.cx) ∧
        (∀ h, s.jw.state = .opened → s.bp.outstanding .jw = false → s.jw.sheet = some h → h.sealed = none →
          s.jw.fifo = [] → ∃ t, exec (.journalClose op) s = .next t ∧ t.su = s.su ∧ t.fu = s.fu ∧ t.os = s.os ∧
            t.gu = s.gu ∧ t.tb = s.tb ∧ t.cx = s.cx ∧
              (h.allotted = 0 → t.cp = (answered 11#8 op .ok s).cp ∧ t.jw.state = .off ∧ t.jw.sheet = none ∧
                t.ev = s.ev.raise .cmdDone) ∧
                (h.allotted ≠ 0 → t.cp = (busyWith 11#8 op s).cp ∧
                  t.jw = { s.jw with
                    state := .closing, sheet := some { h with sealed := some .closed }, ageStart := none } ∧
                    t.ev = s.ev ∧ t.bp.holds
                      (asked (.sheetHeaderWrite (s.jw.header h .closed)) (s.jw.sheetAddress h.index)))) ∧
          (s.jw.state = .seeking → s.bp.outstanding .jw = true → ∃ t, exec (.journalClose op) s = .next t ∧
            t.cp = (busyWith 11#8 op s).cp ∧ t.jw.state = .closing ∧ t.jw.fifo = [] ∧
              t.jw.lostCount = satAdd s.jw.lostCount s.jw.fifo.length ∧ t.ev = s.ev.lose s.jw.fifo.length ∧
                (∀ f, t.bp.inFlight = some f → f.transfer.kind = .sheetHeaderRead → f.transfer.discard = true) ∧
                  t.su = s.su ∧ t.fu = s.fu ∧ t.os = s.os ∧ t.gu = s.gu ∧ t.tb = s.tb ∧ t.cx = s.cx) ∧
            (s.jw.state = .blocked ∨ s.jw.state = .faulted →
              ∃ t, exec (.journalClose op) s = .next t ∧ t.cp = (answered 11#8 op .ok s).cp ∧ t.jw.state = .off ∧
                t.jw.fifo = [] ∧
                  (s.jw.state = .blocked → t.jw.lostCount = satAdd s.jw.lostCount s.jw.fifo.length) ∧
                    (s.jw.state = .faulted →
                      t.jw.lostCount = satAdd s.jw.lostCount (s.jw.fifo.length + s.jw.written)) ∧
                      t.jw.nextIndex = s.jw.nextIndex ∧ t.jw.nextSequence = s.jw.nextSequence ∧
                        t.jw.recheckStart = none ∧ t.su = s.su ∧ t.fu = s.fu ∧ t.os = s.os ∧ t.gu = s.gu ∧
                          t.tb = s.tb ∧ t.cx = s.cx)

/-- STAMP: refused with STATE in OFF, CLOSING and FAULTED; otherwise its record is offered and the command completes OK,
the record lost, and counted so, if the FIFO is full (R166, R153). -/
def Obligations.StampRecorded : Prop :=
  ∀ (op : Half) (s : State), Ready s →
    (s.jw.state = .off ∨ s.jw.state = .closing ∨ s.jw.state = .faulted →
      exec (.stamp op) s = .next (answered 12#8 op .state s)) ∧
      (s.jw.state = .seeking ∨ s.jw.state = .opened ∨ s.jw.state = .blocked →
        ∃ t, exec (.stamp op) s = .next t ∧ t.cp = (answered 12#8 op .ok s).cp ∧ pendingCause .cmdDone t = true ∧
          (s.jw.fifo.length < 16 → t.jw.fifo = s.jw.fifo ++
            [{ kind := .stamp, source := 0xFF#8, flags := 0#8, stamp := s.tb.tl.setWidth 40,
               value1 := s.tb.pt.setWidth 32, value2 := (s.tb.pt.extractLsb' 32 16).setWidth 32 }]) ∧
            (16 ≤ s.jw.fifo.length → t.jw.fifo = s.jw.fifo ∧ t.jw.lostCount = satAdd s.jw.lostCount 1 ∧
              pendingCause .recordsLost t = true) ∧
              OffersCounted 1 s t ∧ t.jw.state = s.jw.state ∧ t.su = s.su ∧ t.fu = s.fu ∧ t.os = s.os ∧
                t.gu = s.gu ∧ t.tb = s.tb ∧ t.cx = s.cx ∧ t.pins = s.pins)

/-- DUMP_TALLIES: refused with BAD_ARGUMENT when misaligned; accepted, it takes the snapshot of TL and the counters,
clears them with CLEAR, and asks for the first write (R187). -/
def Obligations.DumpTallies : Prop :=
  ∀ (op : Half) (s : State), Ready s →
    ((argWords s).toNat % 16 ≠ 0 → exec (.dumpTallies op) s = .next (answered 13#8 op .badArgument s)) ∧
      ((argWords s).toNat % 16 = 0 →
        let snap : TallySnapshot := { tl := s.tb.tl, counters := s.ev.tallies }
        exec (.dumpTallies op) s = .next { busyWith 13#8 op s with
          cp := { (busyWith 13#8 op s).cp with snapshot := some snap }
          ev := if op.getLsbD 0 then { s.ev with tallies := Vector.replicate 16 0#32 } else s.ev
          bp := (s.bp.request (asked (.tallyWriteLow snap) (argWords s))).grant })

/-! ## Time (chapter 1, and the events that fall due) -/

/-- A tick advances TL by one, with wrap, whatever else is due; with nothing else due, PT advances exactly while a
program is not IDLE and nothing holds it, and at its limit it stands and the time-range notice goes out; nothing else
changes but the tick source's own counting (R4, R6, R8, R10; log entries 3 and 25). -/
def Obligations.TickAdvancesTime : Prop :=
  ∀ s : State, s.resetAsserted = false →
    (∃ t, exec .tick s = .next t ∧ t.tb.tl = s.tb.tl + 1#48) ∧
      (NothingDue s →
        let moves : Prop := s.su.program ≠ .idle ∧ s.tb.hostPause = false ∧ s.tb.guardHolds = 0#4
        ∃ t, exec .tick s = .next t ∧ t.tb.tl = s.tb.tl + 1#48 ∧
          (moves → s.tb.pt.toNat < 2 ^ 48 - 1 → t.tb.pt = s.tb.pt + 1#48 ∧ t.tb.timeRangeNotice = false) ∧
            (moves → s.tb.pt.toNat = 2 ^ 48 - 1 → t.tb.pt = s.tb.pt ∧ t.tb.timeRangeNotice = true) ∧
              (¬moves → t.tb.pt = s.tb.pt ∧ t.tb.timeRangeNotice = false) ∧
                t.tb.hostPause = s.tb.hostPause ∧ t.tb.guardHolds = s.tb.guardHolds ∧ t.tb.source = s.tb.source ∧
                  t.tb.prescale = s.tb.prescale ∧ t.tb.tbinEdge = s.tb.tbinEdge ∧ t.fu = s.fu ∧ t.su = s.su ∧
                    t.os = s.os ∧ t.gu = s.gu ∧ t.cx = s.cx ∧ t.jw = s.jw ∧ t.cp = s.cp ∧ t.ev = s.ev ∧
                      t.bp = s.bp ∧ t.pins.inputs = s.pins.inputs ∧ t.pins.faults = s.pins.faults)

/-- TIME_RANGE, of a state between events: the notice ends an active program as FAULTED with reason TIME_RANGE, in
STOPPING or, with no strip tracked, in IDLE at once, and is taken with no effect by any other; without a notice nothing
happens (R8, R91, R94). An event whose condition does not hold has no effect by log entry 5. -/
def Obligations.TimeRangeFaults : Prop :=
  ∀ s : State,
    (s.tb.timeRangeNotice = false → exec .timeRange s = .next s) ∧
      (s.tb.timeRangeNotice = true → Quiet s → Rested s →
        (s.su.program = .running ∨ s.su.program = .draining → Retiring s →
          ∃ t, exec .timeRange s = .next t ∧
            Aborted .faulted .timeRange { s with tb := { s.tb with timeRangeNotice := false } } t ∧ t.cp = s.cp) ∧
          (s.su.program = .running → Untracked s →
            ∃ t, exec .timeRange s = .next t ∧
              EndedAtOnce .faulted .timeRange { s with tb := { s.tb with timeRangeNotice := false } } t) ∧
          (s.su.program = .idle ∨ s.su.program = .stopping →
            exec .timeRange s = .next { s with tb := { s.tb with timeRangeNotice := false } }))

/-- APPLICATION of entries that move lines, of a state between events: every entry due at PT is applied, in agenda
order, as one batch of the OS; a lead is re-keyed to its trail, a train goes on while pulses remain, any other leaves; a
DRAINING program whose last entry leaves enters STOPPING with its outcome; the batch ends in one resolution of every
line, in which a rise within the dead time of the partner's fall is deferred and counted; one change that leaves an
enabled pair requested both HIGH has both requests rewritten to LOW, with its SHOOT record and count; with none due, or
no program, nothing happens (R67 to R74, R78, R89, R106 to R109). An event whose condition does not hold has no effect
by log entry 5; that the SHOOT records of one change stand in the order of their pairs' numbers is log entry 6. -/
def Obligations.ApplicationMovesLines : Prop :=
  ∀ s : State,
    let rest := s.su.agenda.filterMap (Entry.afterApplication s.tb.pt)
    let applied (u : ScheduleUnit) : Prop := ∃ t, exec .application s = .next t ∧ t.su = u ∧
      t.os = (osBatch ((dueEntries s).filterMap Entry.change) s).os ∧
        t.gu = (osBatch ((dueEntries s).filterMap Entry.change) s).gu ∧ t.tb = s.tb ∧ t.cx = s.cx ∧ t.cp = s.cp ∧
          t.pins = s.pins ∧ t.oracle = s.oracle
    (s.su.program ≠ .running → s.su.program ≠ .draining → exec .application s = .next s) ∧
      (dueEntries s = [] → exec .application s = .next s) ∧
        (Quiet s → Rested s → dueEntries s ≠ [] →
          (∀ e ∈ dueEntries s, e.kind ≠ .mark ∧ e.kind ≠ .applyLimits ∧ e.kind ≠ .endProgram) →
            (s.su.program = .running ∨ (s.su.program = .draining ∧ rest ≠ []) → applied { s.su with agenda := rest }) ∧
              (s.su.program = .draining → s.su.outcome = .drained ∨ s.su.outcome = .ended → rest = [] → Retiring s →
                applied { s.su with
                  program := .stopping, admissionOpen := false, queue := [], waiter := none, agenda := [] }) ∧
              (s.su.program = .running ∨ (s.su.program = .draining ∧ rest ≠ []) →
                (∃ t, exec .application s = .next t ∧ t.os.pairs = s.os.pairs ∧ Resolved s.tb.tl s.os t.os ∧
                  t.ev.tallies[5] = satAdd s.ev.tallies[5] (risesDeferred s.os t.os) ∧
                    t.ev.tallies[3] = satAdd s.ev.tallies[3] (dueEntries s).length) ∧
                  ∀ e, dueEntries s = [e] →
                    let levels : Half := if e.kind = .pulseTrail ∨ e.kind = .trainTrail then ~~~e.pattern else e.pattern
                    let named (n : Fin 16) : Bool := e.mask.getLsbD n.val && s.os.lines[n].role == .sequenced
                    let wanted (n : Fin 16) : Level :=
                      if named n then if levels.getLsbD n.val then .high else .low else s.os.lines[n].requested
                    let shoots (k : Fin 8) : Bool :=
                      s.os.pairs[k].enabled && wanted (lowerLine k) == .high && wanted (upperLine k) == .high
                    let shot : List (Fin 8) := (List.finRange 8).filter shoots
                    ∃ t, exec .application s = .next t ∧
                      (∀ n : Fin 16, t.os.lines[n].requested = (if shoots (pairOf n) then .low else wanted n) ∧
                        t.os.lines[n].await = (s.os.lines[n].await && !named n)) ∧
                        t.fu.table = s.fu.table.map (fun sl => slotJudged s.fu (if e.rekeyed.isSome then sl else
                          slotNoticed e.slot (fun x => { x with outstanding := x.outstanding - 1 }) sl)) ∧
                        (s.bp.outstanding .fu = false → RetireAsked t) ∧
                        t.ev.tallies[4] = satAdd s.ev.tallies[4] shot.length ∧
                          t.jw.fifo = (shot.foldl (fun j k => j.offer
                            { kind := .shoot, source := BitVec.ofNat 8 k.val, flags := 0#8, stamp := s.tb.tl.setWidth 40,
                              value1 := 0#32, value2 := 0#32 }) s.jw).fifo))

/-- What one phase of an entry asks of its lines and becomes: SET asks its pattern and leaves; a PULSE lead asks it and
becomes a trail due one width later; a trail asks the opposite levels and leaves; a TRAIN lead and trail alternate, the
next lead one period after the last, until no pulse remains (R69 to R74). -/
def Obligations.EntryPhases : Prop :=
  ∀ e : Entry,
    (e.kind = .set → e.change = some { mask := e.mask, levels := e.pattern } ∧ e.rekeyed = none) ∧
      (e.kind = .pulseLead → e.change = some { mask := e.mask, levels := e.pattern } ∧
        e.rekeyed = some { e with kind := .pulseTrail, due := e.due + e.width.setWidth 48 }) ∧
        (e.kind = .pulseTrail → e.change = some { mask := e.mask, levels := ~~~e.pattern } ∧ e.rekeyed = none) ∧
          (e.kind = .trainLead → e.change = some { mask := e.mask, levels := e.pattern } ∧
            e.rekeyed = some { e with kind := .trainTrail, due := e.due + e.width.setWidth 48 }) ∧
            (e.kind = .trainTrail → e.change = some { mask := e.mask, levels := ~~~e.pattern } ∧
              (e.remaining.toNat ≤ 1 → e.rekeyed = none) ∧
                (1 < e.remaining.toNat → ∃ r, e.rekeyed = some r ∧ r.kind = .trainLead ∧
                  r.due + e.width.setWidth 48 = e.due + e.period.setWidth 48 ∧ r.remaining = e.remaining - 1#16)) ∧
              (e.kind = .mark ∨ e.kind = .applyLimits ∨ e.kind = .endProgram → e.change = none ∧ e.rekeyed = none)

/-- APPLICATION in a RUNNING program between events of one MARK, APPLY_LIMITS or END entry: a MARK offers its record
with tag and PT, raises MARK if asked and leaves its strip; APPLY_LIMITS makes a staged block active, its dead times,
blank lengths and hold limits taken, and with none staged only records that; an END puts the program in DRAINING with
outcome ENDED, or, as the last entry, in STOPPING. And of any entries due together: the lines take the batch, a staged
block's dead times before or after it (which of the two is the model's draw, log entry 1), the records are offered in
order, and an END among them ends the program (R26 to R28, R67, R75 to R77, R79, R89, R112, R179). That the MARK and
LIMITS records of the SU stand before the SHOOT records that the same batch brings is log entry 6. -/
def Obligations.MarkAndEndApplied : Prop :=
  ∀ s : State, Quiet s → Rested s → s.su.program = .running →
    let rest := s.su.agenda.filterMap (Entry.afterApplication s.tb.pt)
    let record (kind : RecordKind) (flags : Byte) (v1 v2 : Word) : Record :=
      { kind := kind, source := 0xFF#8, flags := flags, stamp := s.tb.tl.setWidth 40, value1 := v1, value2 := v2 }
    let steady : Prop := ∀ n : Fin 4, s.gu.inputs[n].state ≠ .active
    let drains : ScheduleUnit :=
      { s.su with program := .draining, outcome := .ended, reason := .none, agenda := rest }
    let stops : ScheduleUnit :=
      { s.su with
        program := .stopping, outcome := .ended, reason := .none, admissionOpen := false, queue := [], waiter := none,
        agenda := [] }
    (∀ e, dueEntries s = [e] →
      (e.kind = .mark → ∃ t, exec .application s = .next t ∧ t.su = { s.su with agenda := rest } ∧
        t.jw.fifo = (s.jw.offer (record .mark 0#8 e.tag (s.tb.pt.setWidth 32))).fifo ∧
          (e.notify = true → pendingCause .mark t = true) ∧
            (e.notify = false → pendingCause .mark t = pendingCause .mark s) ∧
              t.fu.table = s.fu.table.map (fun sl => slotJudged s.fu
                (slotNoticed e.slot (fun x => { x with outstanding := x.outstanding - 1 }) sl)) ∧
                (s.bp.outstanding .fu = false → RetireAsked t) ∧ t.os = s.os ∧ t.gu = s.gu ∧ t.tb = s.tb ∧
                  t.cx = s.cx ∧ t.cp = s.cp ∧ t.pins = s.pins) ∧
        (e.kind = .applyLimits → s.cp.staged = none → ∃ t, exec .application s = .next t ∧
          t.su = { s.su with agenda := rest } ∧ t.jw.fifo = (s.jw.offer (record .limits 2#8 0#32 0#32)).fifo ∧
            t.os = s.os ∧ t.gu = s.gu ∧ t.tb = s.tb ∧ t.cx = s.cx ∧ t.cp = s.cp ∧ t.pins = s.pins) ∧
          (∀ b, e.kind = .applyLimits → s.cp.staged = some b →
            (inProgressIs stopCode s = true → s.su.program = .stopping) →
              ∃ t, exec .application s = .next t ∧ t.cp = { s.cp with active := b.limits, staged := none } ∧
                (∀ k : Fin 8, t.os.pairs[k].deadTime = b.limits.deadTimes[k] ∧
                  t.os.pairs[k].enabled = s.os.pairs[k].enabled) ∧
                  (∀ n : Fin 4, t.gu.inputs[n].blankLength = b.limits.blankLengths[n] ∧
                    t.gu.inputs[n].holdLimit = b.limits.holdLimits[n]) ∧
                    t.tb.tl = s.tb.tl ∧ t.tb.pt = s.tb.pt ∧ t.cx = s.cx ∧ t.pins = s.pins ∧
                      (steady → t.su = { s.su with agenda := rest } ∧
                        t.jw.fifo = (s.jw.offer
                          (record .limits (if b.replaced then 5#8 else 1#8) 0#32 0#32)).fifo)) ∧
            (e.kind = .endProgram → rest ≠ [] → ∃ t, exec .application s = .next t ∧ t.su = drains ∧
              t.jw.fifo = s.jw.fifo ∧ t.os = s.os ∧ t.gu = s.gu ∧ t.tb = s.tb ∧ t.cx = s.cx ∧ t.cp = s.cp ∧
                t.pins = s.pins) ∧
              (e.kind = .endProgram → rest = [] → Retiring s → ∃ t, exec .application s = .next t ∧ t.su = stops ∧
                t.jw.fifo = s.jw.fifo ∧ t.os = s.os ∧ t.gu = s.gu ∧ t.tb = s.tb ∧ t.cx = s.cx ∧ t.cp = s.cp ∧
                  t.pins = s.pins)) ∧
      (dueEntries s ≠ [] →
        let changes := (dueEntries s).filterMap Entry.change
        let ends : Prop := ∃ e ∈ dueEntries s, e.kind = .endProgram
        let limits : Prop := ∃ e ∈ dueEntries s, e.kind = .applyLimits
        let offered (e : Entry) : Option Record :=
          if e.kind = .mark then some (record .mark 0#8 e.tag (s.tb.pt.setWidth 32))
          else if e.kind = .applyLimits then some (record .limits 2#8 0#32 0#32) else none
        (s.cp.staged = none ∨ ¬limits → (ends → rest = [] → Retiring s) →
          ∃ t, exec .application s = .next t ∧ (¬ends → t.su = { s.su with agenda := rest }) ∧
            (ends → rest ≠ [] → t.su = drains) ∧ (ends → rest = [] → t.su = stops) ∧
              t.os = (osBatch changes s).os ∧ t.gu = (osBatch changes s).gu ∧
                (((dueEntries s).filterMap offered).foldl (fun j r => j.offer r) s.jw).fifo <+: t.jw.fifo ∧
                  ((∃ e ∈ dueEntries s, e.kind = .mark ∧ e.notify = true) → pendingCause .mark t = true) ∧
                    t.tb = s.tb ∧ t.cx = s.cx ∧ t.cp = s.cp ∧ t.pins = s.pins) ∧
          ∀ b, s.cp.staged = some b → limits → ¬ends → steady →
            let timed (o : OutputStage) : OutputStage := (o.newDeadTimes s.tb.tl b.limits).resolve s.tb.tl
            ∃ t, exec .application s = .next t ∧ t.su = { s.su with agenda := rest } ∧
              t.cp = { s.cp with active := b.limits, staged := none } ∧
                (s.oracle % 2 = 0 → t.os = timed (osBatch changes s).os) ∧
                  (s.oracle % 2 = 1 → t.os = (osBatch changes { s with os := timed s.os }).os) ∧ t.tb = s.tb ∧
                    t.cx = s.cx ∧ t.pins = s.pins)

/-- The tick events of one line: a deferred rise due at this TL drives its line HIGH and no other, and a last-fall stamp
65,536 ticks old is discarded; requests, levels and pairs stand, and an event that is not due does nothing (R109, R110,
R113). An event whose condition does not hold has no effect by log entry 5. -/
def Obligations.LineTickEvents : Prop :=
  ∀ (n : Fin 16) (s : State),
    (s.os.lines[n].deferred = some s.tb.tl →
      ∃ t, exec (.deferredRiseExpiry n) s = .next t ∧
        t.os.lines[n] = { s.os.lines[n] with driven := .high, deferred := none } ∧
          (∀ m : Fin 16, m ≠ n → t.os.lines[m] = s.os.lines[m]) ∧ t.os.pairs = s.os.pairs ∧
            (s.os.lines[n].driven ≠ .high → t.gu = s.gu.blank s.tb.tl [n]) ∧ t.su = s.su ∧ t.fu = s.fu ∧
              t.jw = s.jw ∧ t.ev = s.ev ∧ t.tb = s.tb ∧ t.cx = s.cx ∧ t.cp = s.cp ∧ t.bp = s.bp) ∧
      (s.os.lines[n].deferred ≠ some s.tb.tl → exec (.deferredRiseExpiry n) s = .next s) ∧
        (∀ f, s.os.lines[n].lastFall = some f →
          (f + 65536#48 = s.tb.tl → ∃ t, exec (.lastFallDiscard n) s = .next t ∧
            t.os.lines[n] = { s.os.lines[n] with lastFall := none } ∧
              (∀ m : Fin 16, m ≠ n → t.os.lines[m] = s.os.lines[m]) ∧ t.os.pairs = s.os.pairs ∧ t.gu = s.gu ∧
                t.su = s.su ∧ t.fu = s.fu ∧ t.jw = s.jw ∧ t.ev = s.ev ∧ t.tb = s.tb ∧ t.cx = s.cx ∧ t.cp = s.cp ∧
                  t.bp = s.bp) ∧
            (f + 65536#48 ≠ s.tb.tl → exec (.lastFallDiscard n) s = .next s)) ∧
          (s.os.lines[n].lastFall = none → exec (.lastFallDiscard n) s = .next s)

/-- BLANK_END: at the end of its window an input that is QUIET and asserted becomes ACTIVE, with its record, its count
and the effect of its action, of a state with no notice out, and any other only loses its blank-until; an end that is
not due does nothing (R124 to R128, R136). An event whose condition does not hold has no effect by log entry 5; that the
GUARD record stands before the SU's and the OS's records of its step is log entry 6. -/
def Obligations.BlankWindowEnds : Prop :=
  ∀ (n : Fin 4) (s : State),
    (s.gu.inputs[n].blankUntil ≠ some s.tb.tl → exec (.blankEnd n) s = .next s) ∧
      (s.gu.inputs[n].blankUntil = some s.tb.tl →
        (s.gu.inputs[n].state = .quiet → s.gu.inputs[n].asserted = true →
          ∃ t, exec (.blankEnd n) s = .next t ∧ t.gu.inputs[n].state = .active ∧ pendingCause .guard t = true ∧
            t.cx = s.cx ∧ t.pins = s.pins ∧ t.tb.tl = s.tb.tl ∧ t.tb.pt = s.tb.pt ∧ (Quiet s → GuardActed n s t)) ∧
          (s.gu.inputs[n].state ≠ .quiet ∨ s.gu.inputs[n].asserted = false → Quiet s → Rested s →
            exec (.blankEnd n) s = .next
              { s with gu := s.gu.setInput n { s.gu.inputs[n] with blankUntil := none } }))

/-- HOLD_ESCALATION: a hold that reaches its limit sets the trip latch with its source and mask, covers its lines, is
marked escalated and stays ACTIVE, leaves the hold-cause set, offers its ESCALATE record, raises GUARD and TRIP and
counts, and no program is active after it (R131, R128, R136, R92); one that is not due does nothing. An event whose
condition does not hold has no effect by log entry 5; that the ESCALATE record stands before the SU's and the OS's
records of its step is log entry 6. -/
def Obligations.HoldEscalates : Prop :=
  ∀ (n : Fin 4) (s : State),
    (∀ h, s.gu.inputs[n].state = .active → s.gu.inputs[n].action = .hold → s.gu.inputs[n].escalated = false →
      s.gu.inputs[n].holdLimit ≠ 0#32 → s.gu.inputs[n].holdStart = some h →
        h + s.gu.inputs[n].holdLimit.setWidth 48 = s.tb.tl →
          ∃ t, exec (.holdEscalation n) s = .next t ∧ t.gu.latch = true ∧ t.gu.sources.getLsbD n.val = true ∧
            (∀ m : Fin 16, s.gu.inputs[n].clampMask.getLsbD m.val = true →
              t.gu.mask.getLsbD m.val = true ∧ t.os.lines[m].covered = true) ∧
              t.gu.inputs[n].escalated = true ∧ t.gu.inputs[n].state = .active ∧
                (t.su.program = .idle ∨ t.su.program = .stopping) ∧ pendingCause .guard t = true ∧
                  pendingCause .trip t = true ∧ t.cx = s.cx ∧ t.pins = s.pins ∧ t.tb.tl = s.tb.tl ∧
                    t.tb.pt = s.tb.pt ∧ t.tb.guardHolds.getLsbD n.val = false ∧
                      (s.jw.offer
                        { kind := .guard, source := BitVec.ofNat 8 n.val, flags := 0x0C#8,
                          stamp := s.tb.tl.setWidth 40, value1 := 2#32,
                          value2 := (s.gu.mask ||| s.gu.inputs[n].clampMask).setWidth 32 |||
                            (s.gu.sources ||| faultBit n).setWidth 32 <<< 16 }).fifo <+: t.jw.fifo ∧
                        (s.cp.staged = none → t.ev.tallies[8] = satAdd s.ev.tallies[8] 1 ∧
                          t.ev.tallies[7] = satAdd s.ev.tallies[7] 1 ∧ t.ev.tallies[6] = s.ev.tallies[6])) ∧
      (s.gu.inputs[n].state ≠ .active ∨ s.gu.inputs[n].action ≠ .hold ∨ s.gu.inputs[n].escalated = true ∨
        s.gu.inputs[n].holdLimit = 0#32 ∨ s.gu.inputs[n].holdStart = none →
          exec (.holdEscalation n) s = .next s) ∧
        ∀ h, s.gu.inputs[n].holdStart = some h → h + s.gu.inputs[n].holdLimit.setWidth 48 ≠ s.tb.tl →
          exec (.holdEscalation n) s = .next s

/-- The three intervals: the link-watch interval's expiry asks for the re-read of the watched tail at once, or marks it
behind a transfer of the FU; the sheet-recheck interval's asks for the header of the sheet the journal is blocked on, or
marks it; the flush age's seals the open sheet AGED, keeping an earlier reason; an interval not at its end does nothing
(R11, R23, R156, R157). An event whose condition does not hold has no effect by log entry 5. -/
def Obligations.IntervalsExpire : Prop :=
  ∀ s : State, Rested s →
    (∀ b, s.fu.watchStart = some b →
      (b + BitVec.ofNat 48 s.fu.watchInterval.toNat ≠ s.tb.tl → exec .linkWatchInterval s = .next s) ∧
        (b + BitVec.ofNat 48 s.fu.watchInterval.toNat = s.tb.tl →
          (s.bp.outstanding .fu = true → exec .linkWatchInterval s = .next
            { s with fu := { s.fu with watchStart := none, rereadWanted := true } }) ∧
            (∀ sl, s.bp.outstanding .fu = false → s.fu.state = .watching → s.fu.newest = some sl →
              (∀ o ∈ s.fu.table.head?, o.state ≠ .retireReady) →
                ∃ t, exec .linkWatchInterval s = .next t ∧ t.bp.holds (asked .linkRead sl.address) ∧
                  t.fu = { s.fu with watchStart := none, rereadWanted := false } ∧
                    t.ev = s.ev.count .linkRechecks 1 ∧ t.su = s.su ∧ t.jw = s.jw ∧ t.os = s.os ∧ t.tb = s.tb))) ∧
      (∀ b, s.jw.recheckStart = some b →
        (b + BitVec.ofNat 48 s.jw.recheckInterval.toNat ≠ s.tb.tl → exec .sheetRecheckInterval s = .next s) ∧
          (b + BitVec.ofNat 48 s.jw.recheckInterval.toNat = s.tb.tl →
            (s.bp.outstanding .jw = true → exec .sheetRecheckInterval s = .next
              { s with jw := { s.jw with recheckStart := none, rereadWanted := true } }) ∧
              (s.bp.outstanding .jw = false → s.jw.state = .blocked →
                ∃ t, exec .sheetRecheckInterval s = .next t ∧
                  t.bp.holds (asked .sheetHeaderRead (s.jw.sheetAddress s.jw.nextIndex)) ∧
                    t.jw = { s.jw with recheckStart := none, rereadWanted := false } ∧ t.ev = s.ev ∧ t.su = s.su ∧
                      t.fu = s.fu ∧ t.os = s.os ∧ t.tb = s.tb))) ∧
        (∀ b h, s.jw.ageStart = some b → s.jw.sheet = some h →
          (b + BitVec.ofNat 48 s.jw.flushAge.toNat ≠ s.tb.tl → exec .flushAge s = .next s) ∧
            (b + BitVec.ofNat 48 s.jw.flushAge.toNat = s.tb.tl →
              ∃ t, exec .flushAge s = .next t ∧
                t.jw = { s.jw with sheet := some { h with sealed := some (h.sealed.getD .aged) }, ageStart := none } ∧
                  t.ev = s.ev ∧ t.su = s.su ∧ t.fu = s.fu ∧ t.os = s.os ∧ t.tb = s.tb ∧ t.cp = s.cp)) ∧
          (s.fu.watchStart = none → exec .linkWatchInterval s = .next s) ∧
            (s.jw.recheckStart = none → exec .sheetRecheckInterval s = .next s) ∧
              (s.jw.ageStart = none → exec .flushAge s = .next s)

/-- WAIT_TIMEOUT, of a state between events: at the deadline the waiter is disarmed and the TIMEOUT record offered; with
CONTINUE the anchor and the cursor take PT, and STARVED is raised if the queue is empty and the FU WATCHING, with STOP
the program ends FAULTED with WAIT_TIMEOUT; before the deadline, or with no waiter, nothing happens (R60, R32). Records
that the journal does not hold are counted, with STOP those of suppressed pairs, the ENDED record and a LIMITS record
too (R95, R96, R107, R131, R153). An event whose condition does not hold has no effect by log entry 5; that the SU's
TIMEOUT record stands before the OS's and the GU's records of its step is log entry 6. -/
def Obligations.WaitTimesOut : Prop :=
  ∀ s : State,
    (s.su.waiter = none → exec .waitTimeout s = .next s) ∧
      ∀ w, s.su.waiter = some w →
        let reported : JournalWriter := s.jw.offer
          { kind := .wait, source := BitVec.ofNat 8 w.channel.val, flags := 0#8, stamp := s.tb.tl.setWidth 40,
            value1 := 1#32, value2 := s.tb.pt.setWidth 32 }
        (w.deadline ≠ some s.tb.pt → exec .waitTimeout s = .next s) ∧
          (w.deadline = some s.tb.pt → Quiet s → Rested s →
            (w.timeoutStop = false → ∃ t, exec .waitTimeout s = .next t ∧
              t.su = { s.su with waiter := none, anchor := s.tb.pt, cursor := s.tb.pt } ∧
                t.jw.fifo = reported.fifo ∧ OffersCounted 1 s t ∧ StarvedJudged s t ∧ t.os = s.os ∧ t.gu = s.gu ∧
                  t.tb = s.tb ∧ t.cx = s.cx ∧ t.cp = s.cp ∧ t.pins = s.pins) ∧
              (w.timeoutStop = true → s.su.program = .running → Retiring s →
                ∃ t, exec .waitTimeout s = .next t ∧ Aborted .faulted .waitTimeout s t ∧ t.cp = s.cp ∧
                  reported.fifo <+: t.jw.fifo ∧ OffersCountedWith 1 s t) ∧
                (w.timeoutStop = true → s.su.program = .running → Untracked s →
                  ∃ t, exec .waitTimeout s = .next t ∧ EndedAtOnce .faulted .waitTimeout s t ∧
                    reported.fifo <+: t.jw.fifo ∧ OffersCountedWith (if s.cp.staged.isSome then 3 else 2) s t))

/-- BUS_RESPONSE_TIMEOUT: the transfer in flight ends as its requester's ERROR end does, with BUS_ERROR raised and
counted; one that a reset left without a requester only frees the bus for the next; with none in flight nothing happens
(R189). A read of the FU marked for discard ends, OK or ERROR, without effect on the program and the tracked strips, and
its ERROR still counts (R30). That the periods counted do not gate the command is the model's choice (log entry 17). An
event whose condition does not hold has no effect by log entry 5. -/
def Obligations.ResponseTimeoutIsError : Prop :=
  ∀ (p : Pins) (s : State),
    (s.bp.inFlight = none → exec .busResponseTimeout s = .next s) ∧
      ∀ f, s.bp.inFlight = some f →
        exec .busResponseTimeout s = exec (errorEnd p f.transfer.kind) s ∧
          (f.orphan = true →
            exec .busResponseTimeout s = .next { s with bp := ({ s.bp with inFlight := none } : BusPort).grant }) ∧
            (f.orphan = false → ∃ t, exec .busResponseTimeout s = .next t ∧ pendingCause .busError t = true ∧
              t.ev.tallies[15] = satAdd s.ev.tallies[15] 1 ∧
                ∀ g, t.bp.inFlight = some g → g.periods = 0 ∧ g.orphan = false) ∧
            (f.orphan = false → f.transfer.discard = true → Quiet s → Rested s → s.bp.Filed →
              let unmoved (t : State) : Prop :=
                t.su = s.su ∧ t.fu.table = s.fu.table ∧ t.fu.state = s.fu.state ∧ t.os = s.os ∧ t.gu = s.gu ∧
                  t.tb = s.tb ∧ t.cx = s.cx ∧ t.cp = s.cp ∧ t.jw.fifo = s.jw.fifo
              let quietEnd (c : Instr) : Prop := ∃ t, exec c s = .next t ∧ unmoved t ∧ t.ev.events = s.ev.events
              (f.transfer.kind.isFetchRead = true → ∃ t, exec .busResponseTimeout s = .next t ∧ unmoved t ∧
                pendingCause .busError t = true ∧ t.ev.tallies[15] = satAdd s.ev.tallies[15] 1) ∧
                (∀ q d, f.transfer.kind = .stripHeaderRead q → quietEnd (.stripHeaderReadComplete (.ok d))) ∧
                  (∀ two d, f.transfer.kind = .stepRead two → quietEnd (.stepReadComplete (.ok d))) ∧
                    ∀ d, f.transfer.kind = .linkRead → quietEnd (.linkRereadComplete (.ok d)))

/-! ## Pins (chapters 7 and 8) -/

/-- CANDIDATE_ASSERTION, of a state with no notice out: an unblanked QUIET input becomes ACTIVE with GUARD raised, its
ASSERT record offered and the activation counted; CLAMP and HOLD clamp their SEQUENCED lines, HOLD holds the program,
TRIP sets the latch with its source and mask, raises TRIP and counts it, covers the lines and leaves no program active;
a blanked input only takes its level; an input that is OFF or asserted already takes nothing (R121, R124 to R128, R136).
An event whose condition does not hold has no effect by log entry 5; that the ASSERT record stands before the SU's and
the OS's records of its step is log entry 6. -/
def Obligations.AssertionActs : Prop :=
  ∀ (n : Fin 4) (s : State), Quiet s →
    let i := s.gu.inputs[n]
    (i.state = .off ∨ i.asserted = true → exec (.candidateAssertion n) s = .next s) ∧
      (i.state = .quiet → i.asserted = false → i.blankUntil ≠ none → Rested s →
        ∃ t, exec (.candidateAssertion n) s = .next t ∧
          t.gu = s.gu.setInput n { i with asserted := true, filterRun := 0 } ∧ t.os = s.os ∧ t.su = s.su ∧
            t.fu = s.fu ∧ t.jw = s.jw ∧ t.ev = s.ev ∧ t.tb = s.tb ∧ t.cp = s.cp ∧ t.cx = s.cx) ∧
        (i.state = .quiet → i.asserted = false → i.blankUntil = none →
          ∃ t, exec (.candidateAssertion n) s = .next t ∧ GuardActed n s t)

/-- DEASSERTION: an ACTIVE input becomes QUIET, its clamps leave the lines (which await their next action if the policy
says so), its hold leaves the set, and its RELEASE record is offered; a trip stays latched; a QUIET input only takes its
level; an input that is OFF or deasserted already takes nothing (R121, R129, R136). An event whose condition does not
hold has no effect by log entry 5. -/
def Obligations.DeassertionReleases : Prop :=
  ∀ (n : Fin 4) (s : State),
    let i := s.gu.inputs[n]
    (i.state = .off ∨ i.asserted = false → exec (.deassertion n) s = .next s) ∧
      (i.state = .quiet → i.asserted = true → Rested s → ∃ t, exec (.deassertion n) s = .next t ∧
        t.gu = s.gu.setInput n { i with asserted := false, filterRun := 0 } ∧ t.os = s.os ∧ t.su = s.su ∧
          t.fu = s.fu ∧ t.jw = s.jw ∧ t.ev = s.ev ∧ t.tb = s.tb ∧ t.cp = s.cp ∧ t.cx = s.cx) ∧
        (i.state = .active → i.asserted = true → ∃ t, exec (.deassertion n) s = .next t ∧
          t.gu.inputs[n].state = .quiet ∧ t.gu.inputs[n].asserted = false ∧ t.gu.inputs[n].escalated = false ∧
            t.gu.latch = s.gu.latch ∧ t.gu.sources = s.gu.sources ∧ t.gu.mask = s.gu.mask ∧
              (i.action = .clamp ∨ i.action = .hold → ∀ m : Fin 16, t.os.lines[m].clampSet.getLsbD n.val = false ∧
                (s.os.lines[m].clampSet.getLsbD n.val = true → i.policy = .onNextAction →
                  t.os.lines[m].await = true)) ∧
                (i.action = .hold → t.tb.guardHolds = s.tb.guardHolds &&& ~~~faultBit n ∧
                  t.gu.inputs[n].holdStart = none) ∧
                  (i.action = .note ∨ i.action = .trip → t.os = s.os ∧ t.tb = s.tb) ∧ t.su = s.su ∧ t.fu = s.fu ∧
                    t.cx = s.cx ∧ t.tb.tl = s.tb.tl ∧
                      t.jw.fifo = (s.jw.offer
                        { kind := .guard, source := BitVec.ofNat 8 n.val, flags := 0x02#8,
                          stamp := s.tb.tl.setWidth 40, value1 := BitVec.ofNat 32 i.action.code,
                          value2 := s.gu.mask.setWidth 32 ||| s.gu.sources.setWidth 32 <<< 16 }).fifo)

/-- RECOGNIZED_EDGE, of a state between events whose wait is not at its deadline: the channel takes its new level, its
stamps by its mode and its decimation count; an edge that the program awaits ends the wait at PT, with its record,
before or after the capture record by the model's draw (log entry 1), and STARVED is raised if the queue is empty and
the FU WATCHING; any other leaves the program as it stands; the measurement that the edge completes is offered when
decimation lets it through: the edge, the interval since the last leading edge, the width since it, or in CYCLE the
interval and the width, each limited to 32 bits; an edge the channel cannot have taken does nothing (R141, R143 to R149,
R59, R32). That the pin takes the edge's level is the model's choice (log entry 8). An event whose condition does not
hold has no effect by log entry 5. -/
def Obligations.EdgeRecognized : Prop :=
  ∀ (n : Fin 16) (e : Edge) (s : State),
    let c := s.cx.channels[n]
    let awaited : Prop :=
      s.su.program = .running ∧ ∃ w, s.su.waiter = some w ∧ w.channel = n ∧ w.edge.accepts e = true
    let value (d : Time) : Word := if d.toNat < 2 ^ 32 then d.setWidth 32 else 0xFFFFFFFF#32
    let flag (d : Time) : Byte := if d.toNat < 2 ^ 32 then 0#8 else 1#8
    let record (kind : RecordKind) (flags : Byte) (v1 v2 : Word) : Record :=
      { kind := kind, source := BitVec.ofNat 8 n.val, flags := flags, stamp := s.tb.tl.setWidth 40, value1 := v1,
        value2 := v2 }
    let leading : Bool := c.select.names e
    let completed : Option Record :=
      match c.mode with
      | .edge =>
        if leading then
          some (record .captureEdge 0#8 (match e with | .rise => 0#32 | .fall => 1#32)
            ((s.tb.tl.extractLsb' 40 8).setWidth 32))
        else none
      | .interval =>
        if leading then
          c.lastLeading.map fun a => record .captureInterval (flag (s.tb.tl - a)) (value (s.tb.tl - a)) 0#32
        else none
      | .width =>
        if leading then none
        else c.phase.map fun a => record .captureWidth (flag (s.tb.tl - a)) (value (s.tb.tl - a)) 0#32
      | .cycle =>
        match leading, c.lastLeading, c.phase with
        | true, some a, some b =>
          some (record .captureCycle (flag (s.tb.tl - a) ||| flag (b - a)) (value (s.tb.tl - a)) (value (b - a)))
        | _, _, _ => none
    let would : Option Record := if c.record then completed else none
    let passes : Prop := c.decimation ≤ c.decimationCount + 1
    let offers (r : Option Record) (j : JournalWriter) : JournalWriter := r.elim j fun x => j.offer x
    (c.enable = false ∨ c.high = edgeLevel e → exec (.recognizedEdge n e) s = .next s) ∧
      (c.enable = true → c.high ≠ edgeLevel e → Quiet s → Rested s → (∀ w ∈ s.su.waiter, w.deadline ≠ some s.tb.pt) →
        ∃ t, exec (.recognizedEdge n e) s = .next t ∧
          t.cx.channels[n].lastLeading =
            (if leading = true ∧ (c.mode = .interval ∨ c.mode = .cycle) then some s.tb.tl else c.lastLeading) ∧
            t.cx.channels[n].phase =
              (match c.mode with
                | .edge | .interval => c.phase
                | .width => if leading then some s.tb.tl else none
                | .cycle => if leading then none else if c.lastLeading.isSome then some s.tb.tl else c.phase) ∧
              t.cx.channels[n].decimationCount =
                (if would = none then c.decimationCount else if passes then 0 else c.decimationCount + 1) ∧
                (∀ m : Fin 16, m ≠ n → t.cx.channels[m] = s.cx.channels[m]) ∧
                (¬awaited → t.jw.fifo = (offers (if passes then would else none) s.jw).fifo ∧
                  OffersCounted (if passes then would else none).toList.length s t) ∧
                  (awaited →
                    let waited : Record := record .wait 0#8 0#32 (s.tb.pt.setWidth 32)
                    let captured : Option Record := if passes then would else none
                    OffersCounted (captured.toList.length + 1) s t ∧
                      (s.oracle % 2 = 0 → t.jw.fifo = (offers captured (s.jw.offer waited)).fifo) ∧
                      (s.oracle % 2 = 1 → t.jw.fifo = ((offers captured s.jw).offer waited).fifo))) ∧
      (c.enable = true → c.high ≠ edgeLevel e → Quiet s → Rested s → (∀ w ∈ s.su.waiter, w.deadline ≠ some s.tb.pt) →
        ∃ t, exec (.recognizedEdge n e) s = .next t ∧ t.cx = s.cx.setChannel n (c.edge n s.tb.tl e) ∧
          t.cx.channels[n].high = edgeLevel e ∧ t.pins.inputs.getLsbD n.val = edgeLevel e ∧ StarvedJudged s t ∧
            t.os = s.os ∧ t.gu = s.gu ∧ t.tb = s.tb ∧ t.cp = s.cp ∧
              (awaited → t.su = { s.su with waiter := none, anchor := s.tb.pt, cursor := s.tb.pt } ∧
                (c.record = false →
                  t.jw.fifo = (s.jw.offer (record .wait 0#8 0#32 (s.tb.pt.setWidth 32))).fifo)) ∧
                (¬awaited → t.su = s.su ∧ (c.record = false → t.jw.fifo = s.jw.fifo) ∧
                  (c.record = true → c.decimation = 1 →
                    (c.mode = .edge → c.select.names e = true → t.jw.fifo = (s.jw.offer
                      (record .captureEdge 0#8 (match e with | .rise => 0#32 | .fall => 1#32)
                        ((s.tb.tl.extractLsb' 40 8).setWidth 32))).fifo) ∧
                      (∀ a, c.mode = .interval → c.select.names e = true → c.lastLeading = some a →
                        t.jw.fifo = (s.jw.offer
                          (record .captureInterval (flag (s.tb.tl - a)) (value (s.tb.tl - a)) 0#32)).fifo) ∧
                        (∀ a, c.mode = .width → c.select.names e = false → c.phase = some a →
                          t.jw.fifo = (s.jw.offer
                            (record .captureWidth (flag (s.tb.tl - a)) (value (s.tb.tl - a)) 0#32)).fifo) ∧
                          ∀ a b, c.mode = .cycle → c.select.names e = true → c.lastLeading = some a →
                            c.phase = some b →
                              t.jw.fifo = (s.jw.offer (record .captureCycle
                                (flag (s.tb.tl - a) ||| flag (b - a)) (value (s.tb.tl - a)) (value (b - a)))).fifo)))

/-! ## Admission (chapter 3) -/

/-- STEP_ADMISSION of a state between events with no application outstanding: an admissible step due after PT is
numbered and leaves an entry with its fields, the cursor at its due time, or past the train; an ANCHOR moves both; a
WAIT arms the waiter; its strip counts the step, and the entry, and may become RETIRE_READY; the steps admitted tally
alone goes up; a FU without a transfer asks for the read that the room made allows, and STARVED is raised if the queue
runs empty under a WATCHING FU; with the queue empty, or a head that may not be admitted, nothing happens (R20, R26 to
R28, R32, R46, R48, R49, R58, R64). An event whose condition does not hold has no effect by log entry 5. -/
def Obligations.StepsAdmitted : Prop :=
  ∀ s : State, Quiet s → Rested s → applicationDue s = false →
    let goesOn (t : State) : Prop :=
      t.ev.tallies[0] = satAdd s.ev.tallies[0] 1 ∧ (∀ n : Fin 16, n.val ≠ 0 → t.ev.tallies[n] = s.ev.tallies[n]) ∧
        StarvedJudged s t ∧ (s.bp.outstanding .fu = false → FetchAsked t)
    (s.su.queue = [] → exec .stepAdmission s = .next s) ∧
      ∀ q rest, s.su.queue = q :: rest →
        (mayAdmit q s = false → exec .stepAdmission s = .next s) ∧
          (mayAdmit q s = true →
            (∀ k ek, stepKindOf q.step.kind = some k → k.entryKind = some ek → k ≠ .endProgram →
              fieldsOk k q.step s = true → timesOk k q.step s = true → s.tb.pt.toNat < dueOf s q.step →
                ∃ t, exec .stepAdmission s = .next t ∧
                  t.su = { s.su with
                    queue := rest
                    admissionCount := s.su.admissionCount + 1#32
                    cursor := BitVec.ofNat 48 (dueOf s q.step + if k = .train then q.step.count.toNat * q.step.period.toNat else 0)
                    agenda := s.su.agenda ++
                      [{ due := BitVec.ofNat 48 (dueOf s q.step), kind := ek, mask := q.step.mask,
                         pattern := q.step.pattern, width := q.step.width, period := q.step.period,
                         remaining := q.step.count, tag := q.step.tag, notify := q.step.notify,
                         sequence := s.su.admissionCount, slot := q.slot }] } ∧
                    t.fu.table = s.fu.table.map (slotNoticed q.slot fun x =>
                      { x with stepsAdmitted := x.stepsAdmitted + 1, outstanding := x.outstanding + 1 }) ∧
                    goesOn t ∧ t.os = s.os ∧ t.gu = s.gu ∧ t.tb = s.tb ∧ t.cx = s.cx ∧ t.cp = s.cp ∧
                      t.jw.fifo = s.jw.fifo) ∧
              (stepKindOf q.step.kind = some .anchor → dueOf s q.step ≤ 2 ^ 48 - 1 →
                ∃ t, exec .stepAdmission s = .next t ∧
                  t.su = { s.su with
                    queue := rest, admissionCount := s.su.admissionCount + 1#32,
                    cursor := BitVec.ofNat 48 (dueOf s q.step), anchor := BitVec.ofNat 48 (dueOf s q.step) } ∧
                    t.fu.table = s.fu.table.map (fun sl => slotJudged s.fu
                      (slotNoticed q.slot (fun x => { x with stepsAdmitted := x.stepsAdmitted + 1 }) sl)) ∧
                    goesOn t ∧ t.os = s.os ∧ t.gu = s.gu ∧ t.tb = s.tb ∧ t.cx = s.cx ∧ t.cp = s.cp ∧
                      t.jw.fifo = s.jw.fifo) ∧
                ∀ (c : Fin 16) e, stepKindOf q.step.kind = some .wait → q.step.channel.toNat = c.val →
                  waitEdgeOf q.step.edge = some e → s.cx.channels[c].enable = true →
                    s.tb.pt.toNat + q.step.timeout.toNat ≤ 2 ^ 48 - 1 →
                      ∃ t, exec .stepAdmission s = .next t ∧
                        t.su = { s.su with
                          queue := rest
                          admissionCount := s.su.admissionCount + 1#32
                          waiter := some
                            { channel := c, edge := e, timeoutStop := q.step.timeoutStop,
                              deadline := if q.step.timeout = 0#32 then none
                                else some (s.tb.pt + q.step.timeout.setWidth 48) } } ∧
                          t.fu.table = s.fu.table.map (fun sl => slotJudged s.fu
                            (slotNoticed q.slot (fun x => { x with stepsAdmitted := x.stepsAdmitted + 1 }) sl)) ∧
                          goesOn t ∧ t.os = s.os ∧ t.gu = s.gu ∧ t.tb = s.tb ∧ t.cx = s.cx ∧ t.cp = s.cp ∧
                            t.jw.fifo = s.jw.fifo)

/-- STEP_ADMISSION of steps that do not simply wait in the agenda, of a state between events with no application
outstanding: a step that fails validation, point by point, ends the program FAULTED with BAD_STEP, and one that passes
is numbered unless LATE_STOP turns it away; a late one raises LATE, is dropped with its record under LATE_DROP, ends the
program with LATE_STOP under LATE_STOP, and is applied at once under LATE_APPLY, a late END under LATE_DROP too, as is a
step due at PT: SET, PULSE and TRAIN move their lines, the latter two leaving their trail, MARK and APPLY_LIMITS offer
their records, END closes the program; an END due later closes admission and empties the queue; the late applied, late
dropped and agenda applications tallies and the counts of the offers follow; after any step but an END, a FU without a
transfer asks for the read that the room made allows, and STARVED is raised if the queue runs empty under a WATCHING FU
(R20, R32, R44, R50 to R52, R54 to R57, R153). That an APPLY_LIMITS whose hold limits escalate a hold raises no STARVED
is log entry 36, and that the SU's records stand before the OS's and the GU's records of their step is log entry 6. -/
def Obligations.StepsRefusedLateAndLast : Prop :=
  ∀ (s : State) (q : QueuedStep) (rest : List QueuedStep), Quiet s → Rested s → applicationDue s = false →
    s.su.queue = q :: rest → mayAdmit q s = true → Retiring s →
      let goesOn (t : State) : Prop := StarvedJudged s t ∧ (s.bp.outstanding .fu = false → FetchAsked t)
      (stepKindOf q.step.kind = none → ∃ t, exec .stepAdmission s = .next t ∧ Aborted .faulted .badStep s t ∧
        t.cp = s.cp) ∧
        (∀ k, stepKindOf q.step.kind = some k → k ≠ .wait → fieldsOk k q.step s = false ∨ timesOk k q.step s = false →
          ∃ t, exec .stepAdmission s = .next t ∧ Aborted .faulted .badStep s t ∧ t.cp = s.cp) ∧
          (stepKindOf q.step.kind = some .wait → waiterOf q.step s = none →
            ∃ t, exec .stepAdmission s = .next t ∧ Aborted .faulted .badStep s t ∧ t.cp = s.cp) ∧
            (∀ k ek, stepKindOf q.step.kind = some k → k.entryKind = some ek → k ≠ .endProgram →
              fieldsOk k q.step s = true → timesOk k q.step s = true → dueOf s q.step < s.tb.pt.toNat →
                (s.su.latePolicy = .drop → ∃ t, exec .stepAdmission s = .next t ∧
                  t.su = { s.su with
                    queue := rest
                    admissionCount := s.su.admissionCount + 1#32
                    cursor := BitVec.ofNat 48 (dueOf s q.step + if k = .train then q.step.count.toNat * q.step.period.toNat else 0) } ∧
                    t.jw.fifo = (s.jw.offer (lateRecord s 2 (dueOf s q.step) q.step.tag)).fifo ∧
                      t.ev.tallies[1] = s.ev.tallies[1] ∧ t.ev.tallies[2] = satAdd s.ev.tallies[2] 1 ∧
                        t.ev.tallies[3] = s.ev.tallies[3] ∧ OffersCounted 1 s t ∧ goesOn t ∧
                          pendingCause .late t = true ∧ t.os = s.os ∧ t.gu = s.gu ∧ t.tb = s.tb ∧ t.cx = s.cx ∧
                            t.cp = s.cp) ∧
                  (s.su.latePolicy = .stop → ∃ t, exec .stepAdmission s = .next t ∧
                    Aborted .faulted .lateStop s t ∧
                      (s.jw.offer (lateRecord s 0 (dueOf s q.step) q.step.tag)).fifo <+: t.jw.fifo ∧
                      OffersCountedWith 1 s t ∧ pendingCause .late t = true ∧ t.ev.tallies[0] = s.ev.tallies[0] ∧
                      t.ev.tallies[1] = s.ev.tallies[1] ∧ t.ev.tallies[2] = s.ev.tallies[2] ∧ t.cp = s.cp) ∧
                    (s.su.latePolicy = .apply → k = .set → ∃ t, exec .stepAdmission s = .next t ∧
                      t.su = { s.su with
                        queue := rest, admissionCount := s.su.admissionCount + 1#32,
                        cursor := BitVec.ofNat 48 (dueOf s q.step) } ∧
                        t.os = (osBatch [{ mask := q.step.mask, levels := q.step.pattern }] s).os ∧
                          pendingCause .late t = true ∧ t.tb = s.tb ∧ t.cx = s.cx ∧ t.cp = s.cp)) ∧
              (stepKindOf q.step.kind = some .set → fieldsOk .set q.step s = true → dueOf s q.step = s.tb.pt.toNat →
                ∃ t, exec .stepAdmission s = .next t ∧
                  t.su = { s.su with
                    queue := rest, admissionCount := s.su.admissionCount + 1#32, cursor := s.tb.pt } ∧
                    t.os = (osBatch [{ mask := q.step.mask, levels := q.step.pattern }] s).os ∧ t.tb = s.tb ∧
                      t.cx = s.cx ∧ t.cp = s.cp) ∧
                (stepKindOf q.step.kind = some .endProgram → timesOk .endProgram q.step s = true →
                  s.tb.pt.toNat < dueOf s q.step →
                    ∃ t, exec .stepAdmission s = .next t ∧ t.su.program = .running ∧ t.su.admissionOpen = false ∧
                      t.su.queue = [] ∧ t.su.agenda.length = s.su.agenda.length + 1 ∧
                        (∀ e, t.su.agenda.getLast? = some e → e.kind = .endProgram ∧
                          e.due = BitVec.ofNat 48 (dueOf s q.step)) ∧
                          t.fu.state ≠ .fetching ∧ t.fu.state ≠ .watching ∧ t.os = s.os ∧ t.gu = s.gu ∧
                            t.tb = s.tb ∧ t.cx = s.cx ∧ t.cp = s.cp ∧ t.jw.fifo = s.jw.fifo) ∧
      (let p := q.step;
        let kind := p.kind.toNat
        let due := dueOf s p
        let late : Prop := due < s.tb.pt.toNat
        let now : Prop := due = s.tb.pt.toNat ∨ (late ∧ (s.su.latePolicy = .apply ∨ (kind = 8 ∧ s.su.latePolicy = .drop)))
        let record (k : RecordKind) (flags : Byte) (v1 v2 : Word) : Record :=
          { kind := k, source := 0xFF#8, flags := flags, stamp := s.tb.tl.setWidth 40, value1 := v1, value2 := v2 }
        let lateness : Word :=
          if s.tb.pt.toNat - due < 2 ^ 32 then BitVec.ofNat 32 (s.tb.pt.toNat - due) else 0xFFFFFFFF#32
        let judged : JournalWriter := if late then s.jw.offer (record .late 1#8 lateness p.tag) else s.jw
        let numbered (cursor : Nat) (entries : List Entry) : ScheduleUnit :=
          { s.su with
            queue := rest, admissionCount := s.su.admissionCount + 1#32, cursor := BitVec.ofNat 48 cursor,
            agenda := s.su.agenda ++ entries }
        let trail (k : EntryKind) : Entry :=
          { due := s.tb.pt + p.width.setWidth 48, kind := k, mask := p.mask, pattern := p.pattern, width := p.width,
            period := p.period, remaining := p.count, tag := p.tag, notify := p.notify,
            sequence := s.su.admissionCount, slot := q.slot }
        let reports : Nat := if late then 1 else 0
        let others (t : State) : Prop :=
          t.tb.tl = s.tb.tl ∧ t.tb.pt = s.tb.pt ∧ t.cx = s.cx ∧ t.pins = s.pins ∧
            (late → pendingCause .late t = true) ∧ t.ev.tallies[1] = satAdd s.ev.tallies[1] reports ∧
              t.ev.tallies[2] = s.ev.tallies[2] ∧ t.ev.tallies[3] = satAdd s.ev.tallies[3] 1
        (BadStep s p → ∃ t, exec .stepAdmission s = .next t ∧ Aborted .faulted .badStep s t ∧ t.cp = s.cp) ∧
          (¬BadStep s p → ¬(kind ≠ 4 ∧ kind ≠ 5 ∧ late ∧ s.su.latePolicy = .stop) →
            ∃ t, exec .stepAdmission s = .next t ∧ t.su.admissionCount = s.su.admissionCount + 1#32 ∧
              t.ev.tallies[0] = satAdd s.ev.tallies[0] 1) ∧
            (¬BadStep s p → now →
              (kind = 1 → ∃ t, exec .stepAdmission s = .next t ∧ t.su = numbered due [] ∧
                t.os = (osBatch [{ mask := p.mask, levels := p.pattern }] s).os ∧ t.cp = s.cp ∧ others t ∧ goesOn t) ∧
                (kind = 2 → ∃ t, exec .stepAdmission s = .next t ∧ t.su = numbered due [trail .pulseTrail] ∧
                  t.os = (osBatch [{ mask := p.mask, levels := p.pattern }] s).os ∧ t.cp = s.cp ∧ others t ∧ goesOn t) ∧
                  (kind = 3 → ∃ t, exec .stepAdmission s = .next t ∧
                    t.su = numbered (due + p.count.toNat * p.period.toNat) [trail .trainTrail] ∧
                      t.os = (osBatch [{ mask := p.mask, levels := p.pattern }] s).os ∧ t.cp = s.cp ∧ others t ∧
                        goesOn t) ∧
                    (kind = 6 → ∃ t, exec .stepAdmission s = .next t ∧ t.su = numbered due [] ∧
                      t.jw.fifo = (judged.offer (record .mark 0#8 p.tag (s.tb.pt.setWidth 32))).fifo ∧
                        (p.notify = true → pendingCause .mark t = true) ∧ OffersCounted (reports + 1) s t ∧
                          t.os = s.os ∧ t.gu = s.gu ∧ t.cp = s.cp ∧ others t ∧ goesOn t) ∧
                      (kind = 7 → s.cp.staged = none → ∃ t, exec .stepAdmission s = .next t ∧
                        t.su = numbered due [] ∧ t.jw.fifo = (judged.offer (record .limits 2#8 0#32 0#32)).fifo ∧
                          OffersCounted (reports + 1) s t ∧
                          t.os = s.os ∧ t.gu = s.gu ∧ t.cp = s.cp ∧ others t ∧ goesOn t) ∧
                        (∀ b, kind = 7 → s.cp.staged = some b → ∃ t, exec .stepAdmission s = .next t ∧
                          t.cp = { s.cp with active := b.limits, staged := none } ∧
                            (judged.offer (record .limits (if b.replaced then 5#8 else 1#8) 0#32 0#32)).fifo <+:
                              t.jw.fifo ∧ others t ∧ goesOn t ∧
                                ((∀ n : Fin 4, s.gu.inputs[n].state ≠ .active) → t.su = numbered due [])) ∧
                          (kind = 8 → ∃ t, exec .stepAdmission s = .next t ∧
                            t.su = { numbered due [] with
                              program := if s.su.agenda = [] then .stopping else .draining
                              outcome := .ended
                              reason := .none
                              admissionOpen := false
                              queue := []
                              waiter := none } ∧ t.jw.fifo = judged.fifo ∧ OffersCounted reports s t ∧
                                t.os = s.os ∧ t.gu = s.gu ∧ t.cp = s.cp ∧ others t)))

/-! ## Ends of the Fetch Unit's transfers (chapter 2) -/

/-- STRIP_HEADER_READ_COMPLETE, of a FETCHING unit between events: a good header makes the strip tracked with no step
fetched, and its first step or two are asked for when the queue has room; a bad one is tracked as REJECTED and ends the
program with BAD_STRIP; an ERROR ends it with BUS_READ and counts, at once when it is the first strip's; with nothing in
flight an end does nothing (R17 to R20, R33, R34, R189). An event whose condition does not hold has no effect by log
entry 5. -/
def Obligations.StripHeaderArrives : Prop :=
  ∀ (s : State), Quiet s → Rested s → s.bp.Filed → s.fu.state = .fetching → s.fu.doneNotice = none →
    (∀ r, s.bp.inFlight = none → exec (.stripHeaderReadComplete r) s = .next s) ∧
      ∀ (q : Word) (a : Addr), inFlightIs s (.stripHeaderRead q) a →
        (∀ d : Vector Byte 32,
          let h := stripHeaderOf d.toList
          let sl := Slot.arrived a q h
          (1 ≤ h.stepCount.toNat → h.stepCount.toNat ≤ 63 → h.retireState = 0#8 →
            ∃ t, exec (.stripHeaderReadComplete (.ok d)) s = .next t ∧ t.fu.table = s.fu.table ++ [sl] ∧
              t.fu.link = h.link ∧ t.fu.state = .fetching ∧ (s.bp.fu = none → FetchAsked t) ∧ t.su = s.su ∧
                t.os = s.os ∧ t.gu = s.gu ∧ t.tb = s.tb ∧ t.cx = s.cx ∧ t.cp = s.cp ∧ t.jw.fifo = s.jw.fifo) ∧
            (h.stepCount.toNat = 0 ∨ 63 < h.stepCount.toNat ∨ h.retireState ≠ 0#8 →
              s.su.program = .running ∨ s.su.program = .draining →
                ∃ t, exec (.stripHeaderReadComplete (.ok d)) s = .next t ∧ Aborted .faulted .badStrip s t ∧
                  t.fu.newest = some { sl with state := .retireReady, outcome := some .rejected } ∧ t.cp = s.cp)) ∧
          (s.su.program = .running ∨ s.su.program = .draining → s.fu.table ≠ [] →
            ∃ t, exec (.stripHeaderReadComplete .error) s = .next t ∧ Aborted .faulted .busRead s t ∧
              pendingCause .busError t = true ∧ t.cp = s.cp) ∧
            (s.su.program = .running → Untracked s →
              ∃ t, exec (.stripHeaderReadComplete .error) s = .next t ∧ EndedAtOnce .faulted .busRead s t ∧
                pendingCause .busError t = true)

/-- STEP_READ_COMPLETE, of a FETCHING unit between events with a FETCHING strip: the steps enter the tail of the queue
with their slot and are counted in it, and while steps remain the next one or two are asked for when the queue has room;
with the last of a strip's steps a link 0 makes the FU WATCHING, its episode not yet reported starved, and the re-read
of that link is asked for and counted at once, or stays wanted behind a retire write; a multiple of 32 is the next
header's address, read as soon as its slot is free, and a misaligned one ends the program with BAD_LINK; an ERROR ends
it with BUS_READ; with nothing in flight an end does nothing (R17, R20, R21, R23, R29, R32 to R34, R47). An event whose
condition does not hold has no effect by log entry 5. -/
def Obligations.StepsArrive : Prop :=
  ∀ (s : State), Quiet s → Rested s → s.bp.Filed → s.fu.state = .fetching → s.fu.doneNotice = none →
    s.su.program = .running ∨ s.su.program = .draining →
      (∀ r, s.bp.inFlight = none → exec (.stepReadComplete r) s = .next s) ∧
        ∀ (two : Bool) (a : Addr) (sl : Slot) (d : Vector Byte 64), inFlightIs s (.stepRead two) a →
          s.fu.newest = some sl → sl.state = .fetching → s.su.admissionOpen = true →
            let arrived := if two then [stepOf d.toList 0, stepOf d.toList 32] else [stepOf d.toList 0]
            (sl.stepsFetched + arrived.length < sl.stepCount.toNat →
              ∃ t, exec (.stepReadComplete (.ok d)) s = .next t ∧
                t.su = { s.su with queue := s.su.queue ++ arrived.map fun p => { step := p, slot := sl.number } } ∧
                  t.fu.newest = some { sl with stepsFetched := sl.stepsFetched + arrived.length } ∧
                    t.fu.table.length = s.fu.table.length ∧ t.fu.state = .fetching ∧
                      (s.bp.fu = none → FetchAsked t) ∧ t.os = s.os ∧ t.gu = s.gu ∧
                      t.tb = s.tb ∧ t.cx = s.cx ∧ t.cp = s.cp ∧ t.jw.fifo = s.jw.fifo) ∧
              (sl.stepsFetched + arrived.length = sl.stepCount.toNat → s.fu.link = 0#64 →
                ∃ t, exec (.stepReadComplete (.ok d)) s = .next t ∧
                  t.su = { s.su with queue := s.su.queue ++ arrived.map fun p => { step := p, slot := sl.number } } ∧
                    t.fu.state = .watching ∧ t.fu.nextAddress = none ∧ t.fu.starvedReported = false ∧
                      pendingCause .starved t = pendingCause .starved s ∧
                        t.fu.newest = some { sl with stepsFetched := sl.stepCount.toNat, state := .fetched } ∧
                          (s.bp.fu = none → RetireAsked t ∧ LinkAsked s t) ∧ t.os = s.os ∧ t.gu = s.gu ∧ t.tb = s.tb ∧
                      t.cx = s.cx ∧ t.cp = s.cp ∧ t.jw.fifo = s.jw.fifo) ∧
                (sl.stepsFetched + arrived.length = sl.stepCount.toNat → s.fu.link ≠ 0#64 → s.fu.link.toNat % 32 = 0 →
                  let free : Prop := ∀ x ∈ s.fu.table, x.number.val ≠ s.fu.nextSequence.toNat % 8
                  ∃ t, exec (.stepReadComplete (.ok d)) s = .next t ∧
                    t.su = { s.su with queue := s.su.queue ++ arrived.map fun p => { step := p, slot := sl.number } } ∧
                      t.fu.state = .fetching ∧ t.fu.watchStart = none ∧
                        (¬free → t.fu.nextAddress = some s.fu.link) ∧
                          (free → s.bp.fu = none → (∀ x ∈ t.fu.table.head?, x.state ≠ .retireReady) →
                            t.fu.nextAddress = none ∧ t.fu.nextSequence = s.fu.nextSequence + 1#32 ∧
                              t.bp.holds (asked (.stripHeaderRead s.fu.nextSequence) s.fu.link)) ∧
                            (s.bp.fu = none → RetireAsked t ∧ HeaderNext s.fu.link s.fu.nextSequence t) ∧
                              t.os = s.os ∧ t.gu = s.gu ∧ t.tb = s.tb ∧ t.cx = s.cx ∧ t.cp = s.cp ∧
                                t.jw.fifo = s.jw.fifo) ∧
                (sl.stepsFetched + arrived.length = sl.stepCount.toNat → s.fu.link.toNat % 32 ≠ 0 →
                  ∃ t, exec (.stepReadComplete (.ok d)) s = .next t ∧ Aborted .faulted .badLink s t ∧ t.cp = s.cp) ∧
                  ∃ t, exec (.stepReadComplete .error) s = .next t ∧ Aborted .faulted .busRead s t ∧
                    pendingCause .busError t = true ∧ t.cp = s.cp

/-- LINK_REREAD_COMPLETE, of a WATCHING unit between events that tracks a strip: 0 starts the link-watch interval anew,
leaves no mark of a wanted re-read that was made before the request, and is followed by the next re-read, counted, if
one was marked while it was in flight (the model drops the marks at the request, so a mark that stands is such a one); a
multiple of 32 is followed: the watched tail is released and becomes RETIRE_READY if nothing of it is outstanding, and
the header at that address is the next one, read at once if its slot is free and no retire write comes first; any other
value ends the program with BAD_LINK, an ERROR with BUS_READ (R17, R22 to R24, R27 to R29, R33, R34); with nothing in
flight an end does nothing. An event whose condition does not hold has no effect by log entry 5. -/
def Obligations.LinkRereadEnds : Prop :=
  ∀ (s : State), Quiet s → Rested s → s.bp.Filed → s.fu.state = .watching → Retiring s →
    s.su.program = .running ∨ s.su.program = .draining →
      (∀ r, s.bp.inFlight = none → exec (.linkRereadComplete r) s = .next s) ∧
        ∀ (a : Addr) (d : Vector Byte 8), inFlightIs s .linkRead a →
          let link := long d.toList 0
          (link = 0#64 → ∃ t, exec (.linkRereadComplete (.ok d)) s = .next t ∧ t.fu.state = .watching ∧
            t.fu.watchStart = some s.tb.tl ∧ t.fu.table = s.fu.table ∧ (s.bp.fu = none → RetireAsked t) ∧
              (s.fu.rereadWanted = true → s.bp.fu = none → LinkAsked s t) ∧
              (s.fu.rereadWanted = false → t.fu.rereadWanted = false ∧ t.ev.tallies[14] = s.ev.tallies[14] ∧
                (s.bp.fu = none → NoRetireFirst t → t.bp.outstanding .fu = false)) ∧
              t.su = s.su ∧ t.os = s.os ∧ t.gu = s.gu ∧ t.tb = s.tb ∧ t.cx = s.cx ∧ t.cp = s.cp ∧
                t.jw.fifo = s.jw.fifo) ∧
            (link ≠ 0#64 → link.toNat % 32 = 0 → ∃ t, exec (.linkRereadComplete (.ok d)) s = .next t ∧
              t.fu.state = .fetching ∧ t.fu.link = link ∧ t.fu.watchStart = none ∧ t.fu.rereadWanted = false ∧
                t.fu.table = s.fu.table.map (slotJudged { s.fu with state := .fetching }) ∧
                (s.bp.fu = none → (∀ x ∈ s.fu.newest, x.state ≠ .fetching) →
                  RetireAsked t ∧ HeaderNext link s.fu.nextSequence t) ∧
                t.su = s.su ∧ t.os = s.os ∧ t.gu = s.gu ∧ t.tb = s.tb ∧ t.cx = s.cx ∧ t.cp = s.cp ∧
                  t.jw.fifo = s.jw.fifo) ∧
              (link.toNat % 32 ≠ 0 → ∃ t, exec (.linkRereadComplete (.ok d)) s = .next t ∧
                Aborted .faulted .badLink s t ∧ t.cp = s.cp) ∧
                ∃ t, exec (.linkRereadComplete .error) s = .next t ∧ Aborted .faulted .busRead s t ∧
                  pendingCause .busError t = true ∧ t.cp = s.cp

/-- RETIRE_WRITE_COMPLETE, of a state between events: the oldest slot is freed, STRIP_RETIRED raised if asked, and the
next RETIRE_READY slot's retire write requested, with its outcome, its count and PT, or the read that the FU's state
calls for; the only slot of a program still FETCHING is freed so too, and the header at a known next address is read;
the last slot of a STOPPING program makes it IDLE, with PROGRAM_END, its ENDED record and an AT_ONCE in progress
complete, a staged block becoming active with its LIMITS record; an ERROR abandons the rest, ends an active program with
BUS_WRITE, and makes it, or a STOPPING one, IDLE with retirement incomplete. A retire word's bytes are those of 12.3
(R17, R20, R23, R29, R30, R33, R35, R95, R96, R98, R99, R191). That the LIMITS and ENDED records stand before any
ESCALATE record that the new Limits bring in the same step is log entry 6. -/
def Obligations.StripRetired : Prop :=
  ∀ (s : State) (w : RetireWord) (a : Addr) (sl : Slot) (rest : List Slot), Quiet s → Rested s → s.bp.Filed →
    inFlightIs s (.retireWrite w) a → s.fu.table = sl :: rest → s.fu.doneNotice = none → s.fu.abandoned = false →
      let ended : Record :=
        { kind := .program, source := BitVec.ofNat 8 (s.su.outcome.code + 16 * s.su.reason.code), flags := 2#8,
          stamp := s.tb.tl.setWidth 40, value1 := s.su.admissionCount, value2 := s.tb.pt.setWidth 32 }
      let retired (t : State) : Prop :=
        pendingCause .stripRetired t = (pendingCause .stripRetired s || sl.notifyRetire)
      (rest = [] → s.fu.state = .fetching → ∃ t, exec (.retireWriteComplete .ok) s = .next t ∧ t.fu.table = [] ∧
        t.fu.state = .fetching ∧ retired t ∧
          (∀ n, s.fu.nextAddress = some n → s.bp.fu = none → t.fu.nextAddress = none ∧
            t.fu.nextSequence = s.fu.nextSequence + 1#32 ∧ t.bp.holds (asked (.stripHeaderRead s.fu.nextSequence) n)) ∧
            (s.bp.fu = none → s.fu.nextAddress = none → t.bp.outstanding .fu = false) ∧ t.su = s.su ∧ t.os = s.os ∧
              t.gu = s.gu ∧ t.tb = s.tb ∧ t.cx = s.cx ∧ t.cp = s.cp ∧ t.jw.fifo = s.jw.fifo) ∧
      (rest ≠ [] → ∃ t, exec (.retireWriteComplete .ok) s = .next t ∧ t.fu.table = rest ∧
        (sl.notifyRetire = true → pendingCause .stripRetired t = true) ∧ retired t ∧
          (s.bp.fu = none → StepsAsked t ∧ (s.fu.state = .watching → s.fu.rereadWanted = true → LinkAsked s t) ∧
            ∀ n, s.fu.nextAddress = some n → s.fu.state = .fetching → (∀ x ∈ s.fu.newest, x.state ≠ .fetching) →
              HeaderNext n s.fu.nextSequence t) ∧
          (∀ x o, rest.head? = some x → x.state = .retireReady → x.outcome = some o → s.bp.fu = none →
            t.bp.holds (asked (.retireWrite { outcome := o, admitted := x.stepsAdmitted, pt := s.tb.pt.setWidth 32 })
              (x.address + 24#64))) ∧
            t.su = s.su ∧ t.os = s.os ∧ t.gu = s.gu ∧ t.tb = s.tb ∧ t.cx = s.cx ∧ t.cp = s.cp ∧
              t.jw.fifo = s.jw.fifo) ∧
        (let d := (TransferKind.retireWrite w).data;
          d.length = 8 ∧ leAt d 0 1 = 1 ∧
            leAt d 1 1 = (match w.outcome with | .played => 1 | .cut => 2 | .rejected => 3) ∧
              leAt d 2 1 = w.admitted % 256 ∧ leAt d 3 1 = 0 ∧ leAt d 4 4 = w.pt.toNat) ∧
        (rest = [] → s.fu.state = .stopped → s.su.program = .stopping →
          ∃ t, exec (.retireWriteComplete .ok) s = .next t ∧
            t.su = { s.su with program := .idle, retireIncomplete := false } ∧ t.fu.state = .idle ∧ t.fu.table = [] ∧
              (sl.notifyRetire = true → pendingCause .stripRetired t = true) ∧
                pendingCause .programEnd t = true ∧ t.cx = s.cx ∧
                  (∀ b, s.cp.staged = some b → t.cp.active = b.limits ∧ t.cp.staged = none ∧
                    (∀ k : Fin 8, t.os.pairs[k].deadTime = b.limits.deadTimes[k]) ∧
                      ((s.jw.offer
                        { kind := .limits, source := 0xFF#8, flags := if b.replaced then 5#8 else 1#8,
                          stamp := s.tb.tl.setWidth 40, value1 := 0#32, value2 := 0#32 }).offer ended).fifo <+:
                        t.jw.fifo) ∧
                    (s.cp.staged = none →
                      t.jw.fifo = (s.jw.offer ended).fifo ∧
                        (inProgressIs stopCode s = true →
                          t.cp = { s.cp with inProgress := none, lastResult := .ok }) ∧
                          (inProgressIs stopCode s = false → t.cp = s.cp) ∧ t.os = s.os ∧ t.gu = s.gu ∧
                            t.tb = s.tb)) ∧
          ((s.su.admissionOpen = true ∧ (s.fu.state = .fetching ∨ s.fu.state = .watching)) ∨
            (s.su.admissionOpen = false ∧ s.fu.state = .stopped) →
              (s.su.program = .running ∨ s.su.program = .draining →
                ∃ t, exec (.retireWriteComplete .error) s = .next t ∧
                  t.su = { s.su with
                    program := .idle, outcome := .faulted, reason := .busWrite, retireIncomplete := true,
                    admissionOpen := false, queue := [], waiter := none, agenda := [] } ∧
                    t.fu.table = [] ∧ t.fu.state = .idle ∧ pendingCause .busError t = true ∧
                      pendingCause .programEnd t = true ∧ t.cx = s.cx ∧
                        (s.cp.staged = none → t.os = (osEndLevels s).os ∧ t.tb = s.tb)) ∧
                (s.fu.state = .stopped → s.su.program = .stopping → ∃ t, exec (.retireWriteComplete .error) s = .next t ∧
                  t.su.program = .idle ∧ t.su.outcome = s.su.outcome ∧ t.su.reason = s.su.reason ∧
                    t.su.retireIncomplete = true ∧ t.fu.table = [] ∧ t.fu.state = .idle ∧
                      pendingCause .busError t = true ∧ pendingCause .programEnd t = true ∧ t.cx = s.cx ∧
                        (s.cp.staged = none → t.os = s.os ∧ t.tb = s.tb ∧
                          (inProgressIs stopCode s = true →
                            t.cp = { s.cp with inProgress := none, lastResult := .busError }) ∧
                            (inProgressIs stopCode s = false → t.cp = s.cp))))

/-! ## Ends of the Journal Writer's transfers (chapter 9) -/

/-- SHEET_HEADER_READ_COMPLETE: in SEEKING and BLOCKED an EMPTY header opens the sheet at the next index, and the
oldest record held gets its first place; in SEEKING any other blocks the journal, with JOURNAL_BLOCKED, its tally and
the recheck interval started; in BLOCKED any other restarts the interval; an ERROR faults the journal. In CLOSING an
EMPTY header opens the sheet of the close, any other ends it with OK and the held records lost, an ERROR with
BUS_ERROR, and a read marked for discard with OK whatever its result (R154 to R156, R158, R165, R167). A re-read that
a close taken in BLOCKED has left changes nothing if it ends OK, a reopened journal then reading for its own seek, and
faults the journal if it ends ERROR: that the read is discarded is log entry 14, that its ERROR faults a journal that
is OFF log entry 35. -/
def Obligations.SheetHeaderArrives : Prop :=
  ∀ (s : State) (a : Addr) (d : Vector Byte 16), s.bp.Filed →
    let opened : OpenSheet := { index := s.jw.nextIndex, allotted := 0, written := 0, sealed := none, firstStamp := 0#32 }
    let others (t : State) : Prop :=
      t.su = s.su ∧ t.fu = s.fu ∧ t.os = s.os ∧ t.gu = s.gu ∧ t.tb = s.tb ∧ t.cx = s.cx
    let closed (r : Result) (lost : Nat) (t : State) : Prop :=
      t.jw.state = .off ∧ t.jw.sheet = none ∧ t.jw.nextIndex = s.jw.nextIndex ∧
        t.jw.nextSequence = s.jw.nextSequence ∧ t.jw.lostCount = satAdd s.jw.lostCount lost ∧
          (0 < lost → pendingCause .recordsLost t = true) ∧ pendingCause .cmdDone t = true ∧
            t.cp = { s.cp with inProgress := none, lastResult := r } ∧ others t
    (inFlightIs s .sheetHeaderRead a →
      (s.jw.state = .seeking ∨ s.jw.state = .blocked → s.jw.fifo = [] → d[0] = 0#8 →
        ∃ t, exec (.sheetHeaderReadComplete (.ok d)) s = .next t ∧
          t.jw = { s.jw with state := .opened, sheet := some opened, recheckStart := none, rereadWanted := false } ∧
            t.ev = s.ev ∧ others t ∧ t.cp = s.cp) ∧
        (∀ r l, s.jw.state = .seeking ∨ s.jw.state = .blocked ∨ s.jw.state = .closing → s.jw.fifo = r :: l →
          s.bp.jw = none → d[0] = 0#8 →
            ∃ t, exec (.sheetHeaderReadComplete (.ok d)) s = .next t ∧
              t.jw.state = (if s.jw.state = .closing then .closing else .opened) ∧ t.jw.fifo = s.jw.fifo ∧
                t.jw.sheet = some { opened with allotted := 1, firstStamp := r.stamp.setWidth 32 } ∧
                  t.bp.holds (asked (.recordWrite r) (s.jw.sheetAddress s.jw.nextIndex + 16#64)) ∧ t.ev = s.ev ∧
                    others t ∧ t.cp = s.cp) ∧
          (s.jw.state = .seeking → d[0] ≠ 0#8 → ∃ t, exec (.sheetHeaderReadComplete (.ok d)) s = .next t ∧
            t.jw = { s.jw with state := .blocked, recheckStart := some s.tb.tl, rereadWanted := false } ∧
              pendingCause .journalBlocked t = true ∧ t.ev.tallies[13] = satAdd s.ev.tallies[13] 1 ∧ others t ∧
                t.cp = s.cp) ∧
            (s.jw.state = .blocked → s.jw.rereadWanted = false → d[0] ≠ 0#8 →
              ∃ t, exec (.sheetHeaderReadComplete (.ok d)) s = .next t ∧
                t.jw = { s.jw with recheckStart := some s.tb.tl } ∧ t.ev = s.ev ∧ others t ∧ t.cp = s.cp) ∧
              (s.jw.state = .seeking ∨ s.jw.state = .blocked → inProgressIs flushCode s = false →
                ∃ t, exec (.sheetHeaderReadComplete .error) s = .next t ∧
                  t.jw = { s.jw with
                    state := .faulted, ageStart := none, recheckStart := none, rereadWanted := false } ∧
                    pendingCause .busError t = true ∧ others t ∧ t.cp = s.cp) ∧
                (s.jw.state = .closing →
                  (d[0] ≠ 0#8 → ∃ t, exec (.sheetHeaderReadComplete (.ok d)) s = .next t ∧ t.jw.fifo = [] ∧
                    closed .ok s.jw.fifo.length t) ∧
                    ∃ t, exec (.sheetHeaderReadComplete .error) s = .next t ∧ t.jw.fifo = [] ∧
                      pendingCause .busError t = true ∧ closed .busError (s.jw.fifo.length + s.jw.written) t)) ∧
      (s.bp.inFlight.map (fun f => (f.orphan, f.transfer)) =
          some (false, { kind := .sheetHeaderRead, address := a, discard := true }) →
        (s.jw.state = .closing → s.jw.sheet = none →
          (∃ t, exec (.sheetHeaderReadComplete (.ok d)) s = .next t ∧ t.jw.fifo = s.jw.fifo ∧ closed .ok 0 t) ∧
            ∃ t, exec (.sheetHeaderReadComplete .error) s = .next t ∧ t.jw.fifo = s.jw.fifo ∧
              pendingCause .busError t = true ∧ closed .ok 0 t) ∧
          (s.jw.state = .off ∨ s.jw.state = .seeking →
            (∃ t, exec (.sheetHeaderReadComplete (.ok d)) s = .next t ∧ t.jw = s.jw ∧ t.ev = s.ev ∧
              (s.jw.state = .seeking → s.bp.jw = none →
                t.bp.holds (asked .sheetHeaderRead (s.jw.sheetAddress s.jw.nextIndex))) ∧ others t ∧ t.cp = s.cp) ∧
              (inProgressIs flushCode s = false → ∃ t, exec (.sheetHeaderReadComplete .error) s = .next t ∧
                t.jw = { s.jw with
                  state := .faulted, ageStart := none, recheckStart := none, rereadWanted := false } ∧
                  pendingCause .busError t = true ∧ others t ∧ t.cp = s.cp)))

/-- RECORD_WRITE_COMPLETE and SHEET_HEADER_WRITE_COMPLETE: a record written leaves the FIFO, the first of its sheet
starting the age timer, unless the sheet is sealed by then (log entry 26), and is counted as written; the next record
held gets the next place, the 31st sealing the sheet FULL, and after the last record of a sealed sheet its header is
written; a header written, OPEN or CLOSING, advances the index and the sequence number, takes what it carried off the
lost count, spends the OPENED and LOADED marks it carried, and counts in the sheets filled and records journaled tallies
and in the ready count, with SHEETS_READY; it makes an OPEN journal SEEKING and completes a FLUSH; an ERROR faults it,
the record or every record of the sheet lost; in CLOSING a record written is followed by the next, or by the header, a
header written with records held by the next seek and with nothing held by the end of the close with OK, and an ERROR
ends it with BUS_ERROR. The bytes of a record and a header are those of 12.3 (R157 to R159, R161, R164, R165, R167,
R191). -/
def Obligations.SheetWritesEnd : Prop :=
  ∀ (s : State) (a : Addr), s.bp.Filed →
    let others (t : State) : Prop :=
      t.su = s.su ∧ t.fu = s.fu ∧ t.os = s.os ∧ t.gu = s.gu ∧ t.tb = s.tb ∧ t.cx = s.cx
    let flushEnds (r : Result) (t : State) : Prop :=
      (inProgressIs flushCode s = true → t.cp = { s.cp with inProgress := none, lastResult := r }) ∧
        (inProgressIs flushCode s = false → t.cp = s.cp)
    let announced (hd : SheetHeader) (t : State) : Prop :=
      t.jw.sheet = none ∧ t.jw.nextSequence = s.jw.nextSequence + 1#32 ∧
        t.jw.nextIndex = (if s.jw.nextIndex + 1 < s.jw.sheetCount then s.jw.nextIndex + 1 else 0) ∧
          t.jw.lostCount = s.jw.lostCount - hd.lost ∧ t.jw.openedMark = (s.jw.openedMark && !hd.opened) ∧
            t.jw.loadedMark = (s.jw.loadedMark && !hd.loaded) ∧ t.ev.tallies[12] = satAdd s.ev.tallies[12] 1 ∧
              t.ev.tallies[9] = satAdd s.ev.tallies[9] hd.count ∧
                (hd.reason ≠ .full → pendingCause .sheetsReady t = true ∧ t.jw.readyCount = 0) ∧
                  (hd.reason = .full → s.jw.readyCount + 1 < s.jw.batch → t.jw.readyCount = s.jw.readyCount + 1 ∧
                    pendingCause .sheetsReady t = pendingCause .sheetsReady s) ∧
                    (hd.reason = .full → s.jw.batch ≤ s.jw.readyCount + 1 → t.jw.readyCount = 0 ∧
                      pendingCause .sheetsReady t = true)
    (∀ r, inFlightIs s (.recordWrite r) a → s.jw.state = .opened →
      (∃ t, exec (.recordWriteComplete .ok) s = .next t ∧ t.jw.fifo = s.jw.fifo.tail ∧ t.jw.state = .opened ∧
        t.ev = s.ev ∧ others t ∧ t.cp = s.cp ∧
          ∀ h, s.jw.sheet = some h → h.sealed = none → h.allotted < 30 →
            t.jw.ageStart = if h.written = 0 ∧ s.jw.flushAge ≠ 0#32 then some s.tb.tl else s.jw.ageStart) ∧
        (∀ h, s.jw.sheet = some h → 0 < h.allotted → s.bp.jw = none → ∃ t, exec (.recordWriteComplete .ok) s = .next t ∧
          (∀ c, h.sealed = some c → t.jw.sheet = some { h with written := h.written + 1 } ∧
            t.jw.ageStart = s.jw.ageStart ∧ t.bp.holds (asked
              (.sheetHeaderWrite
                { count := h.allotted, reason := c, opened := s.jw.openedMark, loaded := s.jw.loadedMark,
                  sequence := s.jw.nextSequence, lost := s.jw.lostCount, firstStamp := h.firstStamp })
              (s.jw.base + BitVec.ofNat 64 (512 * h.index)))) ∧
            (∀ x l, h.sealed = none → s.jw.fifo.tail = x :: l →
              t.jw.sheet = some { h with
                allotted := h.allotted + 1, written := h.written + 1,
                sealed := if h.allotted + 1 = 31 then some .full else none } ∧
                (h.allotted + 1 = 31 → t.jw.ageStart = none) ∧ t.bp.holds (asked (.recordWrite x)
                  (s.jw.base + BitVec.ofNat 64 (512 * h.index) + BitVec.ofNat 64 (16 + 16 * h.allotted)))) ∧
              (h.sealed = none → s.jw.fifo.tail = [] → t.jw.sheet = some { h with written := h.written + 1 } ∧
                t.bp.outstanding .jw = false)) ∧
        ∃ t, exec (.recordWriteComplete .error) s = .next t ∧ t.jw.fifo = s.jw.fifo.tail ∧ t.jw.state = .faulted ∧
          t.jw.lostCount = satAdd s.jw.lostCount 1 ∧ pendingCause .recordsLost t = true ∧
            pendingCause .busError t = true ∧ others t ∧ flushEnds .busError t) ∧
      (∀ hd, inFlightIs s (.sheetHeaderWrite hd) a → s.jw.state = .opened →
        (∃ t, exec (.sheetHeaderWriteComplete .ok) s = .next t ∧ t.jw.state = .seeking ∧ announced hd t ∧
          (s.bp.jw = none → t.bp.holds (asked .sheetHeaderRead (t.jw.sheetAddress t.jw.nextIndex))) ∧
            t.jw.fifo = s.jw.fifo ∧ others t ∧ flushEnds .ok t) ∧
          ∃ t, exec (.sheetHeaderWriteComplete .error) s = .next t ∧ t.jw.state = .faulted ∧
            t.jw.nextIndex = s.jw.nextIndex ∧ t.jw.nextSequence = s.jw.nextSequence ∧
              t.jw.lostCount = satAdd s.jw.lostCount s.jw.written ∧ pendingCause .busError t = true ∧ others t ∧
                flushEnds .busError t) ∧
        (∀ hd, inFlightIs s (.sheetHeaderWrite hd) a → s.jw.state = .closing →
          (s.jw.fifo = [] → ∃ t, exec (.sheetHeaderWriteComplete .ok) s = .next t ∧ t.jw.state = .off ∧
            announced hd t ∧ t.jw.fifo = [] ∧ pendingCause .cmdDone t = true ∧ others t ∧
                t.cp = { s.cp with inProgress := none, lastResult := .ok }) ∧
            ∃ t, exec (.sheetHeaderWriteComplete .error) s = .next t ∧ t.jw.state = .off ∧ t.jw.fifo = [] ∧
              t.jw.nextIndex = s.jw.nextIndex ∧ t.jw.nextSequence = s.jw.nextSequence ∧
                t.jw.lostCount = satAdd s.jw.lostCount (s.jw.fifo.length + s.jw.written) ∧
                  pendingCause .busError t = true ∧ pendingCause .cmdDone t = true ∧ others t ∧
                    t.cp = { s.cp with inProgress := none, lastResult := .busError }) ∧
      (∀ hd, inFlightIs s (.sheetHeaderWrite hd) a → s.jw.state = .closing → s.jw.fifo ≠ [] → s.bp.jw = none →
        ∃ t, exec (.sheetHeaderWriteComplete .ok) s = .next t ∧ t.jw.state = .closing ∧ announced hd t ∧
          t.jw.fifo = s.jw.fifo ∧ t.bp.holds (asked .sheetHeaderRead (t.jw.sheetAddress t.jw.nextIndex)) ∧ others t ∧
            t.cp = s.cp) ∧
        (∀ r h, inFlightIs s (.recordWrite r) a → s.jw.state = .closing → s.jw.sheet = some h → h.sealed = none →
          0 < h.allotted → s.bp.jw = none →
            (∀ x l, s.jw.fifo.tail = x :: l → ∃ t, exec (.recordWriteComplete .ok) s = .next t ∧
              t.jw.state = .closing ∧ t.jw.fifo = s.jw.fifo.tail ∧ t.ev = s.ev ∧ others t ∧ t.cp = s.cp ∧
                t.bp.holds (asked (.recordWrite x)
                  (s.jw.base + BitVec.ofNat 64 (512 * h.index) + BitVec.ofNat 64 (16 + 16 * h.allotted))) ∧
                  ∃ h', t.jw.sheet = some h' ∧ h'.allotted = h.allotted + 1 ∧ h'.written = h.written + 1 ∧
                    h'.sealed = if h.allotted + 1 = 31 then some .full else none) ∧
              (s.jw.fifo.tail = [] → ∃ t hd, exec (.recordWriteComplete .ok) s = .next t ∧ t.jw.state = .closing ∧
                t.jw.fifo = [] ∧ t.jw.sheet = some { h with written := h.written + 1, sealed := some .closed } ∧
                  hd = { count := h.allotted, reason := .closed, opened := s.jw.openedMark, loaded := s.jw.loadedMark,
                         sequence := s.jw.nextSequence, lost := s.jw.lostCount, firstStamp := h.firstStamp } ∧
                    t.bp.holds (asked (.sheetHeaderWrite hd) (s.jw.base + BitVec.ofNat 64 (512 * h.index))) ∧
                      t.jw.ageStart = none ∧ t.ev = s.ev ∧ others t ∧ t.cp = s.cp)) ∧
          (∀ r, inFlightIs s (.recordWrite r) a → s.jw.state = .closing →
            ∃ t, exec (.recordWriteComplete .error) s = .next t ∧ t.jw.state = .off ∧ t.jw.fifo = [] ∧
              t.jw.lostCount = satAdd s.jw.lostCount (s.jw.fifo.length + s.jw.written) ∧
                pendingCause .busError t = true ∧ pendingCause .cmdDone t = true ∧ others t ∧
                  t.cp = { s.cp with inProgress := none, lastResult := .busError }) ∧
            (∀ r : Record,
              let d := (TransferKind.recordWrite r).data
              d.length = 16 ∧ leAt d 0 1 = r.kind.code ∧ leAt d 1 1 = r.source.toNat ∧ leAt d 2 1 = r.flags.toNat ∧
                leAt d 3 5 = r.stamp.toNat ∧ leAt d 8 4 = r.value1.toNat ∧ leAt d 12 4 = r.value2.toNat) ∧
              ∀ hd : SheetHeader,
                let d := (TransferKind.sheetHeaderWrite hd).data
                d.length = 16 ∧ leAt d 0 1 = 1 ∧ leAt d 1 1 = hd.count % 256 ∧
                  leAt d 2 1 = (match hd.reason with | .full => 1 | .aged => 2 | .flush => 3 | .closed => 4) ∧
                    leAt d 3 1 = hd.opened.toNat + 2 * hd.loaded.toNat ∧ leAt d 4 4 = hd.sequence.toNat ∧
                      leAt d 8 4 = hd.lost.toNat ∧ leAt d 12 4 = hd.firstStamp.toNat

/-! ## Ends of the Command Port's transfers (chapters 10 and 11) -/

/-- DCB_READ_COMPLETE: each of the first three reads asks for the next 64 bytes; after the fourth a block that no point
of R174 refuses, read field by field, is committed (the context loaded, the timebase setting, the late policy, the
active Limits taken, TL, PT and HOST_PAUSE kept, the guards' holds gone, the pairs configured, every line at its idle
request, unclamped, and resolved; each fault input QUIET, or OFF if not enabled, deasserted, with no hold-start, and
blanked by an edge of the commit at most; each enabled channel at its pin's level, its stamps and counts cleared; the
journal at index 0 and the first sequence number, its lost and ready counts 0, LOADED marked) and the command completes
OK; a refused one, or an ERROR, changes nothing but the answer (R115, R116, R142, R173 to R176, R191, R3, R122, R123,
R150, R168). That the pins come with the command is log entry 8. -/
def Obligations.DcbReadsEnd : Prop :=
  ∀ (s : State) (a : Addr) (d : Vector Byte 64) (p : Pins), inFlightIs s .dcbRead a →
    let shadow := s.cp.shadow ++ d.toList
    let c := contextOf shadow
    let journal : JournalWriter := { s.jw with
      nextIndex := 0, nextSequence := c.firstSequence, lostCount := 0#32, readyCount := 0, loadedMark := true,
      ageStart := none, recheckStart := none, rereadWanted := false, base := c.base, sheetCount := c.sheetCount,
      batch := c.batch, recheckInterval := c.recheckInterval, flushAge := c.flushAge }
    let channel (n : Fin 16) : Channel :=
      { enable := c.channels[n].enable, filterLength := c.channels[n].filterLength, mode := c.channels[n].mode,
        select := c.channels[n].select, record := c.channels[n].record, decimation := c.channels[n].decimation,
        high := c.channels[n].enable && p.inputs.getLsbD n.val, filterRun := 0, lastLeading := none, phase := none,
        decimationCount := 0 }
    let input (n : Fin 4) : FaultInput :=
      { enable := c.inputs[n].enable, polarity := c.inputs[n].polarity, filterLength := c.inputs[n].filterLength,
        action := c.inputs[n].action, clampMask := c.inputs[n].clampMask, blankMask := c.inputs[n].blankMask,
        policy := c.inputs[n].policy, blankLength := c.limits.blankLengths[n], holdLimit := c.limits.holdLimits[n],
        state := if c.inputs[n].enable then .quiet else .off, asserted := false, filterRun := 0, blankUntil := none,
        holdStart := none, escalated := false }
    (shadow.length < 256 → ∃ t, exec (.dcbReadComplete (.ok d) p) s = .next t ∧
      t.cp = { s.cp with shadow := shadow } ∧
        t.bp.holds (asked .dcbRead (argument s + BitVec.ofNat 64 (64 * (shadow.length / 64)))) ∧ t.su = s.su ∧
          t.fu = s.fu ∧ t.os = s.os ∧ t.gu = s.gu ∧ t.tb = s.tb ∧ t.cx = s.cx ∧ t.jw = s.jw ∧ t.ev = s.ev) ∧
      (256 ≤ shadow.length → dcbValid shadow = true → ∃ t, exec (.dcbReadComplete (.ok d) p) s = .next t ∧
        t.cp = { s.cp with
          inProgress := none, lastResult := .ok, contextLoaded := true, active := c.limits, staged := none,
          shadow := [] } ∧
          pendingCause .cmdDone t = true ∧
            t.tb = { s.tb with
              source := c.source, prescale := c.prescale, tbinEdge := c.tbinEdge, prescaleCount := 0,
              tbinPrevious := p.tbin, guardHolds := 0#4 } ∧
              t.su = { s.su with latePolicy := c.latePolicy } ∧ t.fu = { s.fu with watchInterval := c.watchInterval } ∧
                (∀ n : Fin 16, t.cx.channels[n] = channel n) ∧ t.jw = journal ∧ t.pins = p ∧ t.gu.latch = s.gu.latch ∧
                  t.gu.sources = s.gu.sources ∧ t.gu.mask = s.gu.mask ∧
                  (∀ n : Fin 4, { t.gu.inputs[n] with blankUntil := none } = input n ∧
                    (t.gu.inputs[n].blankUntil = none ∨ (c.inputs[n].enable = true ∧ c.limits.blankLengths[n] ≠ 0#16 ∧
                      t.gu.inputs[n].blankUntil = some (s.tb.tl + c.limits.blankLengths[n].setWidth 48)))) ∧
                  ∀ n : Fin 16, t.os.lines[n].role = c.lines[n].role ∧ t.os.lines[n].stop = c.lines[n].stop ∧
                    t.os.lines[n].safe = c.lines[n].safe ∧ t.os.lines[n].covered = s.os.lines[n].covered ∧
                      t.os.lines[n].requested = (if c.lines[n].role = .sequenced then c.lines[n].idle else .released) ∧
                        t.os.lines[n].idle = c.lines[n].idle ∧ t.os.lines[n].clampSet = 0#4 ∧
                          t.os.lines[n].await = false) ∧
        (256 ≤ shadow.length → (dcbValid shadow = true ↔ ¬DcbRefused shadow) ∧
          (¬DcbRefused shadow → ContextRead shadow c ∧ ∃ t, exec (.dcbReadComplete (.ok d) p) s = .next t ∧
            (∀ k : Fin 8, t.os.pairs[k] = { enabled := c.paired.getLsbD k.val, deadTime := c.limits.deadTimes[k] }) ∧
              Resolved s.tb.tl { s.os with lines := s.os.lines.map fun l => { l with deferred := none } } t.os)) ∧
        (256 ≤ shadow.length → dcbValid shadow = false → ∃ t, exec (.dcbReadComplete (.ok d) p) s = .next t ∧
          t.cp = { s.cp with inProgress := none, lastResult := .badContext, shadow := [] } ∧
            t.ev = s.ev.raise .cmdDone ∧ t.su = s.su ∧ t.fu = s.fu ∧ t.os = s.os ∧ t.gu = s.gu ∧ t.tb = s.tb ∧
              t.cx = s.cx ∧ t.jw = s.jw) ∧
          ∃ t, exec (.dcbReadComplete .error p) s = .next t ∧
            t.cp = { s.cp with inProgress := none, lastResult := .busError, shadow := [], snapshot := none } ∧
              pendingCause .busError t = true ∧ pendingCause .cmdDone t = true ∧ t.su = s.su ∧ t.fu = s.fu ∧
                t.os = s.os ∧ t.gu = s.gu ∧ t.tb = s.tb ∧ t.cx = s.cx ∧ t.jw = s.jw

/-- LIMITS_READ_COMPLETE, of a state between events: a block of format 1, read field by field, becomes the staged block
of a program that is not IDLE, marked replaced if one was staged, and the active Limits of an IDLE part, whose pairs
take its dead times and whose deferred rises are due anew by them; another format, or an ERROR, changes nothing but the
answer (R112, R177 to R179, R191). -/
def Obligations.LimitsReadEnds : Prop :=
  ∀ (s : State) (a : Addr) (d : Vector Byte 48), inFlightIs s .limitsRead a → Quiet s → Rested s → s.bp.Filed →
    let m := limitsOf d.toList 0
    LimitsRead d.toList 0 m ∧
    (d[0] = 1#8 → s.su.program ≠ .idle → ∃ t, exec (.limitsReadComplete (.ok d)) s = .next t ∧
      t.cp = { s.cp with
        inProgress := none, lastResult := .ok, staged := some { limits := m, replaced := s.cp.staged.isSome } } ∧
        t.ev = s.ev.raise .cmdDone ∧ t.su = s.su ∧ t.fu = s.fu ∧ t.os = s.os ∧ t.gu = s.gu ∧ t.tb = s.tb ∧
          t.cx = s.cx ∧ t.jw = s.jw) ∧
      (d[0] = 1#8 → s.su.program = .idle → ∃ t, exec (.limitsReadComplete (.ok d)) s = .next t ∧
        t.cp = { s.cp with inProgress := none, lastResult := .ok, active := m } ∧ pendingCause .cmdDone t = true ∧
          (∀ k : Fin 8, t.os.pairs[k].deadTime = m.deadTimes[k] ∧ t.os.pairs[k].enabled = s.os.pairs[k].enabled) ∧
            (∀ n : Fin 4, t.gu.inputs[n].blankLength = m.blankLengths[n] ∧
              t.gu.inputs[n].holdLimit = m.holdLimits[n]) ∧
              t.su = s.su ∧ t.cx = s.cx ∧ t.tb.tl = s.tb.tl ∧ t.tb.pt = s.tb.pt ∧
                ((∀ n : Fin 4, s.gu.inputs[n].state ≠ .active) → s.os.resolve s.tb.tl = s.os →
                  t.ev.tallies[5] = s.ev.tallies[5] ∧
                    ∀ n : Fin 16,
                      let l := s.os.lines[n]
                      let dead := m.deadTimes[pairOf n]
                      (l.deferred = none ∨ s.os.pairs[pairOf n].enabled = false → t.os.lines[n] = l) ∧
                        ∀ f, l.deferred ≠ none → s.os.pairs[pairOf n].enabled = true →
                          s.os.lines[partner n].lastFall = some f →
                            (dead.toNat ≤ (s.tb.tl - f).toNat →
                              t.os.lines[n] = { l with driven := .high, deferred := none }) ∧
                              ((s.tb.tl - f).toNat < dead.toNat →
                                t.os.lines[n] = { l with deferred := some (f + dead.setWidth 48) }))) ∧
        (d[0] ≠ 1#8 → ∃ t, exec (.limitsReadComplete (.ok d)) s = .next t ∧
          t.cp = { s.cp with inProgress := none, lastResult := .badLimits } ∧ t.ev = s.ev.raise .cmdDone ∧
            t.su = s.su ∧ t.fu = s.fu ∧ t.os = s.os ∧ t.gu = s.gu ∧ t.tb = s.tb ∧ t.cx = s.cx ∧ t.jw = s.jw) ∧
          ∃ t, exec (.limitsReadComplete .error) s = .next t ∧
            t.cp = { s.cp with inProgress := none, lastResult := .busError, shadow := [], snapshot := none } ∧
              pendingCause .busError t = true ∧ pendingCause .cmdDone t = true ∧ t.su = s.su ∧ t.fu = s.fu ∧
                t.os = s.os ∧ t.gu = s.gu ∧ t.tb = s.tb ∧ t.cx = s.cx ∧ t.jw = s.jw

/-- TALLY_WRITE_COMPLETE: after the first write the second is asked for at the address plus 64; after the second the
command completes OK; an ERROR of either completes it with BUS_ERROR. The two writes carry the bytes of the tally block
of 12.3 (R187, R191). -/
def Obligations.TallyWritesEnd : Prop :=
  ∀ (s : State) (a : Addr) (snap : TallySnapshot),
    (let low := (TransferKind.tallyWriteLow snap).data;
      let high := (TransferKind.tallyWriteHigh snap).data
      low.length = 64 ∧ high.length = 16 ∧ leAt low 0 1 = 1 ∧ leAt low 1 3 = 0 ∧ leAt low 4 6 = snap.tl.toNat ∧
        leAt low 10 6 = 0 ∧
          ∀ n : Fin 16, snap.counters[n].toNat =
            if n.val < 12 then leAt low (16 + 4 * n.val) 4 else leAt high (4 * n.val - 48) 4) ∧
    (inFlightIs s (.tallyWriteLow snap) a → ∃ t, exec (.tallyWriteComplete .ok) s = .next t ∧
      t.bp.holds (asked (.tallyWriteHigh snap) (a + 64#64)) ∧ t.cp = s.cp ∧ t.ev = s.ev ∧ t.su = s.su ∧ t.fu = s.fu ∧
        t.os = s.os ∧ t.gu = s.gu ∧ t.tb = s.tb ∧ t.cx = s.cx ∧ t.jw = s.jw) ∧
      (inFlightIs s (.tallyWriteHigh snap) a → ∃ t, exec (.tallyWriteComplete .ok) s = .next t ∧
        t.cp = { s.cp with inProgress := none, lastResult := .ok, snapshot := none } ∧ t.ev = s.ev.raise .cmdDone ∧
          t.su = s.su ∧ t.fu = s.fu ∧ t.os = s.os ∧ t.gu = s.gu ∧ t.tb = s.tb ∧ t.cx = s.cx ∧ t.jw = s.jw) ∧
        (inFlightIs s (.tallyWriteLow snap) a ∨ inFlightIs s (.tallyWriteHigh snap) a →
          ∃ t, exec (.tallyWriteComplete .error) s = .next t ∧
            t.cp = { s.cp with inProgress := none, lastResult := .busError, shadow := [], snapshot := none } ∧
              pendingCause .busError t = true ∧ pendingCause .cmdDone t = true ∧ t.su = s.su ∧ t.fu = s.fu ∧
                t.os = s.os ∧ t.gu = s.gu ∧ t.tb = s.tb ∧ t.cx = s.cx ∧ t.jw = s.jw)

/-- The orders that the spec leaves open are free: with a draw of 1 the grant at the end of a transfer comes before its
requester's next request, and a waiting request of another takes the bus; with a draw of 0 the JW's own next request
wins over the FU's (R188; log entry 1). -/
def Obligations.GrantOrderIsFree : Prop :=
  ∀ (s : State) (a : Addr) (r : Record) (w : Transfer) (h : OpenSheet) (x y : Record) (l : List Record),
    inFlightIs s (.recordWrite r) a → s.bp.jw = none → s.bp.fu = some w → w.kind.owner = .fu →
      s.jw.state = .opened → s.jw.sheet = some h → h.sealed = none → s.jw.fifo = x :: y :: l →
        (s.oracle % 2 = 1 → ∃ t, exec (.recordWriteComplete .ok) s = .next t ∧
          t.bp.inFlight = some (Flight.start w) ∧ ∃ q, t.bp.jw = some q ∧ q.kind = .recordWrite y) ∧
          (s.oracle % 2 = 0 → ∃ t, exec (.recordWriteComplete .ok) s = .next t ∧ t.bp.fu = some w ∧
            ∃ f, t.bp.inFlight = some f ∧ f.transfer.kind = .recordWrite y)

/-! ## Invariants -/

/-- Every step keeps the safety of the Output Stage. A step with no command waiting is that of log entry 2. -/
def Obligations.PairSafetyKept : Prop :=
  ∀ s t : State, s.os.Safe → step s = .next t → t.os.Safe

/-- In a safe state the two lines of an enabled pair are never both requested HIGH, neither has safe level HIGH, and
they are never both driven HIGH; a line driven HIGH is requested HIGH and not forced to safe, or forced to safe with
safe level HIGH (R111). -/
def Obligations.PairNeverBothHigh : Prop :=
  ∀ s : State, s.os.Safe →
    (∀ k : Fin 8, s.os.pairs[k].enabled = true →
      ¬(s.os.lines[lowerLine k].driven = .high ∧ s.os.lines[upperLine k].driven = .high) ∧
        ¬(s.os.lines[lowerLine k].requested = .high ∧ s.os.lines[upperLine k].requested = .high) ∧
          s.os.lines[lowerLine k].safe ≠ .high ∧ s.os.lines[upperLine k].safe ≠ .high) ∧
      ∀ n : Fin 16, s.os.lines[n].driven = .high →
        (s.os.lines[n].forced = false ∧ s.os.lines[n].requested = .high) ∨
          (s.os.lines[n].forced = true ∧ s.os.lines[n].safe = .high)

/-- Every step keeps the shape of the program state: admission open only in RUNNING, nothing waiting while it is closed,
no END in the agenda of an open program, no agenda in IDLE and STOPPING, some in DRAINING. A step with no command
waiting is that of log entry 2. -/
def Obligations.ProgramShapeKept : Prop :=
  ∀ s t : State, s.su.Shaped → step s = .next t → t.su.Shaped

/-- Every step keeps the trip latch's hold: no trip notice stays out, and the program is IDLE or STOPPING while the
latch is set. A step with no command waiting is that of log entry 2. -/
def Obligations.TripGateKept : Prop :=
  ∀ s t : State, TripGated s → step s = .next t → TripGated t

/-- Every step keeps the hold FIFO within 16 records, the agenda within 64 entries, the step queue, with the steps on
their way to it, within 32, the JW and the FU at one transfer each, and each waiting request in its own requester's
place. A step with no command waiting is that of log entry 2. -/
def Obligations.CapacitiesKept : Prop :=
  ∀ s t : State, WithinCapacity s → step s = .next t → WithinCapacity t

/-- Every step ends between events: no notice out, no request left to make, and each waiting request in its own
requester's place. A step with no command waiting is that of log entry 2. -/
def Obligations.BetweenEventsKept : Prop :=
  ∀ s t : State, Quiet s ∧ Rested s ∧ s.bp.Filed → step s = .next t → Quiet t ∧ Rested t ∧ t.bp.Filed

/-- The state after reset meets all of them. -/
def Obligations.InvariantsAtReset : Prop :=
  State.reset.os.Safe ∧ State.reset.su.Shaped ∧ TripGated State.reset ∧ WithinCapacity State.reset ∧
    Quiet State.reset ∧ Rested State.reset ∧ State.reset.bp.Filed

end
end

