-- ==== Sys2Proof/Laws/State.lean ====
section
/-! SUPPORT. State.lean: what the smallest shared operations leave unchanged, one simp lemma each, and what they do to the
field they change, so that no proof unfolds a record update. -/
namespace Sys2Proof.Machine

set_option Elab.async false

@[simp] theorem raise_frame (c : Cause) (s : State) : (raise c s).tb = s.tb ∧ (raise c s).fu = s.fu ∧ (raise c s).su
      = s.su ∧ (raise c s).os = s.os ∧ (raise c s).gu = s.gu ∧ (raise c s).cx = s.cx ∧ (raise c s).jw = s.jw ∧
      (raise c s).cp = s.cp ∧ (raise c s).bp = s.bp ∧ (raise c s).pins = s.pins ∧ (raise c s).resetAsserted =
      s.resetAsserted ∧ (raise c s).oracle = s.oracle ∧ (raise c s).pending = s.pending := by
  unfold raise; simp

@[simp] theorem count_frame (t : Tally) (n : Nat) (s : State) : (count t n s).tb = s.tb ∧ (count t n s).fu = s.fu ∧
      (count t n s).su = s.su ∧ (count t n s).os = s.os ∧ (count t n s).gu = s.gu ∧ (count t n s).cx = s.cx ∧ (count
      t n s).jw = s.jw ∧ (count t n s).cp = s.cp ∧ (count t n s).bp = s.bp ∧ (count t n s).pins = s.pins ∧ (count t
      n s).resetAsserted = s.resetAsserted ∧ (count t n s).oracle = s.oracle ∧ (count t n s).pending = s.pending :=
      by
  unfold count; simp

@[simp] theorem offer_frame (r : Record) (s : State) : (offer r s).tb = s.tb ∧ (offer r s).fu = s.fu ∧ (offer r
      s).su = s.su ∧ (offer r s).os = s.os ∧ (offer r s).gu = s.gu ∧ (offer r s).cx = s.cx ∧ (offer r s).cp = s.cp ∧
      (offer r s).bp = s.bp ∧ (offer r s).pins = s.pins ∧ (offer r s).resetAsserted = s.resetAsserted ∧ (offer r
      s).oracle = s.oracle ∧ (offer r s).pending = s.pending := by
  unfold offer; simp

@[simp] theorem request_frame (k : TransferKind) (a : Addr) (s : State) : (request k a s).tb = s.tb ∧ (request k a
      s).fu = s.fu ∧ (request k a s).su = s.su ∧ (request k a s).os = s.os ∧ (request k a s).gu = s.gu ∧ (request k
      a s).cx = s.cx ∧ (request k a s).jw = s.jw ∧ (request k a s).cp = s.cp ∧ (request k a s).ev = s.ev ∧ (request
      k a s).pins = s.pins ∧ (request k a s).resetAsserted = s.resetAsserted ∧ (request k a s).oracle = s.oracle ∧
      (request k a s).pending = s.pending := by
  unfold request; simp

@[simp] theorem grant_frame (s : State) : (grant s).tb = s.tb ∧ (grant s).fu = s.fu ∧ (grant s).su = s.su ∧ (grant
      s).os = s.os ∧ (grant s).gu = s.gu ∧ (grant s).cx = s.cx ∧ (grant s).jw = s.jw ∧ (grant s).cp = s.cp ∧ (grant
      s).ev = s.ev ∧ (grant s).pins = s.pins ∧ (grant s).resetAsserted = s.resetAsserted ∧ (grant s).oracle =
      s.oracle ∧ (grant s).pending = s.pending := by
  unfold grant; simp

@[simp] theorem complete_frame (r : Result) (s : State) : (complete r s).tb = s.tb ∧ (complete r s).fu = s.fu ∧
      (complete r s).su = s.su ∧ (complete r s).os = s.os ∧ (complete r s).gu = s.gu ∧ (complete r s).cx = s.cx ∧
      (complete r s).jw = s.jw ∧ (complete r s).bp = s.bp ∧ (complete r s).pins = s.pins ∧ (complete r
      s).resetAsserted = s.resetAsserted ∧ (complete r s).oracle = s.oracle ∧ (complete r s).pending = s.pending :=
      by
  unfold complete; simp

@[simp] theorem afterDraw_frame (s : State) : (afterDraw s).tb = s.tb ∧ (afterDraw s).fu = s.fu ∧ (afterDraw s).su =
      s.su ∧ (afterDraw s).os = s.os ∧ (afterDraw s).gu = s.gu ∧ (afterDraw s).cx = s.cx ∧ (afterDraw s).jw = s.jw ∧
      (afterDraw s).cp = s.cp ∧ (afterDraw s).ev = s.ev ∧ (afterDraw s).bp = s.bp ∧ (afterDraw s).pins = s.pins ∧
      (afterDraw s).resetAsserted = s.resetAsserted ∧ (afterDraw s).pending = s.pending := by
  unfold afterDraw; simp

@[simp] theorem busErrorRaised_frame (s : State) : (busErrorRaised s).tb = s.tb ∧ (busErrorRaised s).fu = s.fu ∧
      (busErrorRaised s).su = s.su ∧ (busErrorRaised s).os = s.os ∧ (busErrorRaised s).gu = s.gu ∧ (busErrorRaised
      s).cx = s.cx ∧ (busErrorRaised s).jw = s.jw ∧ (busErrorRaised s).cp = s.cp ∧ (busErrorRaised s).bp = s.bp ∧
      (busErrorRaised s).pins = s.pins ∧ (busErrorRaised s).resetAsserted = s.resetAsserted ∧ (busErrorRaised
      s).oracle = s.oracle ∧ (busErrorRaised s).pending = s.pending := by
  unfold busErrorRaised; simp

@[simp] theorem addGuardHold_frame (n : Fin 4) (s : State) : (addGuardHold n s).fu = s.fu ∧ (addGuardHold n s).su =
      s.su ∧ (addGuardHold n s).os = s.os ∧ (addGuardHold n s).gu = s.gu ∧ (addGuardHold n s).cx = s.cx ∧
      (addGuardHold n s).jw = s.jw ∧ (addGuardHold n s).cp = s.cp ∧ (addGuardHold n s).ev = s.ev ∧ (addGuardHold n
      s).bp = s.bp ∧ (addGuardHold n s).pins = s.pins ∧ (addGuardHold n s).resetAsserted = s.resetAsserted ∧
      (addGuardHold n s).oracle = s.oracle ∧ (addGuardHold n s).pending = s.pending := by
  unfold addGuardHold; simp

@[simp] theorem removeGuardHold_frame (n : Fin 4) (s : State) : (removeGuardHold n s).fu = s.fu ∧ (removeGuardHold n
      s).su = s.su ∧ (removeGuardHold n s).os = s.os ∧ (removeGuardHold n s).gu = s.gu ∧ (removeGuardHold n s).cx =
      s.cx ∧ (removeGuardHold n s).jw = s.jw ∧ (removeGuardHold n s).cp = s.cp ∧ (removeGuardHold n s).ev = s.ev ∧
      (removeGuardHold n s).bp = s.bp ∧ (removeGuardHold n s).pins = s.pins ∧ (removeGuardHold n s).resetAsserted =
      s.resetAsserted ∧ (removeGuardHold n s).oracle = s.oracle ∧ (removeGuardHold n s).pending = s.pending := by
  unfold removeGuardHold; simp

@[simp] theorem freeBus_frame (s : State) : (freeBus s).tb = s.tb ∧ (freeBus s).fu = s.fu ∧ (freeBus s).su = s.su ∧
      (freeBus s).os = s.os ∧ (freeBus s).gu = s.gu ∧ (freeBus s).cx = s.cx ∧ (freeBus s).jw = s.jw ∧ (freeBus s).cp
      = s.cp ∧ (freeBus s).ev = s.ev ∧ (freeBus s).pins = s.pins ∧ (freeBus s).resetAsserted = s.resetAsserted ∧
      (freeBus s).oracle = s.oracle ∧ (freeBus s).pending = s.pending := by
  unfold freeBus; simp

@[simp] theorem raise_ev (c : Cause) (s : State) : (raise c s).ev = s.ev.raise c := rfl

@[simp] theorem count_ev (t : Tally) (n : Nat) (s : State) : (count t n s).ev = s.ev.count t n := rfl

@[simp] theorem offer_jw (r : Record) (s : State) : (offer r s).jw = s.jw.offer r := rfl

@[simp] theorem offer_ev (r : Record) (s : State) : (offer r s).ev = s.ev.offer s.jw := rfl

@[simp] theorem grant_bp (s : State) : (grant s).bp = s.bp.grant := rfl

@[simp] theorem freeBus_bp (s : State) : (freeBus s).bp = { s.bp with inFlight := none } := rfl

@[simp] theorem request_bp (k : TransferKind) (a : Addr) (s : State) :
    (request k a s).bp = s.bp.request { kind := k, address := a, discard := false } := rfl

@[simp] theorem complete_cp (r : Result) (s : State) :
    (complete r s).cp = { s.cp with inProgress := none, lastResult := r } := rfl

@[simp] theorem complete_ev (r : Result) (s : State) : (complete r s).ev = s.ev.raise .cmdDone := rfl

@[simp] theorem afterDraw_oracle (s : State) : (afterDraw s).oracle = s.oracle / 2 := rfl

@[simp] theorem addGuardHold_tb (n : Fin 4) (s : State) :
    (addGuardHold n s).tb = { s.tb with guardHolds := s.tb.guardHolds ||| faultBit n } := rfl

@[simp] theorem removeGuardHold_tb (n : Fin 4) (s : State) :
    (removeGuardHold n s).tb = { s.tb with guardHolds := s.tb.guardHolds &&& ~~~faultBit n } := rfl

/-- A fold keeps what each of its steps keeps. -/
theorem foldl_keeps {α β : Type} (f : State → α → State) (g : State → β) (h : ∀ s a, g (f s a) = g s) (l : List α)
    (s : State) : g (l.foldl f s) = g s := by
  induction l generalizing s with
  | nil => rfl
  | cons a l ih => exact (ih (f s a)).trans (h s a)

/-- A fold keeps a property that each of its steps keeps. -/
theorem foldl_inv {α : Type} (P : State → Prop) (f : State → α → State) (hf : ∀ s a, P s → P (f s a)) (l : List α)
    (s : State) (h : P s) : P (l.foldl f s) := by
  induction l generalizing s with
  | nil => exact h
  | cons a l ih => exact ih _ (hf s a h)

end Sys2Proof.Machine
end

