-- ==== Sys2Proof/Laws/Frame.lean ====
section
/-! SUPPORT. Frame.lean: what each event of a block leaves unchanged, one simp lemma per operation. -/
namespace Sys2Proof.Machine

set_option Elab.async false

@[simp] theorem loseRecords_frame (n : Nat) (s : State) : (loseRecords n s).tb = s.tb ∧ (loseRecords n s).fu = s.fu
      ∧ (loseRecords n s).su = s.su ∧ (loseRecords n s).os = s.os ∧ (loseRecords n s).gu = s.gu ∧ (loseRecords n
      s).cx = s.cx ∧ (loseRecords n s).cp = s.cp ∧ (loseRecords n s).bp = s.bp ∧ (loseRecords n s).pins = s.pins ∧
      (loseRecords n s).resetAsserted = s.resetAsserted ∧ (loseRecords n s).oracle = s.oracle ∧ (loseRecords n
      s).pending = s.pending := by
  unfold loseRecords; simp

@[simp] theorem loseHeld_frame (s : State) : (loseHeld s).tb = s.tb ∧ (loseHeld s).fu = s.fu ∧ (loseHeld s).su =
      s.su ∧ (loseHeld s).os = s.os ∧ (loseHeld s).gu = s.gu ∧ (loseHeld s).cx = s.cx ∧ (loseHeld s).cp = s.cp ∧
      (loseHeld s).bp = s.bp ∧ (loseHeld s).pins = s.pins ∧ (loseHeld s).resetAsserted = s.resetAsserted ∧ (loseHeld
      s).oracle = s.oracle ∧ (loseHeld s).pending = s.pending := by
  unfold loseHeld; simp

@[simp] theorem endClose_frame (r : Result) (s : State) : (endClose r s).tb = s.tb ∧ (endClose r s).fu = s.fu ∧
      (endClose r s).su = s.su ∧ (endClose r s).os = s.os ∧ (endClose r s).gu = s.gu ∧ (endClose r s).cx = s.cx ∧
      (endClose r s).bp = s.bp ∧ (endClose r s).pins = s.pins ∧ (endClose r s).resetAsserted = s.resetAsserted ∧
      (endClose r s).oracle = s.oracle ∧ (endClose r s).pending = s.pending := by
  unfold endClose; simp

@[simp] theorem closeError_frame (s : State) : (closeError s).tb = s.tb ∧ (closeError s).fu = s.fu ∧ (closeError
      s).su = s.su ∧ (closeError s).os = s.os ∧ (closeError s).gu = s.gu ∧ (closeError s).cx = s.cx ∧ (closeError
      s).bp = s.bp ∧ (closeError s).pins = s.pins ∧ (closeError s).resetAsserted = s.resetAsserted ∧ (closeError
      s).oracle = s.oracle ∧ (closeError s).pending = s.pending := by
  unfold closeError; simp

@[simp] theorem endFlush_frame (r : Result) (s : State) : (endFlush r s).tb = s.tb ∧ (endFlush r s).fu = s.fu ∧
      (endFlush r s).su = s.su ∧ (endFlush r s).os = s.os ∧ (endFlush r s).gu = s.gu ∧ (endFlush r s).cx = s.cx ∧
      (endFlush r s).jw = s.jw ∧ (endFlush r s).bp = s.bp ∧ (endFlush r s).pins = s.pins ∧ (endFlush r
      s).resetAsserted = s.resetAsserted ∧ (endFlush r s).oracle = s.oracle ∧ (endFlush r s).pending = s.pending :=
      by
  unfold endFlush; (repeat' split) <;> simp

@[simp] theorem journalFault_frame (s : State) : (journalFault s).tb = s.tb ∧ (journalFault s).fu = s.fu ∧
      (journalFault s).su = s.su ∧ (journalFault s).os = s.os ∧ (journalFault s).gu = s.gu ∧ (journalFault s).cx =
      s.cx ∧ (journalFault s).bp = s.bp ∧ (journalFault s).pins = s.pins ∧ (journalFault s).resetAsserted =
      s.resetAsserted ∧ (journalFault s).oracle = s.oracle ∧ (journalFault s).pending = s.pending := by
  unfold journalFault; simp

@[simp] theorem requestSheetHeader_frame (s : State) : (requestSheetHeader s).tb = s.tb ∧ (requestSheetHeader s).fu
      = s.fu ∧ (requestSheetHeader s).su = s.su ∧ (requestSheetHeader s).os = s.os ∧ (requestSheetHeader s).gu =
      s.gu ∧ (requestSheetHeader s).cx = s.cx ∧ (requestSheetHeader s).jw = s.jw ∧ (requestSheetHeader s).cp = s.cp
      ∧ (requestSheetHeader s).ev = s.ev ∧ (requestSheetHeader s).pins = s.pins ∧ (requestSheetHeader
      s).resetAsserted = s.resetAsserted ∧ (requestSheetHeader s).oracle = s.oracle ∧ (requestSheetHeader s).pending
      = s.pending := by
  unfold requestSheetHeader; simp

@[simp] theorem requestHeaderWrite_frame (h : OpenSheet) (r : CloseReason) (s : State) : (requestHeaderWrite h r
      s).tb = s.tb ∧ (requestHeaderWrite h r s).fu = s.fu ∧ (requestHeaderWrite h r s).su = s.su ∧
      (requestHeaderWrite h r s).os = s.os ∧ (requestHeaderWrite h r s).gu = s.gu ∧ (requestHeaderWrite h r s).cx =
      s.cx ∧ (requestHeaderWrite h r s).jw = s.jw ∧ (requestHeaderWrite h r s).cp = s.cp ∧ (requestHeaderWrite h r
      s).ev = s.ev ∧ (requestHeaderWrite h r s).pins = s.pins ∧ (requestHeaderWrite h r s).resetAsserted =
      s.resetAsserted ∧ (requestHeaderWrite h r s).oracle = s.oracle ∧ (requestHeaderWrite h r s).pending =
      s.pending := by
  unfold requestHeaderWrite; simp

@[simp] theorem allotPlace_frame (h : OpenSheet) (r : Record) (s : State) : (allotPlace h r s).tb = s.tb ∧
      (allotPlace h r s).fu = s.fu ∧ (allotPlace h r s).su = s.su ∧ (allotPlace h r s).os = s.os ∧ (allotPlace h r
      s).gu = s.gu ∧ (allotPlace h r s).cx = s.cx ∧ (allotPlace h r s).cp = s.cp ∧ (allotPlace h r s).ev = s.ev ∧
      (allotPlace h r s).pins = s.pins ∧ (allotPlace h r s).resetAsserted = s.resetAsserted ∧ (allotPlace h r
      s).oracle = s.oracle ∧ (allotPlace h r s).pending = s.pending := by
  unfold allotPlace; (repeat' split) <;> simp

@[simp] theorem finishClose_frame (h : OpenSheet) (s : State) : (finishClose h s).tb = s.tb ∧ (finishClose h s).fu =
      s.fu ∧ (finishClose h s).su = s.su ∧ (finishClose h s).os = s.os ∧ (finishClose h s).gu = s.gu ∧ (finishClose
      h s).cx = s.cx ∧ (finishClose h s).pins = s.pins ∧ (finishClose h s).resetAsserted = s.resetAsserted ∧
      (finishClose h s).oracle = s.oracle ∧ (finishClose h s).pending = s.pending := by
  unfold finishClose; (repeat' split) <;> simp

@[simp] theorem writeNext_frame (h : OpenSheet) (s : State) : (writeNext h s).tb = s.tb ∧ (writeNext h s).fu = s.fu
      ∧ (writeNext h s).su = s.su ∧ (writeNext h s).os = s.os ∧ (writeNext h s).gu = s.gu ∧ (writeNext h s).cx =
      s.cx ∧ (writeNext h s).pins = s.pins ∧ (writeNext h s).resetAsserted = s.resetAsserted ∧ (writeNext h
      s).oracle = s.oracle ∧ (writeNext h s).pending = s.pending := by
  unfold writeNext; (repeat' split) <;> simp

@[simp] theorem jwPump_frame (s : State) : (jwPump s).tb = s.tb ∧ (jwPump s).fu = s.fu ∧ (jwPump s).su = s.su ∧
      (jwPump s).os = s.os ∧ (jwPump s).gu = s.gu ∧ (jwPump s).cx = s.cx ∧ (jwPump s).pins = s.pins ∧ (jwPump
      s).resetAsserted = s.resetAsserted ∧ (jwPump s).oracle = s.oracle ∧ (jwPump s).pending = s.pending := by
  unfold jwPump; (repeat' split) <;> simp

@[simp] theorem jwRun_frame (s : State) : (jwRun s).tb = s.tb ∧ (jwRun s).fu = s.fu ∧ (jwRun s).su = s.su ∧ (jwRun
      s).os = s.os ∧ (jwRun s).gu = s.gu ∧ (jwRun s).cx = s.cx ∧ (jwRun s).pins = s.pins ∧ (jwRun s).resetAsserted =
      s.resetAsserted ∧ (jwRun s).oracle = s.oracle ∧ (jwRun s).pending = s.pending := by
  unfold jwRun; simp

@[simp] theorem fuAdmissionClosed_frame (s : State) : (fuAdmissionClosed s).tb = s.tb ∧ (fuAdmissionClosed s).su =
      s.su ∧ (fuAdmissionClosed s).os = s.os ∧ (fuAdmissionClosed s).gu = s.gu ∧ (fuAdmissionClosed s).cx = s.cx ∧
      (fuAdmissionClosed s).jw = s.jw ∧ (fuAdmissionClosed s).cp = s.cp ∧ (fuAdmissionClosed s).ev = s.ev ∧
      (fuAdmissionClosed s).pins = s.pins ∧ (fuAdmissionClosed s).resetAsserted = s.resetAsserted ∧
      (fuAdmissionClosed s).oracle = s.oracle ∧ (fuAdmissionClosed s).pending = s.pending := by
  unfold fuAdmissionClosed; simp

@[simp] theorem fuEvaluate_frame (s : State) : (fuEvaluate s).tb = s.tb ∧ (fuEvaluate s).su = s.su ∧ (fuEvaluate
      s).os = s.os ∧ (fuEvaluate s).gu = s.gu ∧ (fuEvaluate s).cx = s.cx ∧ (fuEvaluate s).jw = s.jw ∧ (fuEvaluate
      s).cp = s.cp ∧ (fuEvaluate s).ev = s.ev ∧ (fuEvaluate s).bp = s.bp ∧ (fuEvaluate s).pins = s.pins ∧
      (fuEvaluate s).resetAsserted = s.resetAsserted ∧ (fuEvaluate s).oracle = s.oracle ∧ (fuEvaluate s).pending =
      s.pending := by
  unfold fuEvaluate; simp

@[simp] theorem requestSteps_frame (sl : Slot) (s : State) : (requestSteps sl s).tb = s.tb ∧ (requestSteps sl s).fu
      = s.fu ∧ (requestSteps sl s).su = s.su ∧ (requestSteps sl s).os = s.os ∧ (requestSteps sl s).gu = s.gu ∧
      (requestSteps sl s).cx = s.cx ∧ (requestSteps sl s).jw = s.jw ∧ (requestSteps sl s).cp = s.cp ∧ (requestSteps
      sl s).ev = s.ev ∧ (requestSteps sl s).pins = s.pins ∧ (requestSteps sl s).resetAsserted = s.resetAsserted ∧
      (requestSteps sl s).oracle = s.oracle ∧ (requestSteps sl s).pending = s.pending := by
  unfold requestSteps; (repeat' split) <;> simp

@[simp] theorem requestHeader_frame (s : State) : (requestHeader s).tb = s.tb ∧ (requestHeader s).su = s.su ∧
      (requestHeader s).os = s.os ∧ (requestHeader s).gu = s.gu ∧ (requestHeader s).cx = s.cx ∧ (requestHeader s).jw
      = s.jw ∧ (requestHeader s).cp = s.cp ∧ (requestHeader s).ev = s.ev ∧ (requestHeader s).pins = s.pins ∧
      (requestHeader s).resetAsserted = s.resetAsserted ∧ (requestHeader s).oracle = s.oracle ∧ (requestHeader
      s).pending = s.pending := by
  unfold requestHeader; (repeat' split) <;> simp

@[simp] theorem requestLink_frame (s : State) : (requestLink s).tb = s.tb ∧ (requestLink s).su = s.su ∧ (requestLink
      s).os = s.os ∧ (requestLink s).gu = s.gu ∧ (requestLink s).cx = s.cx ∧ (requestLink s).jw = s.jw ∧
      (requestLink s).cp = s.cp ∧ (requestLink s).pins = s.pins ∧ (requestLink s).resetAsserted = s.resetAsserted ∧
      (requestLink s).oracle = s.oracle ∧ (requestLink s).pending = s.pending := by
  unfold requestLink; (repeat' split) <;> simp

@[simp] theorem requestRead_frame (s : State) : (requestRead s).tb = s.tb ∧ (requestRead s).su = s.su ∧ (requestRead
      s).os = s.os ∧ (requestRead s).gu = s.gu ∧ (requestRead s).cx = s.cx ∧ (requestRead s).jw = s.jw ∧
      (requestRead s).cp = s.cp ∧ (requestRead s).pins = s.pins ∧ (requestRead s).resetAsserted = s.resetAsserted ∧
      (requestRead s).oracle = s.oracle ∧ (requestRead s).pending = s.pending := by
  unfold requestRead; (repeat' split) <;> simp

@[simp] theorem requestRetire_frame (sl : Slot) (s : State) : (requestRetire sl s).tb = s.tb ∧ (requestRetire sl
      s).fu = s.fu ∧ (requestRetire sl s).su = s.su ∧ (requestRetire sl s).os = s.os ∧ (requestRetire sl s).gu =
      s.gu ∧ (requestRetire sl s).cx = s.cx ∧ (requestRetire sl s).jw = s.jw ∧ (requestRetire sl s).cp = s.cp ∧
      (requestRetire sl s).ev = s.ev ∧ (requestRetire sl s).pins = s.pins ∧ (requestRetire sl s).resetAsserted =
      s.resetAsserted ∧ (requestRetire sl s).oracle = s.oracle ∧ (requestRetire sl s).pending = s.pending := by
  unfold requestRetire; simp

@[simp] theorem fuPump_frame (s : State) : (fuPump s).tb = s.tb ∧ (fuPump s).su = s.su ∧ (fuPump s).os = s.os ∧
      (fuPump s).gu = s.gu ∧ (fuPump s).cx = s.cx ∧ (fuPump s).jw = s.jw ∧ (fuPump s).cp = s.cp ∧ (fuPump s).pins =
      s.pins ∧ (fuPump s).resetAsserted = s.resetAsserted ∧ (fuPump s).oracle = s.oracle ∧ (fuPump s).pending =
      s.pending := by
  unfold fuPump; (repeat' split) <;> simp

@[simp] theorem reportStarved_frame (s : State) : (reportStarved s).tb = s.tb ∧ (reportStarved s).su = s.su ∧
      (reportStarved s).os = s.os ∧ (reportStarved s).gu = s.gu ∧ (reportStarved s).cx = s.cx ∧ (reportStarved s).jw
      = s.jw ∧ (reportStarved s).cp = s.cp ∧ (reportStarved s).bp = s.bp ∧ (reportStarved s).pins = s.pins ∧
      (reportStarved s).resetAsserted = s.resetAsserted ∧ (reportStarved s).oracle = s.oracle ∧ (reportStarved
      s).pending = s.pending := by
  unfold reportStarved; (repeat' split) <;> simp

@[simp] theorem osResolve_frame (s : State) : (osResolve s).tb = s.tb ∧ (osResolve s).fu = s.fu ∧ (osResolve s).su =
      s.su ∧ (osResolve s).cx = s.cx ∧ (osResolve s).jw = s.jw ∧ (osResolve s).cp = s.cp ∧ (osResolve s).bp = s.bp ∧
      (osResolve s).pins = s.pins ∧ (osResolve s).resetAsserted = s.resetAsserted ∧ (osResolve s).oracle = s.oracle
      ∧ (osResolve s).pending = s.pending := by
  unfold osResolve; simp

@[simp] theorem osEvent_frame (f : OutputStage → OutputStage) (s : State) : (osEvent f s).tb = s.tb ∧ (osEvent f
      s).fu = s.fu ∧ (osEvent f s).su = s.su ∧ (osEvent f s).cx = s.cx ∧ (osEvent f s).jw = s.jw ∧ (osEvent f s).cp
      = s.cp ∧ (osEvent f s).bp = s.bp ∧ (osEvent f s).pins = s.pins ∧ (osEvent f s).resetAsserted = s.resetAsserted
      ∧ (osEvent f s).oracle = s.oracle ∧ (osEvent f s).pending = s.pending := by
  unfold osEvent; simp

@[simp] theorem suppressShoot_frame (s : State) : (suppressShoot s).tb = s.tb ∧ (suppressShoot s).fu = s.fu ∧
      (suppressShoot s).su = s.su ∧ (suppressShoot s).gu = s.gu ∧ (suppressShoot s).cx = s.cx ∧ (suppressShoot s).cp
      = s.cp ∧ (suppressShoot s).bp = s.bp ∧ (suppressShoot s).pins = s.pins ∧ (suppressShoot s).resetAsserted =
      s.resetAsserted ∧ (suppressShoot s).oracle = s.oracle ∧ (suppressShoot s).pending = s.pending := by
  unfold suppressShoot
  refine ⟨?_, ?_, ?_, ?_, ?_, ?_, ?_, ?_, ?_, ?_, ?_⟩ <;>
    exact foldl_keeps _ _ (fun s k => by simp) _ _

@[simp] theorem makeChange_frame (c : Change) (s : State) : (makeChange s c).tb = s.tb ∧ (makeChange s c).fu = s.fu
      ∧ (makeChange s c).su = s.su ∧ (makeChange s c).gu = s.gu ∧ (makeChange s c).cx = s.cx ∧ (makeChange s c).cp =
      s.cp ∧ (makeChange s c).bp = s.bp ∧ (makeChange s c).pins = s.pins ∧ (makeChange s c).resetAsserted =
      s.resetAsserted ∧ (makeChange s c).oracle = s.oracle ∧ (makeChange s c).pending = s.pending := by
  unfold makeChange; simp

@[simp] theorem osBatch_frame (cs : List Change) (s : State) : (osBatch cs s).tb = s.tb ∧ (osBatch cs s).fu = s.fu ∧
      (osBatch cs s).su = s.su ∧ (osBatch cs s).cx = s.cx ∧ (osBatch cs s).cp = s.cp ∧ (osBatch cs s).bp = s.bp ∧
      (osBatch cs s).pins = s.pins ∧ (osBatch cs s).resetAsserted = s.resetAsserted ∧ (osBatch cs s).oracle =
      s.oracle ∧ (osBatch cs s).pending = s.pending := by
  unfold osBatch; split
  · simp
  · simp only [osResolve_frame]
    refine ⟨?_, ?_, ?_, ?_, ?_, ?_, ?_, ?_, ?_, ?_⟩ <;> exact foldl_keeps _ _ (fun s c => by simp) _ _

@[simp] theorem osEndLevels_frame (s : State) : (osEndLevels s).tb = s.tb ∧ (osEndLevels s).fu = s.fu ∧ (osEndLevels
      s).su = s.su ∧ (osEndLevels s).cx = s.cx ∧ (osEndLevels s).cp = s.cp ∧ (osEndLevels s).bp = s.bp ∧
      (osEndLevels s).pins = s.pins ∧ (osEndLevels s).resetAsserted = s.resetAsserted ∧ (osEndLevels s).oracle =
      s.oracle ∧ (osEndLevels s).pending = s.pending := by
  unfold osEndLevels; simp

@[simp] theorem discardAgenda_frame (s : State) : (discardAgenda s).tb = s.tb ∧ (discardAgenda s).os = s.os ∧
      (discardAgenda s).gu = s.gu ∧ (discardAgenda s).cx = s.cx ∧ (discardAgenda s).jw = s.jw ∧ (discardAgenda s).cp
      = s.cp ∧ (discardAgenda s).ev = s.ev ∧ (discardAgenda s).bp = s.bp ∧ (discardAgenda s).pins = s.pins ∧
      (discardAgenda s).resetAsserted = s.resetAsserted ∧ (discardAgenda s).oracle = s.oracle ∧ (discardAgenda
      s).pending = s.pending := by
  unfold discardAgenda; simp

@[simp] theorem noticeClosed_frame (s : State) : (noticeClosed s).tb = s.tb ∧ (noticeClosed s).su = s.su ∧
      (noticeClosed s).os = s.os ∧ (noticeClosed s).gu = s.gu ∧ (noticeClosed s).cx = s.cx ∧ (noticeClosed s).jw =
      s.jw ∧ (noticeClosed s).cp = s.cp ∧ (noticeClosed s).ev = s.ev ∧ (noticeClosed s).pins = s.pins ∧
      (noticeClosed s).resetAsserted = s.resetAsserted ∧ (noticeClosed s).oracle = s.oracle ∧ (noticeClosed
      s).pending = s.pending := by
  unfold noticeClosed; (repeat' split) <;> simp

@[simp] theorem enterStopping_frame (o : ProgramOutcome) (r : Reason) (s : State) : (enterStopping o r s).tb = s.tb
      ∧ (enterStopping o r s).cx = s.cx ∧ (enterStopping o r s).cp = s.cp ∧ (enterStopping o r s).pins = s.pins ∧
      (enterStopping o r s).resetAsserted = s.resetAsserted ∧ (enterStopping o r s).oracle = s.oracle ∧
      (enterStopping o r s).pending = s.pending := by
  unfold enterStopping; (repeat' split) <;> simp

@[simp] theorem suFault_frame (r : Reason) (s : State) : (suFault r s).tb = s.tb ∧ (suFault r s).cx = s.cx ∧
      (suFault r s).cp = s.cp ∧ (suFault r s).pins = s.pins ∧ (suFault r s).resetAsserted = s.resetAsserted ∧
      (suFault r s).oracle = s.oracle ∧ (suFault r s).pending = s.pending := by
  unfold suFault; (repeat' split) <;> simp

@[simp] theorem takeTripAbort_frame (s : State) : (takeTripAbort s).tb = s.tb ∧ (takeTripAbort s).cx = s.cx ∧
      (takeTripAbort s).cp = s.cp ∧ (takeTripAbort s).pins = s.pins ∧ (takeTripAbort s).resetAsserted =
      s.resetAsserted ∧ (takeTripAbort s).oracle = s.oracle ∧ (takeTripAbort s).pending = s.pending := by
  unfold takeTripAbort; (repeat' split) <;> simp

@[simp] theorem coverLines_frame (m : Half) (s : State) : (coverLines m s).tb = s.tb ∧ (coverLines m s).fu = s.fu ∧
      (coverLines m s).su = s.su ∧ (coverLines m s).cx = s.cx ∧ (coverLines m s).jw = s.jw ∧ (coverLines m s).cp =
      s.cp ∧ (coverLines m s).bp = s.bp ∧ (coverLines m s).pins = s.pins ∧ (coverLines m s).resetAsserted =
      s.resetAsserted ∧ (coverLines m s).oracle = s.oracle ∧ (coverLines m s).pending = s.pending := by
  unfold coverLines; simp

@[simp] theorem deliverTrip_frame (s : State) : (deliverTrip s).tb = s.tb ∧ (deliverTrip s).cx = s.cx ∧ (deliverTrip
      s).cp = s.cp ∧ (deliverTrip s).pins = s.pins ∧ (deliverTrip s).resetAsserted = s.resetAsserted ∧ (deliverTrip
      s).pending = s.pending := by
  unfold deliverTrip; (repeat' split) <;> simp

@[simp] theorem escalateTrip_frame (n : Fin 4) (s : State) : (escalateTrip n s).fu = s.fu ∧ (escalateTrip n s).su =
      s.su ∧ (escalateTrip n s).os = s.os ∧ (escalateTrip n s).cx = s.cx ∧ (escalateTrip n s).jw = s.jw ∧
      (escalateTrip n s).cp = s.cp ∧ (escalateTrip n s).ev = s.ev ∧ (escalateTrip n s).bp = s.bp ∧ (escalateTrip n
      s).pins = s.pins ∧ (escalateTrip n s).resetAsserted = s.resetAsserted ∧ (escalateTrip n s).oracle = s.oracle ∧
      (escalateTrip n s).pending = s.pending := by
  simp [escalateTrip, takeTripAction]

@[simp] theorem reportEscalation_frame (n : Fin 4) (s : State) : (reportEscalation n s).tb = s.tb ∧
      (reportEscalation n s).fu = s.fu ∧ (reportEscalation n s).su = s.su ∧ (reportEscalation n s).os = s.os ∧
      (reportEscalation n s).gu = s.gu ∧ (reportEscalation n s).cx = s.cx ∧ (reportEscalation n s).cp = s.cp ∧
      (reportEscalation n s).bp = s.bp ∧ (reportEscalation n s).pins = s.pins ∧ (reportEscalation n s).resetAsserted
      = s.resetAsserted ∧ (reportEscalation n s).oracle = s.oracle ∧ (reportEscalation n s).pending = s.pending :=
      by
  unfold reportEscalation; simp

@[simp] theorem escalate_frame (n : Fin 4) (s : State) : (escalate n s).fu = s.fu ∧ (escalate n s).su = s.su ∧
      (escalate n s).os = s.os ∧ (escalate n s).cx = s.cx ∧ (escalate n s).cp = s.cp ∧ (escalate n s).bp = s.bp ∧
      (escalate n s).pins = s.pins ∧ (escalate n s).resetAsserted = s.resetAsserted ∧ (escalate n s).oracle =
      s.oracle ∧ (escalate n s).pending = s.pending := by
  unfold escalate; simp

@[simp] theorem judgeHold_frame (n : Fin 4) (s : State) : (judgeHold s n).fu = s.fu ∧ (judgeHold s n).su = s.su ∧
      (judgeHold s n).os = s.os ∧ (judgeHold s n).cx = s.cx ∧ (judgeHold s n).cp = s.cp ∧ (judgeHold s n).bp = s.bp
      ∧ (judgeHold s n).pins = s.pins ∧ (judgeHold s n).resetAsserted = s.resetAsserted ∧ (judgeHold s n).oracle =
      s.oracle ∧ (judgeHold s n).pending = s.pending := by
  unfold judgeHold; (repeat' split) <;> simp

@[simp] theorem guNewLimits_frame (m : Limits) (s : State) : (guNewLimits m s).fu = s.fu ∧ (guNewLimits m s).su =
      s.su ∧ (guNewLimits m s).os = s.os ∧ (guNewLimits m s).cx = s.cx ∧ (guNewLimits m s).cp = s.cp ∧ (guNewLimits
      m s).bp = s.bp ∧ (guNewLimits m s).pins = s.pins ∧ (guNewLimits m s).resetAsserted = s.resetAsserted ∧
      (guNewLimits m s).oracle = s.oracle ∧ (guNewLimits m s).pending = s.pending := by
  unfold guNewLimits
  refine ⟨?_, ?_, ?_, ?_, ?_, ?_, ?_, ?_, ?_, ?_⟩ <;> exact foldl_keeps _ _ (fun s n => by simp) _ _

@[simp] theorem osNewDeadTimes_frame (m : Limits) (s : State) : (osNewDeadTimes m s).tb = s.tb ∧ (osNewDeadTimes m
      s).fu = s.fu ∧ (osNewDeadTimes m s).su = s.su ∧ (osNewDeadTimes m s).cx = s.cx ∧ (osNewDeadTimes m s).jw =
      s.jw ∧ (osNewDeadTimes m s).cp = s.cp ∧ (osNewDeadTimes m s).bp = s.bp ∧ (osNewDeadTimes m s).pins = s.pins ∧
      (osNewDeadTimes m s).resetAsserted = s.resetAsserted ∧ (osNewDeadTimes m s).oracle = s.oracle ∧
      (osNewDeadTimes m s).pending = s.pending := by
  unfold osNewDeadTimes; simp

@[simp] theorem deliverLimits_frame (m : Limits) (s : State) : (deliverLimits m s).fu = s.fu ∧ (deliverLimits m
      s).su = s.su ∧ (deliverLimits m s).cx = s.cx ∧ (deliverLimits m s).cp = s.cp ∧ (deliverLimits m s).bp = s.bp ∧
      (deliverLimits m s).pins = s.pins ∧ (deliverLimits m s).resetAsserted = s.resetAsserted ∧ (deliverLimits m
      s).pending = s.pending := by
  unfold deliverLimits; (repeat' split) <;> simp

@[simp] theorem applyStaged_frame (s : State) : (applyStaged s).tb = s.tb ∧ (applyStaged s).fu = s.fu ∧ (applyStaged
      s).su = s.su ∧ (applyStaged s).os = s.os ∧ (applyStaged s).gu = s.gu ∧ (applyStaged s).cx = s.cx ∧
      (applyStaged s).bp = s.bp ∧ (applyStaged s).pins = s.pins ∧ (applyStaged s).resetAsserted = s.resetAsserted ∧
      (applyStaged s).oracle = s.oracle ∧ (applyStaged s).pending = s.pending := by
  unfold applyStaged; (repeat' split) <;> simp

@[simp] theorem completeStop_frame (b : Bool) (s : State) : (completeStop b s).tb = s.tb ∧ (completeStop b s).fu =
      s.fu ∧ (completeStop b s).su = s.su ∧ (completeStop b s).os = s.os ∧ (completeStop b s).gu = s.gu ∧
      (completeStop b s).cx = s.cx ∧ (completeStop b s).jw = s.jw ∧ (completeStop b s).bp = s.bp ∧ (completeStop b
      s).pins = s.pins ∧ (completeStop b s).resetAsserted = s.resetAsserted ∧ (completeStop b s).oracle = s.oracle ∧
      (completeStop b s).pending = s.pending := by
  unfold completeStop; (repeat' split) <;> simp

@[simp] theorem programEnd_frame (b : Bool) (s : State) : (programEnd b s).fu = s.fu ∧ (programEnd b s).cx = s.cx ∧
      (programEnd b s).bp = s.bp ∧ (programEnd b s).pins = s.pins ∧ (programEnd b s).resetAsserted = s.resetAsserted
      ∧ (programEnd b s).pending = s.pending := by
  unfold programEnd; (repeat' split) <;> simp

@[simp] theorem takeRetirementDone_frame (s : State) : (takeRetirementDone s).cx = s.cx ∧ (takeRetirementDone s).bp
      = s.bp ∧ (takeRetirementDone s).pins = s.pins ∧ (takeRetirementDone s).resetAsserted = s.resetAsserted ∧
      (takeRetirementDone s).pending = s.pending := by
  unfold takeRetirementDone; (repeat' split) <;> simp

@[simp] theorem takeNotices_frame (s : State) : (takeNotices s).cx = s.cx ∧ (takeNotices s).pins = s.pins ∧
      (takeNotices s).resetAsserted = s.resetAsserted ∧ (takeNotices s).pending = s.pending := by
  unfold takeNotices; simp

@[simp] theorem pump_frame (s : State) : (pump s).tb = s.tb ∧ (pump s).su = s.su ∧ (pump s).os = s.os ∧ (pump s).gu
      = s.gu ∧ (pump s).cx = s.cx ∧ (pump s).pins = s.pins ∧ (pump s).resetAsserted = s.resetAsserted ∧ (pump
      s).oracle = s.oracle ∧ (pump s).pending = s.pending := by
  unfold pump; simp

@[simp] theorem settle_frame (s : State) : (settle s).cx = s.cx ∧ (settle s).pins = s.pins ∧ (settle
      s).resetAsserted = s.resetAsserted ∧ (settle s).pending = s.pending := by
  unfold settle; simp

@[simp] theorem noticeReleased_frame (e : Entry) (s : State) : (noticeReleased e s).tb = s.tb ∧ (noticeReleased e
      s).su = s.su ∧ (noticeReleased e s).os = s.os ∧ (noticeReleased e s).gu = s.gu ∧ (noticeReleased e s).cx =
      s.cx ∧ (noticeReleased e s).jw = s.jw ∧ (noticeReleased e s).cp = s.cp ∧ (noticeReleased e s).ev = s.ev ∧
      (noticeReleased e s).bp = s.bp ∧ (noticeReleased e s).pins = s.pins ∧ (noticeReleased e s).resetAsserted =
      s.resetAsserted ∧ (noticeReleased e s).oracle = s.oracle ∧ (noticeReleased e s).pending = s.pending := by
  unfold noticeReleased; (repeat' split) <;> simp

@[simp] theorem applyKind_frame (e : Entry) (s : State) : (applyKind e s).tb = s.tb ∧ (applyKind e s).fu = s.fu ∧
      (applyKind e s).os = s.os ∧ (applyKind e s).gu = s.gu ∧ (applyKind e s).cx = s.cx ∧ (applyKind e s).bp = s.bp
      ∧ (applyKind e s).pins = s.pins ∧ (applyKind e s).resetAsserted = s.resetAsserted ∧ (applyKind e s).oracle =
      s.oracle ∧ (applyKind e s).pending = s.pending := by
  cases e with | mk due kind _ _ _ _ _ _ _ _ _ => cases kind <;> simp [applyKind, applyMark, applyLimitsEntry] <;>
    (repeat' split) <;> simp

@[simp] theorem applyEntry_frame (e : Entry) (s : State) : (applyEntry s e).tb = s.tb ∧ (applyEntry s e).os = s.os ∧
      (applyEntry s e).gu = s.gu ∧ (applyEntry s e).cx = s.cx ∧ (applyEntry s e).bp = s.bp ∧ (applyEntry s e).pins =
      s.pins ∧ (applyEntry s e).resetAsserted = s.resetAsserted ∧ (applyEntry s e).oracle = s.oracle ∧ (applyEntry s
      e).pending = s.pending := by
  unfold applyEntry; simp

@[simp] theorem drainEnd_frame (s : State) : (drainEnd s).tb = s.tb ∧ (drainEnd s).cx = s.cx ∧ (drainEnd s).cp =
      s.cp ∧ (drainEnd s).pins = s.pins ∧ (drainEnd s).resetAsserted = s.resetAsserted ∧ (drainEnd s).oracle =
      s.oracle ∧ (drainEnd s).pending = s.pending := by
  unfold drainEnd; (repeat' split) <;> simp

@[simp] theorem setCursor_frame (t : Nat) (s : State) : (setCursor t s).tb = s.tb ∧ (setCursor t s).fu = s.fu ∧
      (setCursor t s).os = s.os ∧ (setCursor t s).gu = s.gu ∧ (setCursor t s).cx = s.cx ∧ (setCursor t s).jw = s.jw
      ∧ (setCursor t s).cp = s.cp ∧ (setCursor t s).ev = s.ev ∧ (setCursor t s).bp = s.bp ∧ (setCursor t s).pins =
      s.pins ∧ (setCursor t s).resetAsserted = s.resetAsserted ∧ (setCursor t s).oracle = s.oracle ∧ (setCursor t
      s).pending = s.pending := by
  unfold setCursor; simp

@[simp] theorem numberStep_frame (q : QueuedStep) (e : Option Entry) (b : Bool) (s : State) : (numberStep q e b
      s).tb = s.tb ∧ (numberStep q e b s).os = s.os ∧ (numberStep q e b s).gu = s.gu ∧ (numberStep q e b s).cx =
      s.cx ∧ (numberStep q e b s).jw = s.jw ∧ (numberStep q e b s).cp = s.cp ∧ (numberStep q e b s).bp = s.bp ∧
      (numberStep q e b s).pins = s.pins ∧ (numberStep q e b s).resetAsserted = s.resetAsserted ∧ (numberStep q e b
      s).oracle = s.oracle ∧ (numberStep q e b s).pending = s.pending := by
  unfold numberStep; simp

@[simp] theorem closeAdmission_frame (s : State) : (closeAdmission s).tb = s.tb ∧ (closeAdmission s).os = s.os ∧
      (closeAdmission s).gu = s.gu ∧ (closeAdmission s).cx = s.cx ∧ (closeAdmission s).jw = s.jw ∧ (closeAdmission
      s).cp = s.cp ∧ (closeAdmission s).ev = s.ev ∧ (closeAdmission s).pins = s.pins ∧ (closeAdmission
      s).resetAsserted = s.resetAsserted ∧ (closeAdmission s).oracle = s.oracle ∧ (closeAdmission s).pending =
      s.pending := by
  unfold closeAdmission; simp

end Sys2Proof.Machine
end

