-- ==== Sys2Proof/Laws/Events.lean ====
section
/-! SUPPORT. Events.lean: what the events of the blocks leave unchanged, one simp lemma per operation. -/
namespace Sys2Proof.Machine

set_option Elab.async false

@[simp] theorem takeDeferredRise_frame (n : Fin 16) (s : State) : (takeDeferredRise n s).tb = s.tb ∧
      (takeDeferredRise n s).fu = s.fu ∧ (takeDeferredRise n s).su = s.su ∧ (takeDeferredRise n s).cx = s.cx ∧
      (takeDeferredRise n s).jw = s.jw ∧ (takeDeferredRise n s).cp = s.cp ∧ (takeDeferredRise n s).ev = s.ev ∧
      (takeDeferredRise n s).bp = s.bp ∧ (takeDeferredRise n s).pins = s.pins ∧ (takeDeferredRise n s).resetAsserted
      = s.resetAsserted ∧ (takeDeferredRise n s).oracle = s.oracle ∧ (takeDeferredRise n s).pending = s.pending :=
      by
  unfold takeDeferredRise; (repeat' split) <;> simp

@[simp] theorem takeLastFallDiscard_frame (n : Fin 16) (s : State) : (takeLastFallDiscard n s).tb = s.tb ∧
      (takeLastFallDiscard n s).fu = s.fu ∧ (takeLastFallDiscard n s).su = s.su ∧ (takeLastFallDiscard n s).gu =
      s.gu ∧ (takeLastFallDiscard n s).cx = s.cx ∧ (takeLastFallDiscard n s).jw = s.jw ∧ (takeLastFallDiscard n
      s).cp = s.cp ∧ (takeLastFallDiscard n s).ev = s.ev ∧ (takeLastFallDiscard n s).bp = s.bp ∧
      (takeLastFallDiscard n s).pins = s.pins ∧ (takeLastFallDiscard n s).resetAsserted = s.resetAsserted ∧
      (takeLastFallDiscard n s).oracle = s.oracle ∧ (takeLastFallDiscard n s).pending = s.pending := by
  unfold takeLastFallDiscard; (repeat' split) <;> simp

@[simp] theorem clampOn_frame (n : Fin 4) (s : State) : (clampOn n s).tb = s.tb ∧ (clampOn n s).fu = s.fu ∧ (clampOn
      n s).su = s.su ∧ (clampOn n s).cx = s.cx ∧ (clampOn n s).jw = s.jw ∧ (clampOn n s).cp = s.cp ∧ (clampOn n
      s).bp = s.bp ∧ (clampOn n s).pins = s.pins ∧ (clampOn n s).resetAsserted = s.resetAsserted ∧ (clampOn n
      s).oracle = s.oracle ∧ (clampOn n s).pending = s.pending := by
  unfold clampOn; simp

@[simp] theorem clampOff_frame (n : Fin 4) (s : State) : (clampOff n s).tb = s.tb ∧ (clampOff n s).fu = s.fu ∧
      (clampOff n s).su = s.su ∧ (clampOff n s).cx = s.cx ∧ (clampOff n s).jw = s.jw ∧ (clampOff n s).cp = s.cp ∧
      (clampOff n s).bp = s.bp ∧ (clampOff n s).pins = s.pins ∧ (clampOff n s).resetAsserted = s.resetAsserted ∧
      (clampOff n s).oracle = s.oracle ∧ (clampOff n s).pending = s.pending := by
  unfold clampOff; simp

@[simp] theorem activateInput_frame (n : Fin 4) (s : State) : (activateInput n s).tb = s.tb ∧ (activateInput n s).fu
      = s.fu ∧ (activateInput n s).su = s.su ∧ (activateInput n s).os = s.os ∧ (activateInput n s).cx = s.cx ∧
      (activateInput n s).jw = s.jw ∧ (activateInput n s).cp = s.cp ∧ (activateInput n s).ev = s.ev ∧ (activateInput
      n s).bp = s.bp ∧ (activateInput n s).pins = s.pins ∧ (activateInput n s).resetAsserted = s.resetAsserted ∧
      (activateInput n s).oracle = s.oracle ∧ (activateInput n s).pending = s.pending := by
  unfold activateInput; simp

@[simp] theorem releaseInput_frame (n : Fin 4) (s : State) : (releaseInput n s).tb = s.tb ∧ (releaseInput n s).fu =
      s.fu ∧ (releaseInput n s).su = s.su ∧ (releaseInput n s).os = s.os ∧ (releaseInput n s).cx = s.cx ∧
      (releaseInput n s).jw = s.jw ∧ (releaseInput n s).cp = s.cp ∧ (releaseInput n s).ev = s.ev ∧ (releaseInput n
      s).bp = s.bp ∧ (releaseInput n s).pins = s.pins ∧ (releaseInput n s).resetAsserted = s.resetAsserted ∧
      (releaseInput n s).oracle = s.oracle ∧ (releaseInput n s).pending = s.pending := by
  unfold releaseInput; simp

@[simp] theorem reportRelease_frame (n : Fin 4) (s : State) : (reportRelease n s).tb = s.tb ∧ (reportRelease n s).fu
      = s.fu ∧ (reportRelease n s).su = s.su ∧ (reportRelease n s).os = s.os ∧ (reportRelease n s).gu = s.gu ∧
      (reportRelease n s).cx = s.cx ∧ (reportRelease n s).cp = s.cp ∧ (reportRelease n s).bp = s.bp ∧ (reportRelease
      n s).pins = s.pins ∧ (reportRelease n s).resetAsserted = s.resetAsserted ∧ (reportRelease n s).oracle =
      s.oracle ∧ (reportRelease n s).pending = s.pending := by
  unfold reportRelease; simp

@[simp] theorem takeTripAction_frame (n : Fin 4) (s : State) : (takeTripAction n s).tb = s.tb ∧ (takeTripAction n
      s).fu = s.fu ∧ (takeTripAction n s).su = s.su ∧ (takeTripAction n s).os = s.os ∧ (takeTripAction n s).cx =
      s.cx ∧ (takeTripAction n s).jw = s.jw ∧ (takeTripAction n s).cp = s.cp ∧ (takeTripAction n s).ev = s.ev ∧
      (takeTripAction n s).bp = s.bp ∧ (takeTripAction n s).pins = s.pins ∧ (takeTripAction n s).resetAsserted =
      s.resetAsserted ∧ (takeTripAction n s).oracle = s.oracle ∧ (takeTripAction n s).pending = s.pending := by
  unfold takeTripAction; simp

@[simp] theorem reportActivation_frame (n : Fin 4) (s : State) : (reportActivation n s).tb = s.tb ∧
      (reportActivation n s).fu = s.fu ∧ (reportActivation n s).su = s.su ∧ (reportActivation n s).os = s.os ∧
      (reportActivation n s).gu = s.gu ∧ (reportActivation n s).cx = s.cx ∧ (reportActivation n s).cp = s.cp ∧
      (reportActivation n s).bp = s.bp ∧ (reportActivation n s).pins = s.pins ∧ (reportActivation n s).resetAsserted
      = s.resetAsserted ∧ (reportActivation n s).oracle = s.oracle ∧ (reportActivation n s).pending = s.pending :=
      by
  unfold reportActivation; (repeat' split) <;> simp

@[simp] theorem notifyActivation_frame (n : Fin 4) (s : State) : (notifyActivation n s).fu = s.fu ∧
      (notifyActivation n s).su = s.su ∧ (notifyActivation n s).cx = s.cx ∧ (notifyActivation n s).jw = s.jw ∧
      (notifyActivation n s).cp = s.cp ∧ (notifyActivation n s).bp = s.bp ∧ (notifyActivation n s).pins = s.pins ∧
      (notifyActivation n s).resetAsserted = s.resetAsserted ∧ (notifyActivation n s).oracle = s.oracle ∧
      (notifyActivation n s).pending = s.pending := by
  unfold notifyActivation; (repeat' split) <;> simp

@[simp] theorem tripIfTrip_frame (n : Fin 4) (s : State) : (tripIfTrip n s).tb = s.tb ∧ (tripIfTrip n s).fu = s.fu ∧
      (tripIfTrip n s).su = s.su ∧ (tripIfTrip n s).os = s.os ∧ (tripIfTrip n s).cx = s.cx ∧ (tripIfTrip n s).jw =
      s.jw ∧ (tripIfTrip n s).cp = s.cp ∧ (tripIfTrip n s).ev = s.ev ∧ (tripIfTrip n s).bp = s.bp ∧ (tripIfTrip n
      s).pins = s.pins ∧ (tripIfTrip n s).resetAsserted = s.resetAsserted ∧ (tripIfTrip n s).oracle = s.oracle ∧
      (tripIfTrip n s).pending = s.pending := by
  unfold tripIfTrip; (repeat' split) <;> simp

@[simp] theorem activate_frame (n : Fin 4) (s : State) : (activate n s).fu = s.fu ∧ (activate n s).su = s.su ∧
      (activate n s).cx = s.cx ∧ (activate n s).cp = s.cp ∧ (activate n s).bp = s.bp ∧ (activate n s).pins = s.pins
      ∧ (activate n s).resetAsserted = s.resetAsserted ∧ (activate n s).oracle = s.oracle ∧ (activate n s).pending =
      s.pending := by
  unfold activate; simp

@[simp] theorem notifyRelease_frame (n : Fin 4) (s : State) : (notifyRelease n s).fu = s.fu ∧ (notifyRelease n s).su
      = s.su ∧ (notifyRelease n s).cx = s.cx ∧ (notifyRelease n s).jw = s.jw ∧ (notifyRelease n s).cp = s.cp ∧
      (notifyRelease n s).bp = s.bp ∧ (notifyRelease n s).pins = s.pins ∧ (notifyRelease n s).resetAsserted =
      s.resetAsserted ∧ (notifyRelease n s).oracle = s.oracle ∧ (notifyRelease n s).pending = s.pending := by
  unfold notifyRelease; (repeat' split) <;> simp

@[simp] theorem release_frame (n : Fin 4) (s : State) : (release n s).fu = s.fu ∧ (release n s).su = s.su ∧ (release
      n s).cx = s.cx ∧ (release n s).cp = s.cp ∧ (release n s).bp = s.bp ∧ (release n s).pins = s.pins ∧ (release n
      s).resetAsserted = s.resetAsserted ∧ (release n s).oracle = s.oracle ∧ (release n s).pending = s.pending := by
  unfold release; simp

@[simp] theorem levelAsserted_frame (n : Fin 4) (s : State) : (levelAsserted n s).tb = s.tb ∧ (levelAsserted n s).fu
      = s.fu ∧ (levelAsserted n s).su = s.su ∧ (levelAsserted n s).os = s.os ∧ (levelAsserted n s).cx = s.cx ∧
      (levelAsserted n s).jw = s.jw ∧ (levelAsserted n s).cp = s.cp ∧ (levelAsserted n s).ev = s.ev ∧ (levelAsserted
      n s).bp = s.bp ∧ (levelAsserted n s).resetAsserted = s.resetAsserted ∧ (levelAsserted n s).oracle = s.oracle ∧
      (levelAsserted n s).pending = s.pending := by
  unfold levelAsserted; simp

@[simp] theorem levelDeasserted_frame (n : Fin 4) (s : State) : (levelDeasserted n s).tb = s.tb ∧ (levelDeasserted n
      s).fu = s.fu ∧ (levelDeasserted n s).su = s.su ∧ (levelDeasserted n s).os = s.os ∧ (levelDeasserted n s).cx =
      s.cx ∧ (levelDeasserted n s).jw = s.jw ∧ (levelDeasserted n s).cp = s.cp ∧ (levelDeasserted n s).ev = s.ev ∧
      (levelDeasserted n s).bp = s.bp ∧ (levelDeasserted n s).resetAsserted = s.resetAsserted ∧ (levelDeasserted n
      s).oracle = s.oracle ∧ (levelDeasserted n s).pending = s.pending := by
  unfold levelDeasserted; simp

@[simp] theorem recognizeAssertion_frame (n : Fin 4) (s : State) : (recognizeAssertion n s).fu = s.fu ∧
      (recognizeAssertion n s).su = s.su ∧ (recognizeAssertion n s).cx = s.cx ∧ (recognizeAssertion n s).cp = s.cp ∧
      (recognizeAssertion n s).bp = s.bp ∧ (recognizeAssertion n s).pins = s.pins ∧ (recognizeAssertion n
      s).resetAsserted = s.resetAsserted ∧ (recognizeAssertion n s).oracle = s.oracle ∧ (recognizeAssertion n
      s).pending = s.pending := by
  unfold recognizeAssertion; (repeat' split) <;> simp

@[simp] theorem recognizeDeassertion_frame (n : Fin 4) (s : State) : (recognizeDeassertion n s).fu = s.fu ∧
      (recognizeDeassertion n s).su = s.su ∧ (recognizeDeassertion n s).cx = s.cx ∧ (recognizeDeassertion n s).cp =
      s.cp ∧ (recognizeDeassertion n s).bp = s.bp ∧ (recognizeDeassertion n s).pins = s.pins ∧ (recognizeDeassertion
      n s).resetAsserted = s.resetAsserted ∧ (recognizeDeassertion n s).oracle = s.oracle ∧ (recognizeDeassertion n
      s).pending = s.pending := by
  unfold recognizeDeassertion; (repeat' split) <;> simp

@[simp] theorem clearBlank_frame (n : Fin 4) (s : State) : (clearBlank n s).tb = s.tb ∧ (clearBlank n s).fu = s.fu ∧
      (clearBlank n s).su = s.su ∧ (clearBlank n s).os = s.os ∧ (clearBlank n s).cx = s.cx ∧ (clearBlank n s).jw =
      s.jw ∧ (clearBlank n s).cp = s.cp ∧ (clearBlank n s).ev = s.ev ∧ (clearBlank n s).bp = s.bp ∧ (clearBlank n
      s).pins = s.pins ∧ (clearBlank n s).resetAsserted = s.resetAsserted ∧ (clearBlank n s).oracle = s.oracle ∧
      (clearBlank n s).pending = s.pending := by
  unfold clearBlank; simp

@[simp] theorem judgeBlanked_frame (n : Fin 4) (s : State) : (judgeBlanked n s).fu = s.fu ∧ (judgeBlanked n s).su =
      s.su ∧ (judgeBlanked n s).cx = s.cx ∧ (judgeBlanked n s).cp = s.cp ∧ (judgeBlanked n s).bp = s.bp ∧
      (judgeBlanked n s).pins = s.pins ∧ (judgeBlanked n s).resetAsserted = s.resetAsserted ∧ (judgeBlanked n
      s).oracle = s.oracle ∧ (judgeBlanked n s).pending = s.pending := by
  unfold judgeBlanked; (repeat' split) <;> simp

@[simp] theorem endBlank_frame (n : Fin 4) (s : State) : (endBlank n s).fu = s.fu ∧ (endBlank n s).su = s.su ∧
      (endBlank n s).cx = s.cx ∧ (endBlank n s).cp = s.cp ∧ (endBlank n s).bp = s.bp ∧ (endBlank n s).pins = s.pins
      ∧ (endBlank n s).resetAsserted = s.resetAsserted ∧ (endBlank n s).oracle = s.oracle ∧ (endBlank n s).pending =
      s.pending := by
  unfold endBlank; simp

@[simp] theorem clearLatch_frame (s : State) : (clearLatch s).tb = s.tb ∧ (clearLatch s).fu = s.fu ∧ (clearLatch
      s).su = s.su ∧ (clearLatch s).cx = s.cx ∧ (clearLatch s).cp = s.cp ∧ (clearLatch s).bp = s.bp ∧ (clearLatch
      s).pins = s.pins ∧ (clearLatch s).resetAsserted = s.resetAsserted ∧ (clearLatch s).oracle = s.oracle ∧
      (clearLatch s).pending = s.pending := by
  unfold clearLatch; simp

@[simp] theorem blockJournal_frame (s : State) : (blockJournal s).tb = s.tb ∧ (blockJournal s).fu = s.fu ∧
      (blockJournal s).su = s.su ∧ (blockJournal s).os = s.os ∧ (blockJournal s).gu = s.gu ∧ (blockJournal s).cx =
      s.cx ∧ (blockJournal s).cp = s.cp ∧ (blockJournal s).bp = s.bp ∧ (blockJournal s).pins = s.pins ∧
      (blockJournal s).resetAsserted = s.resetAsserted ∧ (blockJournal s).oracle = s.oracle ∧ (blockJournal
      s).pending = s.pending := by
  unfold blockJournal; simp

@[simp] theorem openSheet_frame (s : State) : (openSheet s).tb = s.tb ∧ (openSheet s).fu = s.fu ∧ (openSheet s).su =
      s.su ∧ (openSheet s).os = s.os ∧ (openSheet s).gu = s.gu ∧ (openSheet s).cx = s.cx ∧ (openSheet s).cp = s.cp ∧
      (openSheet s).ev = s.ev ∧ (openSheet s).bp = s.bp ∧ (openSheet s).pins = s.pins ∧ (openSheet s).resetAsserted
      = s.resetAsserted ∧ (openSheet s).oracle = s.oracle ∧ (openSheet s).pending = s.pending := by
  unfold openSheet; (repeat' split) <;> simp

@[simp] theorem sheetHeaderRead_frame (d : List Byte) (s : State) : (sheetHeaderRead d s).tb = s.tb ∧
      (sheetHeaderRead d s).fu = s.fu ∧ (sheetHeaderRead d s).su = s.su ∧ (sheetHeaderRead d s).os = s.os ∧
      (sheetHeaderRead d s).gu = s.gu ∧ (sheetHeaderRead d s).cx = s.cx ∧ (sheetHeaderRead d s).bp = s.bp ∧
      (sheetHeaderRead d s).pins = s.pins ∧ (sheetHeaderRead d s).resetAsserted = s.resetAsserted ∧ (sheetHeaderRead
      d s).oracle = s.oracle ∧ (sheetHeaderRead d s).pending = s.pending := by
  unfold sheetHeaderRead; (repeat' split) <;> simp

@[simp] theorem sheetHeaderReadError_frame (s : State) : (sheetHeaderReadError s).tb = s.tb ∧ (sheetHeaderReadError
      s).fu = s.fu ∧ (sheetHeaderReadError s).su = s.su ∧ (sheetHeaderReadError s).os = s.os ∧ (sheetHeaderReadError
      s).gu = s.gu ∧ (sheetHeaderReadError s).cx = s.cx ∧ (sheetHeaderReadError s).bp = s.bp ∧ (sheetHeaderReadError
      s).pins = s.pins ∧ (sheetHeaderReadError s).resetAsserted = s.resetAsserted ∧ (sheetHeaderReadError s).oracle
      = s.oracle ∧ (sheetHeaderReadError s).pending = s.pending := by
  unfold sheetHeaderReadError; (repeat' split) <;> simp

@[simp] theorem sheetHeaderReadDiscarded_frame (s : State) : (sheetHeaderReadDiscarded s).tb = s.tb ∧
      (sheetHeaderReadDiscarded s).fu = s.fu ∧ (sheetHeaderReadDiscarded s).su = s.su ∧ (sheetHeaderReadDiscarded
      s).os = s.os ∧ (sheetHeaderReadDiscarded s).gu = s.gu ∧ (sheetHeaderReadDiscarded s).cx = s.cx ∧
      (sheetHeaderReadDiscarded s).bp = s.bp ∧ (sheetHeaderReadDiscarded s).pins = s.pins ∧
      (sheetHeaderReadDiscarded s).resetAsserted = s.resetAsserted ∧ (sheetHeaderReadDiscarded s).oracle = s.oracle
      ∧ (sheetHeaderReadDiscarded s).pending = s.pending := by
  unfold sheetHeaderReadDiscarded; (repeat' split) <;> simp

/-- A discarded header read that ends ERROR touches the JW, the CP and the EV alone. -/
@[simp] theorem sheetHeaderReadDiscardedError_frame (s : State) : (sheetHeaderReadDiscardedError s).tb = s.tb ∧
      (sheetHeaderReadDiscardedError s).fu = s.fu ∧ (sheetHeaderReadDiscardedError s).su = s.su ∧
      (sheetHeaderReadDiscardedError s).os = s.os ∧ (sheetHeaderReadDiscardedError s).gu = s.gu ∧
      (sheetHeaderReadDiscardedError s).cx = s.cx ∧ (sheetHeaderReadDiscardedError s).bp = s.bp ∧
      (sheetHeaderReadDiscardedError s).pins = s.pins ∧
      (sheetHeaderReadDiscardedError s).resetAsserted = s.resetAsserted ∧
      (sheetHeaderReadDiscardedError s).oracle = s.oracle ∧ (sheetHeaderReadDiscardedError s).pending = s.pending := by
  unfold sheetHeaderReadDiscardedError; split <;> simp

/-- Outside CLOSING it faults the journal. -/
theorem sheetHeaderReadDiscardedError_of_not_closing {s : State} (h : s.jw.state ≠ .closing) :
    sheetHeaderReadDiscardedError s = journalFault s := if_neg h

/-- In CLOSING it does what the end OK does. -/
theorem sheetHeaderReadDiscardedError_of_closing {s : State} (h : s.jw.state = .closing) :
    sheetHeaderReadDiscardedError s = sheetHeaderReadDiscarded s := if_pos h

@[simp] theorem recordWriteError_frame (s : State) : (recordWriteError s).tb = s.tb ∧ (recordWriteError s).fu = s.fu
      ∧ (recordWriteError s).su = s.su ∧ (recordWriteError s).os = s.os ∧ (recordWriteError s).gu = s.gu ∧
      (recordWriteError s).cx = s.cx ∧ (recordWriteError s).bp = s.bp ∧ (recordWriteError s).pins = s.pins ∧
      (recordWriteError s).resetAsserted = s.resetAsserted ∧ (recordWriteError s).oracle = s.oracle ∧
      (recordWriteError s).pending = s.pending := by
  unfold recordWriteError; (repeat' split) <;> simp

@[simp] theorem afterHeader_frame (s : State) : (afterHeader s).tb = s.tb ∧ (afterHeader s).fu = s.fu ∧ (afterHeader
      s).su = s.su ∧ (afterHeader s).os = s.os ∧ (afterHeader s).gu = s.gu ∧ (afterHeader s).cx = s.cx ∧
      (afterHeader s).bp = s.bp ∧ (afterHeader s).pins = s.pins ∧ (afterHeader s).resetAsserted = s.resetAsserted ∧
      (afterHeader s).oracle = s.oracle ∧ (afterHeader s).pending = s.pending := by
  unfold afterHeader; (repeat' split) <;> simp

@[simp] theorem raiseReady_frame (b : Bool) (s : State) : (raiseReady b s).tb = s.tb ∧ (raiseReady b s).fu = s.fu ∧
      (raiseReady b s).su = s.su ∧ (raiseReady b s).os = s.os ∧ (raiseReady b s).gu = s.gu ∧ (raiseReady b s).cx =
      s.cx ∧ (raiseReady b s).jw = s.jw ∧ (raiseReady b s).cp = s.cp ∧ (raiseReady b s).bp = s.bp ∧ (raiseReady b
      s).pins = s.pins ∧ (raiseReady b s).resetAsserted = s.resetAsserted ∧ (raiseReady b s).oracle = s.oracle ∧
      (raiseReady b s).pending = s.pending := by
  unfold raiseReady; (repeat' split) <;> simp

@[simp] theorem announceHeader_frame (h : SheetHeader) (s : State) : (announceHeader h s).tb = s.tb ∧
      (announceHeader h s).fu = s.fu ∧ (announceHeader h s).su = s.su ∧ (announceHeader h s).os = s.os ∧
      (announceHeader h s).gu = s.gu ∧ (announceHeader h s).cx = s.cx ∧ (announceHeader h s).cp = s.cp ∧
      (announceHeader h s).bp = s.bp ∧ (announceHeader h s).pins = s.pins ∧ (announceHeader h s).resetAsserted =
      s.resetAsserted ∧ (announceHeader h s).oracle = s.oracle ∧ (announceHeader h s).pending = s.pending := by
  unfold announceHeader; simp

@[simp] theorem discardSheetRead_frame (s : State) : (discardSheetRead s).tb = s.tb ∧ (discardSheetRead s).fu = s.fu
      ∧ (discardSheetRead s).su = s.su ∧ (discardSheetRead s).os = s.os ∧ (discardSheetRead s).gu = s.gu ∧
      (discardSheetRead s).cx = s.cx ∧ (discardSheetRead s).jw = s.jw ∧ (discardSheetRead s).cp = s.cp ∧
      (discardSheetRead s).ev = s.ev ∧ (discardSheetRead s).pins = s.pins ∧ (discardSheetRead s).resetAsserted =
      s.resetAsserted ∧ (discardSheetRead s).oracle = s.oracle ∧ (discardSheetRead s).pending = s.pending := by
  unfold discardSheetRead; simp

@[simp] theorem closeSeeking_frame (s : State) : (closeSeeking s).tb = s.tb ∧ (closeSeeking s).fu = s.fu ∧
      (closeSeeking s).su = s.su ∧ (closeSeeking s).os = s.os ∧ (closeSeeking s).gu = s.gu ∧ (closeSeeking s).cx =
      s.cx ∧ (closeSeeking s).cp = s.cp ∧ (closeSeeking s).ev = s.ev ∧ (closeSeeking s).pins = s.pins ∧
      (closeSeeking s).resetAsserted = s.resetAsserted ∧ (closeSeeking s).oracle = s.oracle ∧ (closeSeeking
      s).pending = s.pending := by
  unfold closeSeeking; simp

@[simp] theorem headerWritten_frame (h : SheetHeader) (s : State) : (headerWritten h s).tb = s.tb ∧ (headerWritten h
      s).fu = s.fu ∧ (headerWritten h s).su = s.su ∧ (headerWritten h s).os = s.os ∧ (headerWritten h s).gu = s.gu ∧
      (headerWritten h s).cx = s.cx ∧ (headerWritten h s).bp = s.bp ∧ (headerWritten h s).pins = s.pins ∧
      (headerWritten h s).resetAsserted = s.resetAsserted ∧ (headerWritten h s).oracle = s.oracle ∧ (headerWritten h
      s).pending = s.pending := by
  unfold headerWritten; simp

@[simp] theorem headerWriteError_frame (s : State) : (headerWriteError s).tb = s.tb ∧ (headerWriteError s).fu = s.fu
      ∧ (headerWriteError s).su = s.su ∧ (headerWriteError s).os = s.os ∧ (headerWriteError s).gu = s.gu ∧
      (headerWriteError s).cx = s.cx ∧ (headerWriteError s).bp = s.bp ∧ (headerWriteError s).pins = s.pins ∧
      (headerWriteError s).resetAsserted = s.resetAsserted ∧ (headerWriteError s).oracle = s.oracle ∧
      (headerWriteError s).pending = s.pending := by
  unfold headerWriteError; (repeat' split) <;> simp

@[simp] theorem takeSheetRecheck_frame (s : State) : (takeSheetRecheck s).tb = s.tb ∧ (takeSheetRecheck s).fu = s.fu
      ∧ (takeSheetRecheck s).su = s.su ∧ (takeSheetRecheck s).os = s.os ∧ (takeSheetRecheck s).gu = s.gu ∧
      (takeSheetRecheck s).cx = s.cx ∧ (takeSheetRecheck s).pins = s.pins ∧ (takeSheetRecheck s).resetAsserted =
      s.resetAsserted ∧ (takeSheetRecheck s).oracle = s.oracle ∧ (takeSheetRecheck s).pending = s.pending := by
  unfold takeSheetRecheck; (repeat' split) <;> simp

@[simp] theorem takeFlushAge_frame (s : State) : (takeFlushAge s).tb = s.tb ∧ (takeFlushAge s).fu = s.fu ∧
      (takeFlushAge s).su = s.su ∧ (takeFlushAge s).os = s.os ∧ (takeFlushAge s).gu = s.gu ∧ (takeFlushAge s).cx =
      s.cx ∧ (takeFlushAge s).pins = s.pins ∧ (takeFlushAge s).resetAsserted = s.resetAsserted ∧ (takeFlushAge
      s).oracle = s.oracle ∧ (takeFlushAge s).pending = s.pending := by
  unfold takeFlushAge; (repeat' split) <;> simp

@[simp] theorem takeJournalOpen_frame (s : State) : (takeJournalOpen s).tb = s.tb ∧ (takeJournalOpen s).fu = s.fu ∧
      (takeJournalOpen s).su = s.su ∧ (takeJournalOpen s).os = s.os ∧ (takeJournalOpen s).gu = s.gu ∧
      (takeJournalOpen s).cx = s.cx ∧ (takeJournalOpen s).pins = s.pins ∧ (takeJournalOpen s).resetAsserted =
      s.resetAsserted ∧ (takeJournalOpen s).oracle = s.oracle ∧ (takeJournalOpen s).pending = s.pending := by
  unfold takeJournalOpen; (repeat' split) <;> simp

@[simp] theorem takeJournalFlush_frame (s : State) : (takeJournalFlush s).tb = s.tb ∧ (takeJournalFlush s).fu = s.fu
      ∧ (takeJournalFlush s).su = s.su ∧ (takeJournalFlush s).os = s.os ∧ (takeJournalFlush s).gu = s.gu ∧
      (takeJournalFlush s).cx = s.cx ∧ (takeJournalFlush s).pins = s.pins ∧ (takeJournalFlush s).resetAsserted =
      s.resetAsserted ∧ (takeJournalFlush s).oracle = s.oracle ∧ (takeJournalFlush s).pending = s.pending := by
  unfold takeJournalFlush; (repeat' split) <;> simp

@[simp] theorem takeJournalClose_frame (s : State) : (takeJournalClose s).tb = s.tb ∧ (takeJournalClose s).fu = s.fu
      ∧ (takeJournalClose s).su = s.su ∧ (takeJournalClose s).os = s.os ∧ (takeJournalClose s).gu = s.gu ∧
      (takeJournalClose s).cx = s.cx ∧ (takeJournalClose s).pins = s.pins ∧ (takeJournalClose s).resetAsserted =
      s.resetAsserted ∧ (takeJournalClose s).oracle = s.oracle ∧ (takeJournalClose s).pending = s.pending := by
  unfold takeJournalClose; (repeat' split) <;> simp

@[simp] theorem takeLinkWatch_frame (s : State) : (takeLinkWatch s).tb = s.tb ∧ (takeLinkWatch s).su = s.su ∧
      (takeLinkWatch s).os = s.os ∧ (takeLinkWatch s).gu = s.gu ∧ (takeLinkWatch s).cx = s.cx ∧ (takeLinkWatch s).jw
      = s.jw ∧ (takeLinkWatch s).cp = s.cp ∧ (takeLinkWatch s).pins = s.pins ∧ (takeLinkWatch s).resetAsserted =
      s.resetAsserted ∧ (takeLinkWatch s).oracle = s.oracle ∧ (takeLinkWatch s).pending = s.pending := by
  unfold takeLinkWatch; (repeat' split) <;> simp

@[simp] theorem makeActive_frame (m : Limits) (s : State) : (makeActive m s).fu = s.fu ∧ (makeActive m s).su = s.su
      ∧ (makeActive m s).cx = s.cx ∧ (makeActive m s).bp = s.bp ∧ (makeActive m s).pins = s.pins ∧ (makeActive m
      s).resetAsserted = s.resetAsserted ∧ (makeActive m s).pending = s.pending := by
  unfold makeActive; simp

@[simp] theorem deliverTaken_frame (b : Bool) (s : State) : (deliverTaken b s).fu = s.fu ∧ (deliverTaken b s).su =
      s.su ∧ (deliverTaken b s).cx = s.cx ∧ (deliverTaken b s).cp = s.cp ∧ (deliverTaken b s).bp = s.bp ∧
      (deliverTaken b s).pins = s.pins ∧ (deliverTaken b s).resetAsserted = s.resetAsserted ∧ (deliverTaken b
      s).pending = s.pending := by
  unfold deliverTaken; (repeat' split) <;> simp

@[simp] theorem deliverBatch_frame (cs : List Change) (b : Bool) (s : State) : (deliverBatch cs b s).fu = s.fu ∧
      (deliverBatch cs b s).su = s.su ∧ (deliverBatch cs b s).cx = s.cx ∧ (deliverBatch cs b s).cp = s.cp ∧
      (deliverBatch cs b s).bp = s.bp ∧ (deliverBatch cs b s).pins = s.pins ∧ (deliverBatch cs b s).resetAsserted =
      s.resetAsserted ∧ (deliverBatch cs b s).pending = s.pending := by
  unfold deliverBatch; (repeat' split) <;> simp

@[simp] theorem applyEntries_frame (s : State) : (applyEntries s).tb = s.tb ∧ (applyEntries s).cx = s.cx ∧
      (applyEntries s).pins = s.pins ∧ (applyEntries s).resetAsserted = s.resetAsserted ∧ (applyEntries s).oracle =
      s.oracle ∧ (applyEntries s).pending = s.pending := by
  simp only [applyEntries, drainEnd_frame]
  exact ⟨foldl_keeps _ _ (fun s e => by simp) _ _, foldl_keeps _ _ (fun s e => by simp) _ _, foldl_keeps _ _ (fun s e => by simp) _ _,
    foldl_keeps _ _ (fun s e => by simp) _ _, foldl_keeps _ _ (fun s e => by simp) _ _, foldl_keeps _ _ (fun s e => by simp) _ _⟩

@[simp] theorem applyDue_frame (s : State) : (applyDue s).cx = s.cx ∧ (applyDue s).pins = s.pins ∧ (applyDue
      s).resetAsserted = s.resetAsserted ∧ (applyDue s).pending = s.pending := by
  unfold applyDue; (repeat' split) <;> simp

@[simp] theorem takeApplication_frame (s : State) : (takeApplication s).cx = s.cx ∧ (takeApplication s).pins =
      s.pins ∧ (takeApplication s).resetAsserted = s.resetAsserted ∧ (takeApplication s).pending = s.pending := by
  unfold takeApplication; (repeat' split) <;> simp

@[simp] theorem admitAnchor_frame (q : QueuedStep) (s : State) : (admitAnchor q s).tb = s.tb ∧ (admitAnchor q s).os
      = s.os ∧ (admitAnchor q s).gu = s.gu ∧ (admitAnchor q s).cx = s.cx ∧ (admitAnchor q s).jw = s.jw ∧
      (admitAnchor q s).cp = s.cp ∧ (admitAnchor q s).bp = s.bp ∧ (admitAnchor q s).pins = s.pins ∧ (admitAnchor q
      s).resetAsserted = s.resetAsserted ∧ (admitAnchor q s).oracle = s.oracle ∧ (admitAnchor q s).pending =
      s.pending := by
  unfold admitAnchor; simp

@[simp] theorem admitWait_frame (q : QueuedStep) (w : Waiter) (s : State) : (admitWait q w s).tb = s.tb ∧ (admitWait
      q w s).os = s.os ∧ (admitWait q w s).gu = s.gu ∧ (admitWait q w s).cx = s.cx ∧ (admitWait q w s).jw = s.jw ∧
      (admitWait q w s).cp = s.cp ∧ (admitWait q w s).bp = s.bp ∧ (admitWait q w s).pins = s.pins ∧ (admitWait q w
      s).resetAsserted = s.resetAsserted ∧ (admitWait q w s).oracle = s.oracle ∧ (admitWait q w s).pending =
      s.pending := by
  unfold admitWait; simp

@[simp] theorem admitEntry_frame (q : QueuedStep) (k : StepKind) (ek : EntryKind) (d : Time) (s : State) :
      (admitEntry q k ek d s).cx = s.cx ∧ (admitEntry q k ek d s).pins = s.pins ∧ (admitEntry q k ek d
      s).resetAsserted = s.resetAsserted ∧ (admitEntry q k ek d s).pending = s.pending := by
  unfold admitEntry; (repeat' split) <;> simp

@[simp] theorem admitDropped_frame (q : QueuedStep) (k : StepKind) (s : State) : (admitDropped q k s).tb = s.tb ∧
      (admitDropped q k s).os = s.os ∧ (admitDropped q k s).gu = s.gu ∧ (admitDropped q k s).cx = s.cx ∧
      (admitDropped q k s).jw = s.jw ∧ (admitDropped q k s).cp = s.cp ∧ (admitDropped q k s).bp = s.bp ∧
      (admitDropped q k s).pins = s.pins ∧ (admitDropped q k s).resetAsserted = s.resetAsserted ∧ (admitDropped q k
      s).oracle = s.oracle ∧ (admitDropped q k s).pending = s.pending := by
  unfold admitDropped; simp

@[simp] theorem reportLate_frame (q : QueuedStep) (n : Nat) (s : State) : (reportLate q n s).tb = s.tb ∧ (reportLate
      q n s).fu = s.fu ∧ (reportLate q n s).su = s.su ∧ (reportLate q n s).os = s.os ∧ (reportLate q n s).gu = s.gu
      ∧ (reportLate q n s).cx = s.cx ∧ (reportLate q n s).cp = s.cp ∧ (reportLate q n s).bp = s.bp ∧ (reportLate q n
      s).pins = s.pins ∧ (reportLate q n s).resetAsserted = s.resetAsserted ∧ (reportLate q n s).oracle = s.oracle ∧
      (reportLate q n s).pending = s.pending := by
  unfold reportLate; simp

@[simp] theorem admitLate_frame (q : QueuedStep) (k : StepKind) (ek : EntryKind) (s : State) : (admitLate q k ek
      s).cx = s.cx ∧ (admitLate q k ek s).pins = s.pins ∧ (admitLate q k ek s).resetAsserted = s.resetAsserted ∧
      (admitLate q k ek s).pending = s.pending := by
  unfold admitLate; (repeat' split) <;> simp

@[simp] theorem admitTimed_frame (q : QueuedStep) (k : StepKind) (ek : EntryKind) (s : State) : (admitTimed q k ek
      s).cx = s.cx ∧ (admitTimed q k ek s).pins = s.pins ∧ (admitTimed q k ek s).resetAsserted = s.resetAsserted ∧
      (admitTimed q k ek s).pending = s.pending := by
  unfold admitTimed; (repeat' split) <;> simp

@[simp] theorem admitValid_frame (q : QueuedStep) (k : StepKind) (s : State) : (admitValid q k s).cx = s.cx ∧
      (admitValid q k s).pins = s.pins ∧ (admitValid q k s).resetAsserted = s.resetAsserted ∧ (admitValid q k
      s).pending = s.pending := by
  unfold admitValid; (repeat' split) <;> simp

@[simp] theorem admitChecked_frame (q : QueuedStep) (k : StepKind) (s : State) : (admitChecked q k s).cx = s.cx ∧
      (admitChecked q k s).pins = s.pins ∧ (admitChecked q k s).resetAsserted = s.resetAsserted ∧ (admitChecked q k
      s).pending = s.pending := by
  unfold admitChecked; (repeat' split) <;> simp

@[simp] theorem admitWaitStep_frame (q : QueuedStep) (s : State) : (admitWaitStep q s).tb = s.tb ∧ (admitWaitStep q
      s).cx = s.cx ∧ (admitWaitStep q s).cp = s.cp ∧ (admitWaitStep q s).pins = s.pins ∧ (admitWaitStep q
      s).resetAsserted = s.resetAsserted ∧ (admitWaitStep q s).oracle = s.oracle ∧ (admitWaitStep q s).pending =
      s.pending := by
  unfold admitWaitStep; (repeat' split) <;> simp

@[simp] theorem admitStep_frame (q : QueuedStep) (s : State) : (admitStep q s).cx = s.cx ∧ (admitStep q s).pins =
      s.pins ∧ (admitStep q s).resetAsserted = s.resetAsserted ∧ (admitStep q s).pending = s.pending := by
  unfold admitStep; (repeat' split) <;> simp

@[simp] theorem admitHead_frame (s : State) : (admitHead s).cx = s.cx ∧ (admitHead s).pins = s.pins ∧ (admitHead
      s).resetAsserted = s.resetAsserted ∧ (admitHead s).pending = s.pending := by
  unfold admitHead; (repeat' split) <;> simp

@[simp] theorem takeStepAdmission_frame (s : State) : (takeStepAdmission s).cx = s.cx ∧ (takeStepAdmission s).pins =
      s.pins ∧ (takeStepAdmission s).resetAsserted = s.resetAsserted ∧ (takeStepAdmission s).pending = s.pending :=
      by
  unfold takeStepAdmission; simp

@[simp] theorem suEdgeNotice_frame (c : Fin 16) (e : Edge) (s : State) : (suEdgeNotice c e s).tb = s.tb ∧
      (suEdgeNotice c e s).fu = s.fu ∧ (suEdgeNotice c e s).os = s.os ∧ (suEdgeNotice c e s).gu = s.gu ∧
      (suEdgeNotice c e s).cx = s.cx ∧ (suEdgeNotice c e s).cp = s.cp ∧ (suEdgeNotice c e s).bp = s.bp ∧
      (suEdgeNotice c e s).pins = s.pins ∧ (suEdgeNotice c e s).resetAsserted = s.resetAsserted ∧ (suEdgeNotice c e
      s).oracle = s.oracle ∧ (suEdgeNotice c e s).pending = s.pending := by
  unfold suEdgeNotice; (repeat' split) <;> simp

@[simp] theorem endWait_frame (w : Waiter) (s : State) : (endWait w s).tb = s.tb ∧ (endWait w s).cx = s.cx ∧
      (endWait w s).cp = s.cp ∧ (endWait w s).pins = s.pins ∧ (endWait w s).resetAsserted = s.resetAsserted ∧
      (endWait w s).oracle = s.oracle ∧ (endWait w s).pending = s.pending := by
  unfold endWait; (repeat' split) <;> simp

@[simp] theorem takeWaitTimeout_frame (s : State) : (takeWaitTimeout s).cx = s.cx ∧ (takeWaitTimeout s).pins =
      s.pins ∧ (takeWaitTimeout s).resetAsserted = s.resetAsserted ∧ (takeWaitTimeout s).pending = s.pending := by
  unfold takeWaitTimeout; (repeat' split) <;> simp

@[simp] theorem takeTimeRange_frame (s : State) : (takeTimeRange s).cx = s.cx ∧ (takeTimeRange s).pins = s.pins ∧
      (takeTimeRange s).resetAsserted = s.resetAsserted ∧ (takeTimeRange s).pending = s.pending := by
  unfold takeTimeRange; (repeat' split) <;> simp

@[simp] theorem drainProgram_frame (s : State) : (drainProgram s).cx = s.cx ∧ (drainProgram s).pins = s.pins ∧
      (drainProgram s).resetAsserted = s.resetAsserted ∧ (drainProgram s).pending = s.pending := by
  unfold drainProgram; simp

@[simp] theorem offerSome_frame (r : Option Record) (s : State) : (offerSome r s).tb = s.tb ∧ (offerSome r s).fu =
      s.fu ∧ (offerSome r s).su = s.su ∧ (offerSome r s).os = s.os ∧ (offerSome r s).gu = s.gu ∧ (offerSome r s).cx
      = s.cx ∧ (offerSome r s).cp = s.cp ∧ (offerSome r s).bp = s.bp ∧ (offerSome r s).pins = s.pins ∧ (offerSome r
      s).resetAsserted = s.resetAsserted ∧ (offerSome r s).oracle = s.oracle ∧ (offerSome r s).pending = s.pending
      := by
  unfold offerSome; (repeat' split) <;> simp

@[simp] theorem noticeEdge_frame (c : Fin 16) (e : Edge) (r : Option Record) (s : State) : (noticeEdge c e r s).tb =
      s.tb ∧ (noticeEdge c e r s).fu = s.fu ∧ (noticeEdge c e r s).os = s.os ∧ (noticeEdge c e r s).gu = s.gu ∧
      (noticeEdge c e r s).cx = s.cx ∧ (noticeEdge c e r s).cp = s.cp ∧ (noticeEdge c e r s).bp = s.bp ∧ (noticeEdge
      c e r s).pins = s.pins ∧ (noticeEdge c e r s).resetAsserted = s.resetAsserted ∧ (noticeEdge c e r s).pending =
      s.pending := by
  unfold noticeEdge; (repeat' split) <;> simp

@[simp] theorem recognizeEdge_frame (c : Fin 16) (e : Edge) (s : State) : (recognizeEdge c e s).tb = s.tb ∧
      (recognizeEdge c e s).fu = s.fu ∧ (recognizeEdge c e s).os = s.os ∧ (recognizeEdge c e s).gu = s.gu ∧
      (recognizeEdge c e s).cp = s.cp ∧ (recognizeEdge c e s).bp = s.bp ∧ (recognizeEdge c e s).resetAsserted =
      s.resetAsserted ∧ (recognizeEdge c e s).pending = s.pending := by
  unfold recognizeEdge; simp

@[simp] theorem discardedRead_frame (b : Bool) (s : State) : (discardedRead b s).tb = s.tb ∧ (discardedRead b s).fu
      = s.fu ∧ (discardedRead b s).su = s.su ∧ (discardedRead b s).os = s.os ∧ (discardedRead b s).gu = s.gu ∧
      (discardedRead b s).cx = s.cx ∧ (discardedRead b s).jw = s.jw ∧ (discardedRead b s).cp = s.cp ∧ (discardedRead
      b s).bp = s.bp ∧ (discardedRead b s).pins = s.pins ∧ (discardedRead b s).resetAsserted = s.resetAsserted ∧
      (discardedRead b s).oracle = s.oracle ∧ (discardedRead b s).pending = s.pending := by
  unfold discardedRead; (repeat' split) <;> simp

@[simp] theorem fetchError_frame (s : State) : (fetchError s).tb = s.tb ∧ (fetchError s).cx = s.cx ∧ (fetchError
      s).cp = s.cp ∧ (fetchError s).pins = s.pins ∧ (fetchError s).resetAsserted = s.resetAsserted ∧ (fetchError
      s).oracle = s.oracle ∧ (fetchError s).pending = s.pending := by
  unfold fetchError; simp

@[simp] theorem advance_frame (s : State) : (advance s).fu = s.fu ∧ (advance s).su = s.su ∧ (advance s).os = s.os ∧
      (advance s).gu = s.gu ∧ (advance s).cx = s.cx ∧ (advance s).jw = s.jw ∧ (advance s).cp = s.cp ∧ (advance s).ev
      = s.ev ∧ (advance s).bp = s.bp ∧ (advance s).pins = s.pins ∧ (advance s).resetAsserted = s.resetAsserted ∧
      (advance s).oracle = s.oracle ∧ (advance s).pending = s.pending := by
  unfold advance; simp

@[simp] theorem sourceTicked_frame (s : State) : (sourceTicked s).fu = s.fu ∧ (sourceTicked s).su = s.su ∧
      (sourceTicked s).os = s.os ∧ (sourceTicked s).gu = s.gu ∧ (sourceTicked s).cx = s.cx ∧ (sourceTicked s).jw =
      s.jw ∧ (sourceTicked s).cp = s.cp ∧ (sourceTicked s).ev = s.ev ∧ (sourceTicked s).bp = s.bp ∧ (sourceTicked
      s).resetAsserted = s.resetAsserted ∧ (sourceTicked s).oracle = s.oracle ∧ (sourceTicked s).pending = s.pending
      := by
  unfold sourceTicked; (repeat' split) <;> simp

@[simp] theorem timebasePeriod_frame (s : State) : (timebasePeriod s).fu = s.fu ∧ (timebasePeriod s).su = s.su ∧
      (timebasePeriod s).os = s.os ∧ (timebasePeriod s).gu = s.gu ∧ (timebasePeriod s).cx = s.cx ∧ (timebasePeriod
      s).jw = s.jw ∧ (timebasePeriod s).cp = s.cp ∧ (timebasePeriod s).ev = s.ev ∧ (timebasePeriod s).bp = s.bp ∧
      (timebasePeriod s).pins = s.pins ∧ (timebasePeriod s).resetAsserted = s.resetAsserted ∧ (timebasePeriod
      s).oracle = s.oracle ∧ (timebasePeriod s).pending = s.pending := by
  unfold timebasePeriod; (repeat' split) <;> simp

@[simp] theorem setFaultRun_frame (r : Nat) (n : Fin 4) (s : State) : (setFaultRun r n s).tb = s.tb ∧ (setFaultRun r
      n s).fu = s.fu ∧ (setFaultRun r n s).su = s.su ∧ (setFaultRun r n s).os = s.os ∧ (setFaultRun r n s).cx = s.cx
      ∧ (setFaultRun r n s).jw = s.jw ∧ (setFaultRun r n s).cp = s.cp ∧ (setFaultRun r n s).ev = s.ev ∧ (setFaultRun
      r n s).bp = s.bp ∧ (setFaultRun r n s).pins = s.pins ∧ (setFaultRun r n s).resetAsserted = s.resetAsserted ∧
      (setFaultRun r n s).oracle = s.oracle ∧ (setFaultRun r n s).pending = s.pending := by
  unfold setFaultRun; simp

@[simp] theorem setInputRun_frame (r : Nat) (n : Fin 16) (s : State) : (setInputRun r n s).tb = s.tb ∧ (setInputRun
      r n s).fu = s.fu ∧ (setInputRun r n s).su = s.su ∧ (setInputRun r n s).os = s.os ∧ (setInputRun r n s).gu =
      s.gu ∧ (setInputRun r n s).jw = s.jw ∧ (setInputRun r n s).cp = s.cp ∧ (setInputRun r n s).ev = s.ev ∧
      (setInputRun r n s).bp = s.bp ∧ (setInputRun r n s).pins = s.pins ∧ (setInputRun r n s).resetAsserted =
      s.resetAsserted ∧ (setInputRun r n s).oracle = s.oracle ∧ (setInputRun r n s).pending = s.pending := by
  unfold setInputRun; simp

@[simp] theorem grantFirst_frame (s : State) : (grantFirst s).tb = s.tb ∧ (grantFirst s).fu = s.fu ∧ (grantFirst
      s).su = s.su ∧ (grantFirst s).os = s.os ∧ (grantFirst s).gu = s.gu ∧ (grantFirst s).cx = s.cx ∧ (grantFirst
      s).jw = s.jw ∧ (grantFirst s).cp = s.cp ∧ (grantFirst s).ev = s.ev ∧ (grantFirst s).pins = s.pins ∧
      (grantFirst s).resetAsserted = s.resetAsserted ∧ (grantFirst s).pending = s.pending := by
  unfold grantFirst; (repeat' split) <;> simp

@[simp] theorem requestDcb_frame (s : State) : (requestDcb s).tb = s.tb ∧ (requestDcb s).fu = s.fu ∧ (requestDcb
      s).su = s.su ∧ (requestDcb s).os = s.os ∧ (requestDcb s).gu = s.gu ∧ (requestDcb s).cx = s.cx ∧ (requestDcb
      s).jw = s.jw ∧ (requestDcb s).cp = s.cp ∧ (requestDcb s).ev = s.ev ∧ (requestDcb s).pins = s.pins ∧
      (requestDcb s).resetAsserted = s.resetAsserted ∧ (requestDcb s).oracle = s.oracle ∧ (requestDcb s).pending =
      s.pending := by
  unfold requestDcb; simp

@[simp] theorem commandError_frame (s : State) : (commandError s).tb = s.tb ∧ (commandError s).fu = s.fu ∧
      (commandError s).su = s.su ∧ (commandError s).os = s.os ∧ (commandError s).gu = s.gu ∧ (commandError s).cx =
      s.cx ∧ (commandError s).jw = s.jw ∧ (commandError s).bp = s.bp ∧ (commandError s).pins = s.pins ∧
      (commandError s).resetAsserted = s.resetAsserted ∧ (commandError s).oracle = s.oracle ∧ (commandError
      s).pending = s.pending := by
  unfold commandError; simp

@[simp] theorem requestTallyHigh_frame (a : Addr) (t : TallySnapshot) (s : State) : (requestTallyHigh a t s).tb =
      s.tb ∧ (requestTallyHigh a t s).fu = s.fu ∧ (requestTallyHigh a t s).su = s.su ∧ (requestTallyHigh a t s).os =
      s.os ∧ (requestTallyHigh a t s).gu = s.gu ∧ (requestTallyHigh a t s).cx = s.cx ∧ (requestTallyHigh a t s).jw =
      s.jw ∧ (requestTallyHigh a t s).cp = s.cp ∧ (requestTallyHigh a t s).ev = s.ev ∧ (requestTallyHigh a t s).pins
      = s.pins ∧ (requestTallyHigh a t s).resetAsserted = s.resetAsserted ∧ (requestTallyHigh a t s).oracle =
      s.oracle ∧ (requestTallyHigh a t s).pending = s.pending := by
  unfold requestTallyHigh; simp

@[simp] theorem takeTally_frame (t : Transfer) (s : State) : (takeTally t s).tb = s.tb ∧ (takeTally t s).fu = s.fu ∧
      (takeTally t s).su = s.su ∧ (takeTally t s).os = s.os ∧ (takeTally t s).gu = s.gu ∧ (takeTally t s).cx = s.cx
      ∧ (takeTally t s).jw = s.jw ∧ (takeTally t s).pins = s.pins ∧ (takeTally t s).resetAsserted = s.resetAsserted
      ∧ (takeTally t s).oracle = s.oracle ∧ (takeTally t s).pending = s.pending := by
  unfold takeTally; (repeat' split) <;> simp

@[simp] theorem takePause_frame (s : State) : (takePause s).fu = s.fu ∧ (takePause s).su = s.su ∧ (takePause s).os =
      s.os ∧ (takePause s).gu = s.gu ∧ (takePause s).cx = s.cx ∧ (takePause s).jw = s.jw ∧ (takePause s).bp = s.bp ∧
      (takePause s).pins = s.pins ∧ (takePause s).resetAsserted = s.resetAsserted ∧ (takePause s).oracle = s.oracle
      ∧ (takePause s).pending = s.pending := by
  unfold takePause; simp

@[simp] theorem takeResume_frame (s : State) : (takeResume s).fu = s.fu ∧ (takeResume s).su = s.su ∧ (takeResume
      s).os = s.os ∧ (takeResume s).gu = s.gu ∧ (takeResume s).cx = s.cx ∧ (takeResume s).jw = s.jw ∧ (takeResume
      s).bp = s.bp ∧ (takeResume s).pins = s.pins ∧ (takeResume s).resetAsserted = s.resetAsserted ∧ (takeResume
      s).oracle = s.oracle ∧ (takeResume s).pending = s.pending := by
  unfold takeResume; (repeat' split) <;> simp

@[simp] theorem takeStamp_frame (s : State) : (takeStamp s).tb = s.tb ∧ (takeStamp s).fu = s.fu ∧ (takeStamp s).su =
      s.su ∧ (takeStamp s).os = s.os ∧ (takeStamp s).gu = s.gu ∧ (takeStamp s).cx = s.cx ∧ (takeStamp s).pins =
      s.pins ∧ (takeStamp s).resetAsserted = s.resetAsserted ∧ (takeStamp s).oracle = s.oracle ∧ (takeStamp
      s).pending = s.pending := by
  unfold takeStamp; (repeat' split) <;> simp

@[simp] theorem takeUnknown_frame (s : State) : (takeUnknown s).tb = s.tb ∧ (takeUnknown s).fu = s.fu ∧ (takeUnknown
      s).su = s.su ∧ (takeUnknown s).os = s.os ∧ (takeUnknown s).gu = s.gu ∧ (takeUnknown s).cx = s.cx ∧
      (takeUnknown s).jw = s.jw ∧ (takeUnknown s).bp = s.bp ∧ (takeUnknown s).pins = s.pins ∧ (takeUnknown
      s).resetAsserted = s.resetAsserted ∧ (takeUnknown s).oracle = s.oracle ∧ (takeUnknown s).pending = s.pending
      := by
  unfold takeUnknown; simp

@[simp] theorem takeLoadContext_frame (s : State) : (takeLoadContext s).tb = s.tb ∧ (takeLoadContext s).fu = s.fu ∧
      (takeLoadContext s).su = s.su ∧ (takeLoadContext s).os = s.os ∧ (takeLoadContext s).gu = s.gu ∧
      (takeLoadContext s).cx = s.cx ∧ (takeLoadContext s).jw = s.jw ∧ (takeLoadContext s).pins = s.pins ∧
      (takeLoadContext s).resetAsserted = s.resetAsserted ∧ (takeLoadContext s).oracle = s.oracle ∧ (takeLoadContext
      s).pending = s.pending := by
  unfold takeLoadContext; (repeat' split) <;> simp

@[simp] theorem takeStageLimits_frame (s : State) : (takeStageLimits s).tb = s.tb ∧ (takeStageLimits s).fu = s.fu ∧
      (takeStageLimits s).su = s.su ∧ (takeStageLimits s).os = s.os ∧ (takeStageLimits s).gu = s.gu ∧
      (takeStageLimits s).cx = s.cx ∧ (takeStageLimits s).jw = s.jw ∧ (takeStageLimits s).pins = s.pins ∧
      (takeStageLimits s).resetAsserted = s.resetAsserted ∧ (takeStageLimits s).oracle = s.oracle ∧ (takeStageLimits
      s).pending = s.pending := by
  unfold takeStageLimits; (repeat' split) <;> simp

@[simp] theorem takeDumpTallies_frame (op : Half) (s : State) : (takeDumpTallies op s).tb = s.tb ∧ (takeDumpTallies
      op s).fu = s.fu ∧ (takeDumpTallies op s).su = s.su ∧ (takeDumpTallies op s).os = s.os ∧ (takeDumpTallies op
      s).gu = s.gu ∧ (takeDumpTallies op s).cx = s.cx ∧ (takeDumpTallies op s).jw = s.jw ∧ (takeDumpTallies op
      s).pins = s.pins ∧ (takeDumpTallies op s).resetAsserted = s.resetAsserted ∧ (takeDumpTallies op s).oracle =
      s.oracle ∧ (takeDumpTallies op s).pending = s.pending := by
  unfold takeDumpTallies; (repeat' split) <;> simp

@[simp] theorem sheetReadTaken_frame (r : ReadResult 16) (t : Transfer) (s : State) : (sheetReadTaken r t s).tb =
      s.tb ∧ (sheetReadTaken r t s).fu = s.fu ∧ (sheetReadTaken r t s).su = s.su ∧ (sheetReadTaken r t s).os = s.os
      ∧ (sheetReadTaken r t s).gu = s.gu ∧ (sheetReadTaken r t s).cx = s.cx ∧ (sheetReadTaken r t s).bp = s.bp ∧
      (sheetReadTaken r t s).pins = s.pins ∧ (sheetReadTaken r t s).resetAsserted = s.resetAsserted ∧
      (sheetReadTaken r t s).oracle = s.oracle ∧ (sheetReadTaken r t s).pending = s.pending := by
  unfold sheetReadTaken; (repeat' split) <;> simp

@[simp] theorem recordTaken_frame (r : WriteResult) (s : State) : (recordTaken r s).tb = s.tb ∧ (recordTaken r s).fu
      = s.fu ∧ (recordTaken r s).su = s.su ∧ (recordTaken r s).os = s.os ∧ (recordTaken r s).gu = s.gu ∧
      (recordTaken r s).cx = s.cx ∧ (recordTaken r s).bp = s.bp ∧ (recordTaken r s).pins = s.pins ∧ (recordTaken r
      s).resetAsserted = s.resetAsserted ∧ (recordTaken r s).oracle = s.oracle ∧ (recordTaken r s).pending =
      s.pending := by
  unfold recordTaken; (repeat' split) <;> simp

@[simp] theorem sheetWriteTaken_frame (r : WriteResult) (t : Transfer) (s : State) : (sheetWriteTaken r t s).tb =
      s.tb ∧ (sheetWriteTaken r t s).fu = s.fu ∧ (sheetWriteTaken r t s).su = s.su ∧ (sheetWriteTaken r t s).os =
      s.os ∧ (sheetWriteTaken r t s).gu = s.gu ∧ (sheetWriteTaken r t s).cx = s.cx ∧ (sheetWriteTaken r t s).bp =
      s.bp ∧ (sheetWriteTaken r t s).pins = s.pins ∧ (sheetWriteTaken r t s).resetAsserted = s.resetAsserted ∧
      (sheetWriteTaken r t s).oracle = s.oracle ∧ (sheetWriteTaken r t s).pending = s.pending := by
  unfold sheetWriteTaken; (repeat' split) <;> simp

@[simp] theorem sheetReadEnd_frame (r : ReadResult 16) (t : Transfer) (s : State) : (sheetReadEnd r t s).tb = s.tb ∧
      (sheetReadEnd r t s).fu = s.fu ∧ (sheetReadEnd r t s).su = s.su ∧ (sheetReadEnd r t s).os = s.os ∧
      (sheetReadEnd r t s).gu = s.gu ∧ (sheetReadEnd r t s).cx = s.cx ∧ (sheetReadEnd r t s).pins = s.pins ∧
      (sheetReadEnd r t s).resetAsserted = s.resetAsserted ∧ (sheetReadEnd r t s).oracle = s.oracle ∧ (sheetReadEnd
      r t s).pending = s.pending := by
  unfold sheetReadEnd; simp

@[simp] theorem recordEnd_frame (r : WriteResult) (s : State) : (recordEnd r s).tb = s.tb ∧ (recordEnd r s).fu =
      s.fu ∧ (recordEnd r s).su = s.su ∧ (recordEnd r s).os = s.os ∧ (recordEnd r s).gu = s.gu ∧ (recordEnd r s).cx
      = s.cx ∧ (recordEnd r s).pins = s.pins ∧ (recordEnd r s).resetAsserted = s.resetAsserted ∧ (recordEnd r
      s).oracle = s.oracle ∧ (recordEnd r s).pending = s.pending := by
  unfold recordEnd; simp

@[simp] theorem sheetWriteEnd_frame (r : WriteResult) (t : Transfer) (s : State) : (sheetWriteEnd r t s).tb = s.tb ∧
      (sheetWriteEnd r t s).fu = s.fu ∧ (sheetWriteEnd r t s).su = s.su ∧ (sheetWriteEnd r t s).os = s.os ∧
      (sheetWriteEnd r t s).gu = s.gu ∧ (sheetWriteEnd r t s).cx = s.cx ∧ (sheetWriteEnd r t s).pins = s.pins ∧
      (sheetWriteEnd r t s).resetAsserted = s.resetAsserted ∧ (sheetWriteEnd r t s).oracle = s.oracle ∧
      (sheetWriteEnd r t s).pending = s.pending := by
  unfold sheetWriteEnd; simp

@[simp] theorem writeWake_frame (s : State) : (writeWake s).tb = s.tb ∧ (writeWake s).su = s.su ∧ (writeWake s).os =
      s.os ∧ (writeWake s).gu = s.gu ∧ (writeWake s).cx = s.cx ∧ (writeWake s).pins = s.pins ∧ (writeWake
      s).resetAsserted = s.resetAsserted ∧ (writeWake s).oracle = s.oracle ∧ (writeWake s).pending = s.pending := by
  unfold writeWake; simp

@[simp] theorem takeBlankEnd_frame (n : Fin 4) (s : State) : (takeBlankEnd n s).cx = s.cx ∧ (takeBlankEnd n s).pins
      = s.pins ∧ (takeBlankEnd n s).resetAsserted = s.resetAsserted ∧ (takeBlankEnd n s).pending = s.pending := by
  unfold takeBlankEnd; (repeat' split) <;> simp

@[simp] theorem takeEscalation_frame (n : Fin 4) (s : State) : (takeEscalation n s).cx = s.cx ∧ (takeEscalation n
      s).pins = s.pins ∧ (takeEscalation n s).resetAsserted = s.resetAsserted ∧ (takeEscalation n s).pending =
      s.pending := by
  unfold takeEscalation; (repeat' split) <;> simp

@[simp] theorem takeAssertion_frame (n : Fin 4) (s : State) : (takeAssertion n s).cx = s.cx ∧ (takeAssertion n
      s).resetAsserted = s.resetAsserted ∧ (takeAssertion n s).pending = s.pending := by
  unfold takeAssertion; (repeat' split) <;> simp

@[simp] theorem takeDeassertion_frame (n : Fin 4) (s : State) : (takeDeassertion n s).fu = s.fu ∧ (takeDeassertion n
      s).su = s.su ∧ (takeDeassertion n s).cx = s.cx ∧ (takeDeassertion n s).resetAsserted = s.resetAsserted ∧
      (takeDeassertion n s).oracle = s.oracle ∧ (takeDeassertion n s).pending = s.pending := by
  unfold takeDeassertion; (repeat' split) <;> simp

@[simp] theorem takeEdge_frame (n : Fin 16) (e : Edge) (s : State) : (takeEdge n e s).resetAsserted =
      s.resetAsserted ∧ (takeEdge n e s).pending = s.pending := by
  unfold takeEdge; (repeat' split) <;> simp

@[simp] theorem startAt_frame (a : Addr) (s : State) : (startAt a s).cx = s.cx ∧ (startAt a s).pins = s.pins ∧
      (startAt a s).resetAsserted = s.resetAsserted ∧ (startAt a s).pending = s.pending := by
  unfold startAt; simp

@[simp] theorem takeStart_frame (s : State) : (takeStart s).cx = s.cx ∧ (takeStart s).pins = s.pins ∧ (takeStart
      s).resetAsserted = s.resetAsserted ∧ (takeStart s).pending = s.pending := by
  unfold takeStart; (repeat' split) <;> simp

@[simp] theorem takeDrain_frame (s : State) : (takeDrain s).cx = s.cx ∧ (takeDrain s).pins = s.pins ∧ (takeDrain
      s).resetAsserted = s.resetAsserted ∧ (takeDrain s).pending = s.pending := by
  unfold takeDrain; (repeat' split) <;> simp

@[simp] theorem takeStopAtOnce_frame (s : State) : (takeStopAtOnce s).cx = s.cx ∧ (takeStopAtOnce s).pins = s.pins ∧
      (takeStopAtOnce s).resetAsserted = s.resetAsserted ∧ (takeStopAtOnce s).pending = s.pending := by
  unfold takeStopAtOnce; (repeat' split) <;> simp

@[simp] theorem takeStop_frame (op : Half) (s : State) : (takeStop op s).cx = s.cx ∧ (takeStop op s).pins = s.pins ∧
      (takeStop op s).resetAsserted = s.resetAsserted ∧ (takeStop op s).pending = s.pending := by
  unfold takeStop; (repeat' split) <;> simp

@[simp] theorem forceLinesNow_frame (s : State) : (forceLinesNow s).tb = s.tb ∧ (forceLinesNow s).fu = s.fu ∧
      (forceLinesNow s).su = s.su ∧ (forceLinesNow s).cx = s.cx ∧ (forceLinesNow s).jw = s.jw ∧ (forceLinesNow s).cp
      = s.cp ∧ (forceLinesNow s).bp = s.bp ∧ (forceLinesNow s).pins = s.pins ∧ (forceLinesNow s).resetAsserted =
      s.resetAsserted ∧ (forceLinesNow s).oracle = s.oracle ∧ (forceLinesNow s).pending = s.pending := by
  unfold forceLinesNow; (repeat' split) <;> simp

@[simp] theorem takeForceLines_frame (s : State) : (takeForceLines s).tb = s.tb ∧ (takeForceLines s).fu = s.fu ∧
      (takeForceLines s).su = s.su ∧ (takeForceLines s).cx = s.cx ∧ (takeForceLines s).jw = s.jw ∧ (takeForceLines
      s).bp = s.bp ∧ (takeForceLines s).pins = s.pins ∧ (takeForceLines s).resetAsserted = s.resetAsserted ∧
      (takeForceLines s).oracle = s.oracle ∧ (takeForceLines s).pending = s.pending := by
  unfold takeForceLines; (repeat' split) <;> simp

@[simp] theorem takeClearTrip_frame (s : State) : (takeClearTrip s).tb = s.tb ∧ (takeClearTrip s).fu = s.fu ∧
      (takeClearTrip s).su = s.su ∧ (takeClearTrip s).cx = s.cx ∧ (takeClearTrip s).pins = s.pins ∧ (takeClearTrip
      s).resetAsserted = s.resetAsserted ∧ (takeClearTrip s).oracle = s.oracle ∧ (takeClearTrip s).pending =
      s.pending := by
  unfold takeClearTrip; (repeat' split) <;> simp

@[simp] theorem ownerOf_frame (c : Byte) (op : Half) (s : State) : (ownerOf c op s).cx = s.cx ∧ (ownerOf c op
      s).pins = s.pins ∧ (ownerOf c op s).resetAsserted = s.resetAsserted ∧ (ownerOf c op s).pending = s.pending :=
      by
  unfold ownerOf; (repeat' split) <;> simp

end Sys2Proof.Machine
end

