-- ==== Sys2Proof/Laws/Filed.lean ====
section
/-! SUPPORT. Filed.lean: each waiting request stands in its own requester's place (R188): one lemma per operation that
changes the Bus Port, one for each way a command reaches them, for every step, and for the state after reset. -/
namespace Sys2Proof.Machine

set_option Elab.async false

/-! ## The operations of the Bus Port -/

@[simp] theorem BusPort.Filed.request {b : BusPort} (h : b.Filed) (t : Transfer) : (b.request t).Filed := by
  intro o u hu
  unfold BusPort.request at hu
  cases o <;> split at hu <;> simp_all [BusPort.waiting] <;>
    first | exact h .jw _ hu | exact h .fu _ hu | exact h .cp _ hu

/-- Fewer requests waiting. -/
theorem BusPort.Filed.fewer {b c : BusPort} (h : b.Filed)
    (hc : ∀ o t, c.waiting o = some t → b.waiting o = some t) : c.Filed := fun o t ht => h o t (hc o t ht)

@[simp] theorem BusPort.Filed.grant {b : BusPort} (h : b.Filed) : b.grant.Filed := by
  refine h.fewer fun o t ht => ?_
  unfold BusPort.grant at ht
  cases o <;> split at ht <;> simp_all [BusPort.waiting]

@[simp] theorem BusPort.Filed.discardIf {b : BusPort} (h : b.Filed) (p : TransferKind → Bool) :
    (b.discardIf p).Filed := by
  intro o t ht
  have keeps : ∀ w : Option Transfer, w.map (Transfer.discardIf p) = some t →
      ∃ u, w = some u ∧ u.kind = t.kind := fun w hw => by
    obtain ⟨u, hu, e⟩ := Option.map_eq_some_iff.mp hw
    exact ⟨u, hu, by rw [← e]; rfl⟩
  cases o
  · obtain ⟨u, hu, e⟩ := keeps b.jw ht; rw [← e]; exact h .jw u hu
  · obtain ⟨u, hu, e⟩ := keeps b.fu ht; rw [← e]; exact h .fu u hu
  · obtain ⟨u, hu, e⟩ := keeps b.cp ht; rw [← e]; exact h .cp u hu

theorem BusPort.Filed.afterReset (b : BusPort) : b.afterReset.Filed := fun o t ht => by
  cases o <;> simp [BusPort.afterReset, BusPort.waiting] at ht

theorem BusPort.Filed.inFlight {b : BusPort} (h : b.Filed) (f : Option Flight) :
    ({ b with inFlight := f } : BusPort).Filed :=
  h.fewer fun o t ht => by cases o <;> exact ht

@[simp] theorem request_filed (k : TransferKind) (a : Addr) (s : State) (h : s.bp.Filed) : (request k a s).bp.Filed :=
  h.request _

@[simp] theorem grant_filed (s : State) (h : s.bp.Filed) : (grant s).bp.Filed := h.grant

@[simp] theorem freeBus_filed (s : State) (h : s.bp.Filed) : (freeBus s).bp.Filed := h.inFlight none

/-- No request waits. -/
theorem BusPort.Filed.of_none {b : BusPort} (h : b.jw = none ∧ b.fu = none ∧ b.cp = none) : b.Filed := fun o t ht => by
  cases o <;> simp [BusPort.waiting, h] at ht

theorem reset_filed : State.reset.bp.Filed := .of_none (by decide)

/-! ## The blocks -/

@[simp] theorem requestSheetHeader_filed (s : State) (h : s.bp.Filed) : (requestSheetHeader s).bp.Filed := by
  unfold requestSheetHeader; simp [h]

@[simp] theorem requestHeaderWrite_filed (hd : OpenSheet) (r : CloseReason) (s : State) (h : s.bp.Filed) :
    (requestHeaderWrite hd r s).bp.Filed := by
  unfold requestHeaderWrite; simp [h]

@[simp] theorem allotPlace_filed (hd : OpenSheet) (r : Record) (s : State) (h : s.bp.Filed) : (allotPlace hd r
    s).bp.Filed := by
  unfold allotPlace; simp [h]

@[simp] theorem finishClose_filed (hd : OpenSheet) (s : State) (h : s.bp.Filed) : (finishClose hd s).bp.Filed := by
  unfold finishClose; split <;> simp [h]

@[simp] theorem writeNext_filed (hd : OpenSheet) (s : State) (h : s.bp.Filed) : (writeNext hd s).bp.Filed := by
  unfold writeNext
  (repeat' split) <;> simp (maxDischargeDepth := 12) [h]

@[simp] theorem jwPump_filed (s : State) (h : s.bp.Filed) : (jwPump s).bp.Filed := by
  unfold jwPump
  (repeat' split) <;> simp (maxDischargeDepth := 12) [h]

@[simp] theorem jwRun_filed (s : State) (h : s.bp.Filed) : (jwRun s).bp.Filed := by
  unfold jwRun; simp [h]

@[simp] theorem fuAdmissionClosed_filed (s : State) (h : s.bp.Filed) : (fuAdmissionClosed s).bp.Filed := by
  unfold fuAdmissionClosed; exact h.discardIf _

@[simp] theorem requestSteps_filed (sl : Slot) (s : State) (h : s.bp.Filed) : (requestSteps sl s).bp.Filed := by
  unfold requestSteps; split <;> simp [h]

@[simp] theorem requestHeader_filed (s : State) (h : s.bp.Filed) : (requestHeader s).bp.Filed := by
  unfold requestHeader
  (repeat' split) <;> simp (maxDischargeDepth := 12) [h]

@[simp] theorem requestLink_filed (s : State) (h : s.bp.Filed) : (requestLink s).bp.Filed := by
  unfold requestLink; split <;> simp [h]

@[simp] theorem requestRead_filed (s : State) (h : s.bp.Filed) : (requestRead s).bp.Filed := by
  unfold requestRead
  (repeat' split) <;> simp (maxDischargeDepth := 12) [h]

@[simp] theorem requestRetire_filed (sl : Slot) (s : State) (h : s.bp.Filed) : (requestRetire sl s).bp.Filed := by
  unfold requestRetire; simp [h]

@[simp] theorem fuPump_filed (s : State) (h : s.bp.Filed) : (fuPump s).bp.Filed := by
  unfold fuPump
  (repeat' split) <;> simp (maxDischargeDepth := 12) [h]

@[simp] theorem takeLinkWatch_filed (s : State) (h : s.bp.Filed) : (takeLinkWatch s).bp.Filed := by
  unfold takeLinkWatch; split <;> simp [h]

@[simp] theorem discardSheetRead_filed (s : State) (h : s.bp.Filed) : (discardSheetRead s).bp.Filed := by
  unfold discardSheetRead; exact h.discardIf _

@[simp] theorem closeSeeking_filed (s : State) (h : s.bp.Filed) : (closeSeeking s).bp.Filed := by
  unfold closeSeeking; simp [h]

@[simp] theorem takeSheetRecheck_filed (s : State) (h : s.bp.Filed) : (takeSheetRecheck s).bp.Filed := by
  unfold takeSheetRecheck; split <;> simp [h]

@[simp] theorem takeFlushAge_filed (s : State) (h : s.bp.Filed) : (takeFlushAge s).bp.Filed := by
  unfold takeFlushAge; split <;> simp [h]

@[simp] theorem takeJournalOpen_filed (s : State) (h : s.bp.Filed) : (takeJournalOpen s).bp.Filed := by
  unfold takeJournalOpen
  (repeat' split) <;> simp (maxDischargeDepth := 12) [h]

@[simp] theorem takeJournalFlush_filed (s : State) (h : s.bp.Filed) : (takeJournalFlush s).bp.Filed := by
  unfold takeJournalFlush
  (repeat' split) <;> simp (maxDischargeDepth := 12) [h]

@[simp] theorem takeJournalClose_filed (s : State) (h : s.bp.Filed) : (takeJournalClose s).bp.Filed := by
  unfold takeJournalClose; split <;> simp [h]

@[simp] theorem noticeClosed_filed (s : State) (h : s.bp.Filed) : (noticeClosed s).bp.Filed := by
  unfold noticeClosed; split <;> simp [h]

@[simp] theorem enterStopping_filed (o : ProgramOutcome) (r : Reason) (s : State) (h : s.bp.Filed) : (enterStopping o
    r s).bp.Filed := by
  unfold enterStopping; split <;> simp [h]

@[simp] theorem suFault_filed (r : Reason) (s : State) (h : s.bp.Filed) : (suFault r s).bp.Filed := by
  unfold suFault; split <;> simp [h]

@[simp] theorem takeTripAbort_filed (s : State) (h : s.bp.Filed) : (takeTripAbort s).bp.Filed := by
  unfold takeTripAbort; split <;> simp [h]

@[simp] theorem deliverTrip_filed (s : State) (h : s.bp.Filed) : (deliverTrip s).bp.Filed := by
  unfold deliverTrip
  (repeat' split) <;> simp (maxDischargeDepth := 12) [h]

@[simp] theorem takeNotices_filed (s : State) (h : s.bp.Filed) : (takeNotices s).bp.Filed := by
  unfold takeNotices; simp [h]

@[simp] theorem pump_filed (s : State) (h : s.bp.Filed) : (pump s).bp.Filed := by
  unfold pump; simp (maxDischargeDepth := 12) [h]

@[simp] theorem settle_filed (s : State) (h : s.bp.Filed) : (settle s).bp.Filed := by
  unfold settle; simp [h]

@[simp] theorem closeAdmission_filed (s : State) (h : s.bp.Filed) : (closeAdmission s).bp.Filed := by
  unfold closeAdmission; simp [h]

@[simp] theorem drainEnd_filed (s : State) (h : s.bp.Filed) : (drainEnd s).bp.Filed := by
  unfold drainEnd; split <;> simp [h]

@[simp] theorem applyEntries_filed (s : State) (h : s.bp.Filed) : (applyEntries s).bp.Filed := by
  unfold applyEntries
  refine drainEnd_filed _ ?_
  exact foldl_inv (fun s => s.bp.Filed) _ (fun s e h => by simp [h]) _ _ h

@[simp] theorem applyDue_filed (s : State) (h : s.bp.Filed) : (applyDue s).bp.Filed := by
  unfold applyDue; split <;> simp [h]

@[simp] theorem takeApplication_filed (s : State) (h : s.bp.Filed) : (takeApplication s).bp.Filed := by
  unfold takeApplication; split <;> simp [h]

@[simp] theorem admitEntry_filed (q : QueuedStep) (k : StepKind) (ek : EntryKind) (d : Time) (s : State) (h :
    s.bp.Filed) : (admitEntry q k ek d s).bp.Filed := by
  unfold admitEntry
  (repeat' split) <;> simp (maxDischargeDepth := 12) [h]

@[simp] theorem admitLate_filed (q : QueuedStep) (k : StepKind) (ek : EntryKind) (s : State) (h : s.bp.Filed) :
    (admitLate q k ek s).bp.Filed := by
  unfold admitLate; split <;> simp [h]

@[simp] theorem admitTimed_filed (q : QueuedStep) (k : StepKind) (ek : EntryKind) (s : State) (h : s.bp.Filed) :
    (admitTimed q k ek s).bp.Filed := by
  unfold admitTimed; split <;> simp [h]

@[simp] theorem admitValid_filed (q : QueuedStep) (k : StepKind) (s : State) (h : s.bp.Filed) : (admitValid q k
    s).bp.Filed := by
  unfold admitValid; split <;> simp [h]

@[simp] theorem admitChecked_filed (q : QueuedStep) (k : StepKind) (s : State) (h : s.bp.Filed) : (admitChecked q k
    s).bp.Filed := by
  unfold admitChecked; split <;> simp [h]

@[simp] theorem admitWaitStep_filed (q : QueuedStep) (s : State) (h : s.bp.Filed) : (admitWaitStep q s).bp.Filed :=
    by
  unfold admitWaitStep; split <;> simp [h]

@[simp] theorem admitStep_filed (q : QueuedStep) (s : State) (h : s.bp.Filed) : (admitStep q s).bp.Filed := by
  unfold admitStep; split <;> simp [h]

@[simp] theorem admitHead_filed (s : State) (h : s.bp.Filed) : (admitHead s).bp.Filed := by
  unfold admitHead
  (repeat' split) <;> simp (maxDischargeDepth := 12) [h]

@[simp] theorem takeStepAdmission_filed (s : State) (h : s.bp.Filed) : (takeStepAdmission s).bp.Filed := by
  unfold takeStepAdmission; simp [h]

@[simp] theorem endWait_filed (w : Waiter) (s : State) (h : s.bp.Filed) : (endWait w s).bp.Filed := by
  unfold endWait; split <;> simp [h]

@[simp] theorem takeWaitTimeout_filed (s : State) (h : s.bp.Filed) : (takeWaitTimeout s).bp.Filed := by
  unfold takeWaitTimeout
  (repeat' split) <;> simp (maxDischargeDepth := 12) [h]

@[simp] theorem takeTimeRange_filed (s : State) (h : s.bp.Filed) : (takeTimeRange s).bp.Filed := by
  unfold takeTimeRange; split <;> simp [h]

@[simp] theorem startAt_filed (a : Addr) (s : State) (h : s.bp.Filed) : (startAt a s).bp.Filed := by
  unfold startAt; simp [h]

@[simp] theorem takeStart_filed (s : State) (h : s.bp.Filed) : (takeStart s).bp.Filed := by
  unfold takeStart
  (repeat' split) <;> simp (maxDischargeDepth := 12) [h]

@[simp] theorem drainProgram_filed (s : State) (h : s.bp.Filed) : (drainProgram s).bp.Filed := by
  unfold drainProgram; dsimp only
  refine settle_filed _ (drainEnd_filed _ ?_)
  simp [h]

@[simp] theorem takeDrain_filed (s : State) (h : s.bp.Filed) : (takeDrain s).bp.Filed := by
  unfold takeDrain; split <;> simp [h]

@[simp] theorem takeStopAtOnce_filed (s : State) (h : s.bp.Filed) : (takeStopAtOnce s).bp.Filed := by
  unfold takeStopAtOnce; split <;> simp [h]

@[simp] theorem takeStop_filed (op : Half) (s : State) (h : s.bp.Filed) : (takeStop op s).bp.Filed := by
  unfold takeStop
  (repeat' split) <;> simp (maxDischargeDepth := 12) [h]

@[simp] theorem takeBlankEnd_filed (n : Fin 4) (s : State) (h : s.bp.Filed) : (takeBlankEnd n s).bp.Filed := by
  unfold takeBlankEnd; split <;> simp [h]

@[simp] theorem takeEscalation_filed (n : Fin 4) (s : State) (h : s.bp.Filed) : (takeEscalation n s).bp.Filed := by
  unfold takeEscalation; split <;> simp [h]

@[simp] theorem takeAssertion_filed (n : Fin 4) (s : State) (h : s.bp.Filed) : (takeAssertion n s).bp.Filed := by
  unfold takeAssertion; split <;> simp [h]

@[simp] theorem takeDeassertion_filed (n : Fin 4) (s : State) (h : s.bp.Filed) : (takeDeassertion n s).bp.Filed := by
  unfold takeDeassertion; split <;> simp [h]

@[simp] theorem takeEdge_filed (n : Fin 16) (e : Edge) (s : State) (h : s.bp.Filed) : (takeEdge n e s).bp.Filed := by
  unfold takeEdge; split <;> simp [h]

@[simp] theorem requestDcb_filed (s : State) (h : s.bp.Filed) : (requestDcb s).bp.Filed := by
  unfold requestDcb; simp [h]

@[simp] theorem takeLoadContext_filed (s : State) (h : s.bp.Filed) : (takeLoadContext s).bp.Filed := by
  unfold takeLoadContext
  (repeat' split) <;> simp (maxDischargeDepth := 12) [h]

@[simp] theorem takeStageLimits_filed (s : State) (h : s.bp.Filed) : (takeStageLimits s).bp.Filed := by
  unfold takeStageLimits
  (repeat' split) <;> simp (maxDischargeDepth := 12) [h]

@[simp] theorem takeClearTrip_filed (s : State) (h : s.bp.Filed) : (takeClearTrip s).bp.Filed := by
  unfold takeClearTrip
  (repeat' split) <;> simp (maxDischargeDepth := 12) [h]

@[simp] theorem takeStamp_filed (s : State) (h : s.bp.Filed) : (takeStamp s).bp.Filed := by
  unfold takeStamp; split <;> simp [h]

@[simp] theorem takeDumpTallies_filed (op : Half) (s : State) (h : s.bp.Filed) : (takeDumpTallies op s).bp.Filed :=
    by
  unfold takeDumpTallies; split <;> simp [h]

@[simp] theorem ownerOf_filed (code : Byte) (op : Half) (s : State) (h : s.bp.Filed) : (ownerOf code op s).bp.Filed
    := by
  unfold ownerOf; split <;> simp [h]

@[simp] theorem softReset_filed (s : State) : (softReset s).bp.Filed := by
  exact BusPort.Filed.afterReset _

@[simp] theorem hardReset_filed (s : State) : (hardReset s).bp.Filed := by
  exact BusPort.Filed.afterReset _

@[simp] theorem setIrqEnable_filed (v : Word) (s : State) (h : s.bp.Filed) : (setIrqEnable v s).bp.Filed := by
  unfold setIrqEnable; simp [h]

@[simp] theorem writeControl_filed (v : Word) (s : State) (h : s.bp.Filed) : (writeControl v s).bp.Filed := by
  unfold writeControl; split <;> simp [h]

@[simp] theorem writeEventMask_filed (v : Word) (s : State) (h : s.bp.Filed) : (writeEventMask v s).bp.Filed := by
  unfold writeEventMask; simp [h]

@[simp] theorem writeEvents_filed (v : Word) (s : State) (h : s.bp.Filed) : (writeEvents v s).bp.Filed := by
  unfold writeEvents; simp [h]

@[simp] theorem writeWake_filed (s : State) (h : s.bp.Filed) : (writeWake s).bp.Filed := by
  unfold writeWake; simp [h]

@[simp] theorem writeArgLo_filed (v : Word) (s : State) (h : s.bp.Filed) : (writeArgLo v s).bp.Filed := by
  unfold writeArgLo; simp [h]

@[simp] theorem writeArgHi_filed (v : Word) (s : State) (h : s.bp.Filed) : (writeArgHi v s).bp.Filed := by
  unfold writeArgHi; simp [h]

theorem cmdWrite_filed (c : Byte) (op : Half) (f : State → State) (hf : ∀ s, s.bp.Filed → (f s).bp.Filed) (s : State)
    (h : s.bp.Filed) : (cmdWrite c op f s).bp.Filed := by
  unfold cmdWrite; (repeat' split) <;> first | with_reducible exact h | simp [h] | exact hf _ h

@[simp] theorem writeCmd_filed (v : Word) (s : State) (h : s.bp.Filed) : (writeCmd v s).bp.Filed := by
  unfold writeCmd; exact cmdWrite_filed _ _ _ (ownerOf_filed _ _) s h

@[simp] theorem writeRegister_filed (off : Nat) (size : AccessSize) (v : Word) (s : State) (h : s.bp.Filed) :
    (writeRegister off size v s).bp.Filed := by
  unfold writeRegister
  (repeat' split) <;> first
    | with_reducible exact h
    | exact writeCmd_filed _ _ h
    | simp (maxDischargeDepth := 12) [h]

@[simp] theorem commitOutputs_filed (c : Context) (s : State) (h : s.bp.Filed) : (commitOutputs c s).bp.Filed := by
  unfold commitOutputs commitLines commitGuards
  split <;> simp [h]

@[simp] theorem commitContext_filed (c : Context) (p : Pins) (s : State) (h : s.bp.Filed) : (commitContext c p
    s).bp.Filed := by
  unfold commitContext commitQuiet
  simp [h]

@[simp] theorem stageLimits_filed (m : Limits) (s : State) (h : s.bp.Filed) : (stageLimits m s).bp.Filed := by
  unfold stageLimits; split <;> simp [h]

@[simp] theorem takeHeader_filed (a : Addr) (q : Word) (hd : StripHeader) (s : State) (h : s.bp.Filed) : (takeHeader
    a q hd s).bp.Filed := by
  unfold takeHeader; split <;> simp [h]

@[simp] theorem takeLink_filed (s : State) (h : s.bp.Filed) : (takeLink s).bp.Filed := by
  unfold takeLink
  (repeat' split) <;> simp (maxDischargeDepth := 12) [h]

@[simp] theorem takeSteps_filed (b : Bool) (d : List Byte) (s : State) (h : s.bp.Filed) : (takeSteps b d s).bp.Filed
    := by
  unfold takeSteps; (try dsimp only)
  (repeat' split) <;> simp (maxDischargeDepth := 12) [h]

@[simp] theorem takeReread_filed (a : Addr) (s : State) (h : s.bp.Filed) : (takeReread a s).bp.Filed := by
  unfold takeReread
  (repeat' split) <;> simp (maxDischargeDepth := 12) [h]

@[simp] theorem fetchError_filed (s : State) (h : s.bp.Filed) : (fetchError s).bp.Filed := by
  unfold fetchError; simp [h]

@[simp] theorem takeRetired_filed (s : State) (h : s.bp.Filed) : (takeRetired s).bp.Filed := by
  unfold takeRetired
  (repeat' split) <;> simp (maxDischargeDepth := 12) [h]

@[simp] theorem retireError_filed (s : State) (h : s.bp.Filed) : (retireError s).bp.Filed := by
  unfold retireError; simp [h]

@[simp] theorem headerTaken_filed (r : ReadResult 32) (t : Transfer) (s : State) (h : s.bp.Filed) : (headerTaken r t
    s).bp.Filed := by
  unfold headerTaken; split <;> simp [h]

@[simp] theorem stepsTaken_filed (r : ReadResult 64) (t : Transfer) (s : State) (h : s.bp.Filed) : (stepsTaken r t
    s).bp.Filed := by
  unfold stepsTaken; split <;> simp [h]

@[simp] theorem linkTaken_filed (r : ReadResult 8) (t : Transfer) (s : State) (h : s.bp.Filed) : (linkTaken r t
    s).bp.Filed := by
  unfold linkTaken; split <;> simp [h]

@[simp] theorem retireTaken_filed (r : WriteResult) (s : State) (h : s.bp.Filed) : (retireTaken r s).bp.Filed := by
  unfold retireTaken; split <;> simp [h]

@[simp] theorem headerEnd_filed (r : ReadResult 32) (t : Transfer) (s : State) (h : s.bp.Filed) : (headerEnd r t
    s).bp.Filed := by
  unfold headerEnd; simp [h]

@[simp] theorem stepsEnd_filed (r : ReadResult 64) (t : Transfer) (s : State) (h : s.bp.Filed) : (stepsEnd r t
    s).bp.Filed := by
  unfold stepsEnd; simp [h]

@[simp] theorem linkEnd_filed (r : ReadResult 8) (t : Transfer) (s : State) (h : s.bp.Filed) : (linkEnd r t
    s).bp.Filed := by
  unfold linkEnd; simp [h]

@[simp] theorem retireEnd_filed (r : WriteResult) (s : State) (h : s.bp.Filed) : (retireEnd r s).bp.Filed := by
  unfold retireEnd; simp [h]

@[simp] theorem sheetReadEnd_filed (r : ReadResult 16) (t : Transfer) (s : State) (h : s.bp.Filed) : (sheetReadEnd r
    t s).bp.Filed := by
  unfold sheetReadEnd; simp [h]

@[simp] theorem recordEnd_filed (r : WriteResult) (s : State) (h : s.bp.Filed) : (recordEnd r s).bp.Filed := by
  unfold recordEnd; simp [h]

@[simp] theorem sheetWriteEnd_filed (r : WriteResult) (t : Transfer) (s : State) (h : s.bp.Filed) : (sheetWriteEnd r
    t s).bp.Filed := by
  unfold sheetWriteEnd; simp [h]

@[simp] theorem judgeShadow_filed (p : Pins) (s : State) (h : s.bp.Filed) : (judgeShadow p s).bp.Filed := by
  unfold judgeShadow; split <;> simp [h]

@[simp] theorem takeDcb_filed (d : List Byte) (p : Pins) (s : State) (h : s.bp.Filed) : (takeDcb d p s).bp.Filed :=
    by
  unfold takeDcb; dsimp only; split <;> simp [h]

@[simp] theorem dcbEnd_filed (r : ReadResult 64) (p : Pins) (s : State) (h : s.bp.Filed) : (dcbEnd r p s).bp.Filed :=
    by
  unfold dcbEnd; split <;> simp [h]

@[simp] theorem takeLimits_filed (d : List Byte) (s : State) (h : s.bp.Filed) : (takeLimits d s).bp.Filed := by
  unfold takeLimits; split <;> simp [h]

@[simp] theorem limitsEnd_filed (r : ReadResult 48) (s : State) (h : s.bp.Filed) : (limitsEnd r s).bp.Filed := by
  unfold limitsEnd; split <;> simp [h]

@[simp] theorem requestTallyHigh_filed (a : Addr) (t : TallySnapshot) (s : State) (h : s.bp.Filed) :
    (requestTallyHigh a t s).bp.Filed := by
  unfold requestTallyHigh; simp [h]

@[simp] theorem takeTally_filed (t : Transfer) (s : State) (h : s.bp.Filed) : (takeTally t s).bp.Filed := by
  unfold takeTally; split <;> simp [h]

@[simp] theorem tallyEnd_filed (r : WriteResult) (t : Transfer) (s : State) (h : s.bp.Filed) : (tallyEnd r t
    s).bp.Filed := by
  unfold tallyEnd; split <;> simp [h]

@[simp] theorem transferError_filed (t : Transfer) (s : State) (h : s.bp.Filed) : (transferError t s).bp.Filed := by
  unfold transferError; split <;> simp [h]

@[simp] theorem grantFirst_filed (s : State) (h : s.bp.Filed) : (grantFirst s).bp.Filed := by
  unfold grantFirst; split <;> simp [h]

/-! ## The ways a command reaches them -/

theorem endTransfer_filed (p : TransferKind → Bool) (act : Transfer → State → State)
    (ha : ∀ t s, s.bp.Filed → (act t s).bp.Filed) (s : State) (h : s.bp.Filed) : (endTransfer p act s).bp.Filed := by
  unfold endTransfer
  (repeat' split) <;> first
    | with_reducible exact h
    | exact grant_filed _ (freeBus_filed _ h)
    | exact ha _ _ (grantFirst_filed _ (freeBus_filed _ h))

@[simp] theorem takeResponseTimeout_filed (s : State) (h : s.bp.Filed) : (takeResponseTimeout s).bp.Filed :=
  endTransfer_filed _ _ transferError_filed s h

theorem registerAccess_filed (f : State → State) (hf : ∀ s, s.bp.Filed → (f s).bp.Filed) (s : State)
    (h : s.bp.Filed) : (registerAccess f s).bp.Filed := by
  unfold registerAccess; (repeat' split) <;> first | with_reducible exact h | exact hf _ h

theorem takeDue_filed (s : State) (h : s.bp.Filed) : (takeDue s).bp.Filed := by
  unfold takeDue
  dsimp only
  refine takeFlushAge_filed _ (takeSheetRecheck_filed _ (takeLinkWatch_filed _ ?_))
  refine foldl_inv (fun s => s.bp.Filed) _ (fun s a h => takeEscalation_filed a s h) _ _ ?_
  refine foldl_inv (fun s => s.bp.Filed) _ (fun s a h => takeBlankEnd_filed a s h) _ _ ?_
  refine foldl_inv (fun s => s.bp.Filed) _ (fun s a h => by simp [h]) _ _ ?_
  refine foldl_inv (fun s => s.bp.Filed) _ (fun s a h => by simp [h]) _ _ ?_
  exact takeWaitTimeout_filed _ (takeApplication_filed _ (takeTimeRange_filed _ h))

theorem takeTick_filed (s : State) (h : s.bp.Filed) : (takeTick s).bp.Filed := by
  unfold takeTick; split
  · exact h
  · simp; exact takeDue_filed s h

theorem sampleFault_filed (s : State) (n : Fin 4) (h : s.bp.Filed) : (sampleFault s n).bp.Filed := by
  unfold sampleFault setFaultRun; (repeat' split) <;> first | with_reducible exact h | simp [h]

theorem sampleInput_filed (s : State) (n : Fin 16) (h : s.bp.Filed) : (sampleInput s n).bp.Filed := by
  unfold sampleInput setInputRun; (repeat' split) <;> first | with_reducible exact h | simp [h]

theorem period_filed (s : State) (h : s.bp.Filed) : s.bp.period.Filed := h.inFlight _

theorem idle_filed (s : State) (h : s.bp.Filed) : (idle s).bp.Filed := by
  have bp : ∀ s : State, s.bp.Filed → (busPeriod s).bp.Filed := fun s h => by
    unfold busPeriod; dsimp only; split
    · exact endTransfer_filed _ _ transferError_filed _ (period_filed s h)
    · exact period_filed s h
  unfold idle; split
  · exact bp s h
  · unfold samplePeriod admitAll; simp
    refine foldl_inv (fun s => s.bp.Filed) _ (fun s n h => sampleInput_filed s n h) _ _ ?_
    refine foldl_inv (fun s => s.bp.Filed) _ (fun s n h => sampleFault_filed s n h) _ _ (bp _ ?_)
    exact foldl_inv (fun s => s.bp.Filed) _ (fun s n h => takeStepAdmission_filed s h) _ _ (takeDue_filed _ h)

/-! ## Every command, and every step -/

theorem exec_filed (c : Instr) (s t : State) (h : s.bp.Filed) (e : exec c s = .next t) : t.bp.Filed := by
  cases c <;> (injection e with e; subst e)
  all_goals first
    | with_reducible exact registerAccess_filed _ (fun s h => by simp [h]) _ h
    | with_reducible exact cmdWrite_filed _ _ _ (fun s h => by simp [h]) _ h
    | with_reducible exact endTransfer_filed _ _ (fun t s h => by simp [h]) _ h
    | with_reducible exact takeTick_filed _ h
    | simp [h]

theorem step_filed (s t : State) (h : s.bp.Filed) (e : step s = .next t) : t.bp.Filed := by
  unfold step at e
  split at e
  · refine exec_filed _ _ _ ?_ e; exact h
  · injection e with e; subst e; exact idle_filed _ h

end Sys2Proof.Machine
end

