-- ==== Sys2Proof/Laws/Output.lean ====
section
/-! SUPPORT. Output.lean: the Output Stage line by line, and the safety of its records: a resolution makes every line's
drive follow its target, whatever came before (R108, R109), and no event breaks a pair (R107, R111, R115). -/
namespace Sys2Proof.Machine

set_option Elab.async false

/-! ## Line by line -/

@[simp] theorem mapLines_line (f : Fin 16 → Line → Line) (o : OutputStage) (n : Fin 16) :
    (o.mapLines f).lines[n] = f n o.lines[n] := by simp [OutputStage.mapLines]

@[simp] theorem mapLines_pairs (f : Fin 16 → Line → Line) (o : OutputStage) : (o.mapLines f).pairs = o.pairs := by
  simp only [OutputStage.mapLines]

@[simp] theorem resolve_pairs (t : Time) (o : OutputStage) : (o.resolve t).pairs = o.pairs := by
  simp only [OutputStage.resolve, OutputStage.judgeRises, OutputStage.settleFalls, mapLines_pairs]

/-- Two lines agree in the fields that the target and the pair rules read. -/
def Line.SameRequest (a b : Line) : Prop :=
  a.role = b.role ∧ a.safe = b.safe ∧ a.requested = b.requested ∧ a.clampSet = b.clampSet ∧ a.await = b.await ∧
    a.covered = b.covered ∧ a.idle = b.idle ∧ a.stop = b.stop

theorem settleFall_same (t : Time) (l : Line) : (l.settleFall t).SameRequest l := by
  unfold Line.settleFall Line.SameRequest; (repeat' split) <;> simp

theorem judgeRise_same (t : Time) (p : Pair) (f : Option Time) (l : Line) : (l.judgeRise t p f).SameRequest l := by
  unfold Line.judgeRise Line.SameRequest; (repeat' split) <;> simp

theorem Line.SameRequest.trans {a b c : Line} (h : a.SameRequest b) (k : b.SameRequest c) : a.SameRequest c := by
  simp_all [Line.SameRequest]

theorem Line.SameRequest.target {a b : Line} (h : a.SameRequest b) : a.target = b.target := by
  simp_all [Line.SameRequest, Line.target, Line.forced]

/-- Resolution changes driven states, last falls and deferrals only. -/
theorem resolve_same (t : Time) (o : OutputStage) (n : Fin 16) : (o.resolve t).lines[n].SameRequest o.lines[n] := by
  simp only [OutputStage.resolve, OutputStage.judgeRises, OutputStage.settleFalls, mapLines_line]
  exact (judgeRise_same _ _ _ _).trans (settleFall_same _ _)

/-! ## Drive follows target -/

theorem settleFall_driveOk (t : Time) (l : Line) : (l.settleFall t).driveOk := by
  intro h
  rw [(settleFall_same t l).target]
  unfold Line.settleFall at h
  split at h <;> simp_all

theorem judgeRise_driveOk (t : Time) (p : Pair) (f : Option Time) (l : Line) (h : l.driveOk) :
    (l.judgeRise t p f).driveOk := by
  intro k
  rw [(judgeRise_same t p f l).target]
  unfold Line.judgeRise at k
  split at k
  · simp_all
  · exact h k

/-- After a resolution a line is driven HIGH, or deferred, only where its target is HIGH. -/
theorem resolve_driveOk (t : Time) (o : OutputStage) (n : Fin 16) : (o.resolve t).lines[n].driveOk := by
  simp only [OutputStage.resolve, OutputStage.judgeRises, OutputStage.settleFalls, mapLines_line]
  exact judgeRise_driveOk _ _ _ _ (settleFall_driveOk _ _)

/-! ## Pairs -/

/-- Every pair keeps its rules. -/
def OutputStage.PairsKept (o : OutputStage) : Prop := ∀ k : Fin 8, o.pairKept k

/-- Records that agree in pairs, roles, safe levels and requests keep the same pair rules. -/
theorem PairsKept_of_same {a b : OutputStage} (hp : ∀ k : Fin 8, a.pairs[k].enabled = b.pairs[k].enabled)
    (hl : ∀ n : Fin 16, a.lines[n].role = b.lines[n].role ∧ a.lines[n].safe = b.lines[n].safe ∧
      a.lines[n].requested = b.lines[n].requested) (h : b.PairsKept) : a.PairsKept := by
  intro k he
  have := h k (by rw [← hp k]; exact he)
  have hu := hl (upperLine k)
  have hw := hl (lowerLine k)
  simp only [hu, hw]
  exact this

theorem resolve_safe (t : Time) (o : OutputStage) (h : o.PairsKept) : (o.resolve t).Safe :=
  ⟨resolve_driveOk t o, PairsKept_of_same (b := o) (fun k => by rw [resolve_pairs])
    (fun n => ⟨(resolve_same t o n).1, (resolve_same t o n).2.1, (resolve_same t o n).2.2.1⟩) h⟩

@[simp] theorem osResolve_os (s : State) : (osResolve s).os = s.os.resolve s.tb.tl := rfl

/-- The end of an OS event makes the records safe if its changes kept the pairs. -/
theorem osEvent_safe (f : OutputStage → OutputStage) (s : State) (h : (f s.os).PairsKept) : (osEvent f s).os.Safe :=
  resolve_safe _ _ h

theorem OutputStage.Safe.pairs {o : OutputStage} (h : o.Safe) : o.PairsKept := h.2

/-- A change of clamp sets, await flags and coverage alone keeps the pairs. -/
theorem mapLines_pairsKept (f : Fin 16 → Line → Line) (o : OutputStage)
    (hf : ∀ n l, (f n l).role = l.role ∧ (f n l).safe = l.safe ∧ (f n l).requested = l.requested) (h : o.PairsKept) :
    (o.mapLines f).PairsKept :=
  PairsKept_of_same (b := o) (fun k => by rw [mapLines_pairs]) (fun n => by rw [mapLines_line]; exact hf n _) h

theorem clampOn_pairsKept (n : Fin 4) (m : Half) (o : OutputStage) (h : o.PairsKept) : (o.clampOn n m).PairsKept :=
  mapLines_pairsKept _ _ (fun _ _ => by split <;> simp) h

theorem clampOff_pairsKept (n : Fin 4) (b : Bool) (o : OutputStage) (h : o.PairsKept) : (o.clampOff n b).PairsKept :=
  mapLines_pairsKept _ _ (fun _ _ => by split <;> simp) h

theorem cover_pairsKept (m : Half) (o : OutputStage) (h : o.PairsKept) : (o.cover m).PairsKept :=
  mapLines_pairsKept _ _ (fun _ _ => by split <;> simp) h

theorem uncover_pairsKept (o : OutputStage) (h : o.PairsKept) : o.uncover.PairsKept :=
  mapLines_pairsKept _ _ (fun _ _ => by simp) h

theorem setDeadTimes_pairsKept (m : Limits) (o : OutputStage) (h : o.PairsKept) : (o.setDeadTimes m).PairsKept :=
  PairsKept_of_same (fun k => by simp [OutputStage.setDeadTimes]) (fun _ => by simp [OutputStage.setDeadTimes]) h

theorem newDeadTimes_pairsKept (t : Time) (m : Limits) (o : OutputStage) (h : o.PairsKept) :
    (o.newDeadTimes t m).PairsKept :=
  PairsKept_of_same (fun k => by simp [OutputStage.newDeadTimes, OutputStage.setDeadTimes])
    (fun n => by
      simp only [OutputStage.newDeadTimes, mapLines_line, Line.recomputeDeferral]
      split <;> simp [OutputStage.setDeadTimes])
    h

/-! ## Requests: changes, suppression, end levels, forced levels -/

/-- The part of the pair rules that requests cannot break. -/
def OutputStage.PairsSet (o : OutputStage) : Prop :=
  ∀ k : Fin 8, o.pairs[k].enabled = true →
    o.lines[lowerLine k].role = .sequenced ∧ o.lines[upperLine k].role = .sequenced ∧
      o.lines[lowerLine k].safe ≠ .high ∧ o.lines[upperLine k].safe ≠ .high

theorem PairsKept.set {o : OutputStage} (h : o.PairsKept) : o.PairsSet := fun k he =>
  ⟨(h k he).1, (h k he).2.1, (h k he).2.2.1, (h k he).2.2.2.1⟩

@[simp] theorem ask_role (v : Level) (l : Line) : (l.ask v).role = l.role := by unfold Line.ask; split <;> rfl

@[simp] theorem ask_safe (v : Level) (l : Line) : (l.ask v).safe = l.safe := by unfold Line.ask; split <;> rfl

theorem mapLines_pairsSet (f : Fin 16 → Line → Line) (o : OutputStage)
    (hf : ∀ n l, (f n l).role = l.role ∧ (f n l).safe = l.safe) (h : o.PairsSet) : (o.mapLines f).PairsSet := by
  intro k he
  rw [mapLines_pairs] at he
  simp only [mapLines_line, hf]
  exact h k he

theorem change_pairsSet (c : Change) (o : OutputStage) (h : o.PairsSet) : (o.change c).PairsSet :=
  mapLines_pairsSet _ _ (fun _ _ => by split <;> simp) h

theorem endLevels_pairsSet (o : OutputStage) (h : o.PairsSet) : o.endLevels.PairsSet :=
  mapLines_pairsSet _ _ (fun _ _ => by split <;> simp) h

@[simp] theorem pairOf_lower (k : Fin 8) : pairOf (lowerLine k) = k := by
  apply Fin.ext; simp [pairOf, lowerLine]

@[simp] theorem pairOf_upper (k : Fin 8) : pairOf (upperLine k) = k := by
  apply Fin.ext; simp [pairOf, upperLine]; omega

@[simp] theorem suppress_pairs (o : OutputStage) : o.suppress.pairs = o.pairs := by
  simp only [OutputStage.suppress, mapLines_pairs]

/-- Suppression leaves no enabled pair both requested HIGH (R107). -/
theorem suppress_pairsKept (o : OutputStage) (h : o.PairsSet) : o.suppress.PairsKept := by
  intro k he
  have he' : o.pairs[k].enabled = true := by rwa [suppress_pairs] at he
  obtain ⟨a, b, c, d⟩ := h k he'
  simp only [OutputStage.suppress, mapLines_line, pairOf_lower, pairOf_upper]
  by_cases hb : o.bothHigh k
  · rw [if_pos hb, if_pos hb]
    exact ⟨a, b, c, d, fun e => by cases e.1⟩
  · rw [if_neg hb, if_neg hb]
    simp only [OutputStage.bothHigh, he', Bool.true_and, Bool.and_eq_true, beq_iff_eq] at hb
    exact ⟨a, b, c, d, hb⟩

theorem suppressShoot_os (s : State) : (suppressShoot s).os = s.os.suppress :=
  foldl_keeps _ (fun s => s.os) (fun s k => by simp) _ _

theorem makeChange_pairsKept (s : State) (c : Change) (h : s.os.PairsSet) : (makeChange s c).os.PairsKept := by
  unfold makeChange
  rw [suppressShoot_os]
  exact suppress_pairsKept _ (change_pairsSet c _ h)

@[simp] theorem osBatch_safe (cs : List Change) (s : State) (h : s.os.Safe) : (osBatch cs s).os.Safe := by
  unfold osBatch
  split
  · exact h
  · rw [osResolve_os]
    refine resolve_safe _ _ ?_
    have : ∀ (l : List Change) (s : State), s.os.PairsKept → (l.foldl makeChange s).os.PairsKept := by
      intro l
      induction l with
      | nil => exact fun _ h => h
      | cons c l ih => exact fun s h => ih _ (makeChange_pairsKept s c (PairsKept.set h))
    exact this cs s h.pairs

@[simp] theorem osEndLevels_safe (s : State) (h : s.os.Safe) : (osEndLevels s).os.Safe := by
  rw [osEndLevels, osResolve_os]
  refine resolve_safe _ _ ?_
  rw [suppressShoot_os]
  exact suppress_pairsKept _ (endLevels_pairsSet _ (PairsKept.set h.pairs))

/-! ## Tick events of one line -/

theorem setLine_line (o : OutputStage) (n m : Fin 16) (l : Line) :
    ({ o with lines := o.lines.set n l } : OutputStage).lines[m] = if n = m then l else o.lines[m] := by
  by_cases h : n = m
  · subst h; simp
  · simp [h, Fin.val_ne_of_ne h]

/-- One line's working fields change and its drive still follows its target. -/
theorem setLine_safe (o : OutputStage) (n : Fin 16) (l : Line) (hs : l.SameRequest o.lines[n]) (hd : l.driveOk)
    (h : o.Safe) : ({ o with lines := o.lines.set n l } : OutputStage).Safe := by
  have hp : ({ o with lines := o.lines.set n l } : OutputStage).pairs = o.pairs := rfl
  refine ⟨fun m => ?_, PairsKept_of_same (b := o) (fun k => by rw [hp]) (fun m => ?_) h.2⟩
  · rw [setLine_line]; split
    · exact hd
    · exact h.1 m
  · rw [setLine_line]; split
    · next e => subst e; exact ⟨hs.1, hs.2.1, hs.2.2.1⟩
    · exact ⟨rfl, rfl, rfl⟩

@[simp] theorem takeDeferredRise_safe (n : Fin 16) (s : State) (h : s.os.Safe) : (takeDeferredRise n s).os.Safe := by
  unfold takeDeferredRise
  split
  · next hr =>
    refine setLine_safe _ _ _ (by simp [Line.SameRequest, Line.rise]) (fun _ => ?_) h
    have := h.1 n (Or.inr (by simp [riseDue] at hr; simp [hr]))
    simpa [Line.target, Line.forced, Line.rise] using this
  · exact h

@[simp] theorem takeLastFallDiscard_safe (n : Fin 16) (s : State) (h : s.os.Safe) : (takeLastFallDiscard n s).os.Safe := by
  unfold takeLastFallDiscard
  split
  · exact setLine_safe _ _ _ (by simp [Line.SameRequest]) (fun k => h.1 n k) h
  · exact h

end Sys2Proof.Machine
end

