-- ==== Sys2Proof/Laws/Quiet.lean ====
section
/-! SUPPORT. Quiet.lean: taking the notices leaves no notice out, whatever came before, and changes nothing where none is
out. -/
namespace Sys2Proof.Machine

set_option Elab.async false

theorem takeNotices_of_quiet {s : State} (h : Quiet s) : takeNotices s = s := by
  obtain ⟨a, b, c, d, e⟩ := h
  have h1 : deliverTrip s = s := by simp [deliverTrip, a]
  have h2 : fuEvaluate s = s := by simp [fuEvaluate, b, FetchUnit.finish, c]
  have h3 : takeRetirementDone s = s := by
    unfold takeRetirementDone; split
    · next hd => split
                 · next hp => rw [d hp] at hd; cases hd
                 · rfl
    · rfl
  have h4 : reportStarved s = s := by simp [reportStarved, e]
  rw [takeNotices, h1, h2, h3, h1, h4]

/-- What the notices are taken from: the state of a slot that is already judged. -/
theorem markReady_idem (f : FetchUnit) : f.markReady.markReady = f.markReady := by
  have hn : f.markReady.newest.map Slot.sequence = f.newest.map Slot.sequence := by
    simp only [FetchUnit.newest, FetchUnit.markReady, List.getLast?_map, Option.map_map]
    congr 1; funext sl; simp only [Function.comp]; split <;> rfl
  have ht : ∀ sl, f.markReady.isTail sl = f.isTail sl := fun sl => by
    simp only [FetchUnit.isTail, hn]; rfl
  have hr : ∀ sl, f.markReady.retirable sl = f.retirable sl := fun sl => by
    simp only [FetchUnit.retirable, ht]; rfl
  have : f.markReady.markReady.table = f.markReady.table := by
    simp only [FetchUnit.markReady, List.map_map]
    congr 1; funext sl; simp only [Function.comp]
    have hr' := hr
    simp only [FetchUnit.markReady] at hr'
    by_cases h : f.retirable sl
    · simp only [h, if_true]
      rw [hr']
      simp [FetchUnit.retirable, Slot.makeReady]
    · simp only [h]; simp [hr', h]
  calc f.markReady.markReady = { f.markReady with table := f.markReady.markReady.table } := rfl
    _ = f.markReady := by rw [this]

theorem finish_idle (f : FetchUnit) : ¬(f.finish.state = .stopped ∧ f.finish.table = []) := by
  unfold FetchUnit.finish; split
  · simp
  · assumption

theorem evaluate_judged (f : FetchUnit) : f.markReady.finish.markReady = f.markReady.finish := by
  unfold FetchUnit.finish; split
  · next h =>
    simp [FetchUnit.markReady] at *
    simp [h.2]
  · exact markReady_idem f

@[simp] theorem reportStarved_quiet (s : State) : starving (reportStarved s) = false := by
  unfold reportStarved; split
  · simp [starving]
  · next h => simpa using h

@[simp] theorem blank_trip (t : Time) (e : List (Fin 16)) (g : GuardUnit) : (g.blank t e).tripNotice = g.tripNotice ∧
    (g.blank t e).latch = g.latch ∧ (g.blank t e).sources = g.sources ∧ (g.blank t e).mask = g.mask := ⟨rfl, rfl, rfl, rfl⟩

@[simp] theorem osResolve_trip (s : State) : (osResolve s).gu.tripNotice = s.gu.tripNotice ∧ (osResolve s).gu.latch = s.gu.latch := by
  simp [osResolve]
@[simp] theorem osEvent_trip (f : OutputStage → OutputStage) (s : State) : (osEvent f s).gu.tripNotice = s.gu.tripNotice ∧
    (osEvent f s).gu.latch = s.gu.latch := by
  simp [osEvent]
@[simp] theorem osEndLevels_trip (s : State) : (osEndLevels s).gu.tripNotice = s.gu.tripNotice ∧
    (osEndLevels s).gu.latch = s.gu.latch := by simp [osEndLevels]
@[simp] theorem enterStopping_trip (o : ProgramOutcome) (r : Reason) (s : State) :
    (enterStopping o r s).gu.tripNotice = s.gu.tripNotice ∧ (enterStopping o r s).gu.latch = s.gu.latch := by
  unfold enterStopping; dsimp only; split <;> simp
@[simp] theorem takeTripAbort_trip (s : State) : (takeTripAbort s).gu.tripNotice = s.gu.tripNotice ∧
    (takeTripAbort s).gu.latch = s.gu.latch := by unfold takeTripAbort; split <;> simp
@[simp] theorem coverLines_trip (m : Half) (s : State) : (coverLines m s).gu.tripNotice = s.gu.tripNotice ∧
    (coverLines m s).gu.latch = s.gu.latch := by simp [coverLines]
@[simp] theorem deliverTrip_trip (s : State) : (deliverTrip s).gu.tripNotice = none ∧ (deliverTrip s).gu.latch = s.gu.latch := by
  unfold deliverTrip; split
  · next h => exact ⟨h, rfl⟩
  · dsimp only; split <;> simp
theorem takeTripAbort_inactive {s : State} (h : s.su.program.active = false) : takeTripAbort s = s := by
  simp [takeTripAbort, h]
theorem deliverTrip_none {s : State} (h : s.gu.tripNotice = none) : deliverTrip s = s := by simp [deliverTrip, h]
theorem deliverTrip_inactive {s : State} (h : s.su.program.active = false) :
    (deliverTrip s).su = s.su ∧ (deliverTrip s).fu = s.fu := by
  unfold deliverTrip; split
  · exact ⟨rfl, rfl⟩
  · dsimp only
    split
    · rw [takeTripAbort_inactive (by simpa using h)]; simp
    · rw [takeTripAbort_inactive (by simpa using h)]; simp
@[simp] theorem programEnd_program (b : Bool) (s : State) : (programEnd b s).su.program = .idle := by
  unfold programEnd; dsimp only; split <;> simp

/-- Whatever came before, no notice is out after the notices have been taken. -/
theorem takeNotices_quiet (s : State) : Quiet (takeNotices s) := by
  unfold takeNotices
  have key : ∀ b : State, b.fu.markReady = b.fu → ¬(b.fu.state = .stopped ∧ b.fu.table = []) →
      (b.su.program = .stopping → b.fu.doneNotice = none) → b.gu.tripNotice = none → Quiet (reportStarved b) := by
    intro b h1 h2 h3 h4
    refine ⟨by simpa using h4, ?_, ?_, ?_, reportStarved_quiet b⟩
    · unfold reportStarved; split
      · have : ({ b.fu with starvedReported := true } : FetchUnit).markReady = { b.fu.markReady with starvedReported := true } := rfl
        simp [this, h1]
      · exact h1
    · unfold reportStarved; split <;> simpa using h2
    · unfold reportStarved; split <;> simpa using h3
  have ha : (deliverTrip s).gu.tripNotice = none := by simp
  generalize deliverTrip s = a at ha
  have hj : (fuEvaluate a).fu.markReady = (fuEvaluate a).fu := evaluate_judged a.fu
  have hi : ¬((fuEvaluate a).fu.state = .stopped ∧ (fuEvaluate a).fu.table = []) := finish_idle a.fu.markReady
  have hg : (fuEvaluate a).gu.tripNotice = none := by simpa using ha
  generalize fuEvaluate a = b at hj hi hg
  unfold takeRetirementDone
  split
  · next x hd =>
    split
    · next hp =>
      have e := deliverTrip_inactive (s := programEnd x { b with fu := { b.fu with doneNotice := none } }) (by simp [ProgramState.active])
      refine key _ ?_ ?_ ?_ (by simp)
      · rw [e.2]; simp
        have : ({ b.fu with doneNotice := none } : FetchUnit).markReady = { b.fu.markReady with doneNotice := none } := rfl
        rw [this, hj]
      · rw [e.2]; simpa using hi
      · rw [e.2]; simp
    · next hp =>
      rw [deliverTrip_none hg]
      exact key b hj hi (fun h => absurd h hp) hg
  · next hd =>
    rw [deliverTrip_none hg]
    exact key b hj hi (fun _ => hd) hg

theorem quiet_congr {s t : State} (hg : t.gu.tripNotice = s.gu.tripNotice) (hs : t.su = s.su)
    (hm : t.fu.markReady = t.fu) (h2 : ¬(t.fu.state = .stopped ∧ t.fu.table = []))  (hd : t.fu.doneNotice = s.fu.doneNotice)
    (hst : t.fu.state = s.fu.state) (hr : t.fu.starvedReported = s.fu.starvedReported) (h : Quiet s) : Quiet t := by
  obtain ⟨a, b, c, d, e⟩ := h
  refine ⟨hg.trans a, hm, h2, ?_, ?_⟩
  · rw [hs, hd]; exact d
  · simpa [starving, hs, hst, hr] using e
theorem markReady_congr {f g : FetchUnit} (ht : f.table = g.table) (hs : f.state = g.state) (h : g.markReady = g) :
    f.markReady = f := by
  have h' : g.markReady.table = g.table := by rw [h]
  have hr : ∀ sl, f.retirable sl = g.retirable sl := fun sl => by
    simp [FetchUnit.retirable, FetchUnit.isTail, FetchUnit.newest, ht, hs]
  have : f.markReady.table = f.table := by
    simp only [FetchUnit.markReady, hr, ht]; exact h'
  calc f.markReady = { f with table := f.markReady.table } := rfl
    _ = f := by rw [this]

@[simp] theorem requestRead_fu (s : State) : (requestRead s).fu.table = s.fu.table ∧ (requestRead s).fu.state = s.fu.state ∧
   (requestRead s).fu.doneNotice = s.fu.doneNotice ∧ (requestRead s).fu.starvedReported = s.fu.starvedReported := by
  unfold requestRead requestHeader requestLink; (repeat' split) <;> simp
@[simp] theorem fuPump_fu (s : State) : (fuPump s).fu.table = s.fu.table ∧ (fuPump s).fu.state = s.fu.state ∧
   (fuPump s).fu.doneNotice = s.fu.doneNotice ∧ (fuPump s).fu.starvedReported = s.fu.starvedReported := by
  unfold fuPump; (repeat' split) <;> simp
@[simp] theorem pump_fu (s : State) : (pump s).fu.table = s.fu.table ∧ (pump s).fu.state = s.fu.state ∧
   (pump s).fu.doneNotice = s.fu.doneNotice ∧ (pump s).fu.starvedReported = s.fu.starvedReported := by
  unfold pump; simp
theorem pump_quiet {s : State} (h : Quiet s) : Quiet (pump s) :=
  quiet_congr (by simp) (by simp) (markReady_congr (by simp) (by simp) h.2.1) (by simpa using h.2.2.1) (by simp) (by simp) (by simp) h
@[simp] theorem settle_quiet (s : State) : Quiet (settle s) := pump_quiet (takeNotices_quiet s)
end Sys2Proof.Machine
end

