-- ==== Sys2Proof/Laws/Asked.lean ====
section
/-! SUPPORT. Asked.lean: what the FU asks for at the end of an event (R20, R23, R29, R33), when STARVED is raised (R32) and
what an offer counts (R153), in the words of Safety.lean. -/
namespace Sys2Proof.Machine

/-! ## Requests and grants -/

/-- A waiting request is held after a grant: it waits still, or it has just started. -/
theorem BusPort.holds_grant {b : BusPort} {t : Transfer} (h : b.waiting t.kind.owner = some t) : b.grant.holds t := by
  unfold BusPort.holds BusPort.grant
  revert h
  cases t.kind.owner <;> intro h <;> simp only [BusPort.waiting] at h ⊢ <;> split <;> simp_all

/-- A request is held after the next grant. -/
theorem request_holds (k : TransferKind) (a : Addr) (s : State) : (grant (request k a s)).bp.holds (asked k a) :=
  BusPort.holds_grant (by
    simp only [request, BusPort.request, asked]
    cases k.owner <;> rfl)

/-- A grant gives the FU no transfer it has not asked for. -/
theorem BusPort.grant_outstanding {b : BusPort} (h : b.outstanding .fu = false) (hj : ∀ t, b.jw = some t → t.kind.owner ≠ .fu)
    (hc : ∀ t, b.cp = some t → t.kind.owner ≠ .fu) : b.grant.outstanding .fu = false := by
  unfold BusPort.grant
  split <;> simp_all [BusPort.outstanding, BusPort.waiting, Flight.start]

/-- The same for filed requests. -/
theorem BusPort.Filed.grant_outstanding {b : BusPort} (hf : b.Filed) (h : b.outstanding .fu = false) :
    b.grant.outstanding .fu = false :=
  BusPort.grant_outstanding h (fun t ht => by rw [hf .jw t ht]; nofun) (fun t ht => by rw [hf .cp t ht]; nofun)

/-- The JW's request leaves the FU's place and the transfer in flight as they are. -/
theorem jwPump_bp (s : State) : (jwPump s).bp.fu = s.bp.fu ∧ (jwPump s).bp.inFlight = s.bp.inFlight := by
  unfold jwPump
  (repeat' split) <;> (try exact ⟨rfl, rfl⟩)
  all_goals
    unfold writeNext
    (repeat' split) <;> (try exact ⟨rfl, rfl⟩)
    all_goals
      unfold finishClose
      split <;> exact ⟨rfl, rfl⟩

theorem jwPump_outstanding (s : State) : (jwPump s).bp.outstanding .fu = s.bp.outstanding .fu := by
  simp [BusPort.outstanding, BusPort.waiting, jwPump_bp s]

/-! ## The FU at the end of an event -/

/-- With no transfer of the FU outstanding, its request asks for the retire write of a RETIRE_READY head, and else for the
next step read. -/
theorem fuPump_fetchAsked (s : State) (hf : s.bp.Filed) (h : s.bp.outstanding .fu = false) :
    FetchAsked (grant (fuPump s)) := by
  constructor
  · intro x hx hr o ho
    obtain ⟨l, hl⟩ : ∃ l, s.fu.table = x :: l := by
      cases ht : s.fu.table <;> simp_all
    have e : fuPump s = requestRetire x s := by simp [fuPump, h, hl, hr]
    rw [e]
    simpa [requestRetire, ho, low32] using request_holds (.retireWrite _) _ s
  · intro hs hn x hx hxf
    have e : fuPump s = requestSteps x s := by
      have hs' : s.fu.state = .fetching := by simpa using hs
      have hx' : s.fu.newest = some x := by simpa [FetchUnit.newest] using hx
      have hr : requestRead s = requestSteps x s := by simp [requestRead, hs', hx', hxf]
      cases ht : s.fu.table with
      | nil => simp [fuPump, h, ht, hr]
      | cons y l =>
        have hy : y.state ≠ .retireReady := hn y (by simp [ht])
        simp [fuPump, h, ht, hy, hr]
    have hsu : (grant (requestSteps x s)).su = s.su := by rw [← e]; simp
    rw [e]
    dsimp only
    rw [hsu]
    unfold requestSteps queueRoom Slot.unfetched Config.queueCapacity
    constructor
    · intro hz
      simpa [hz] using hf.grant_outstanding h
    · intro hz
      rw [if_neg (by omega)]
      exact request_holds (.stepRead _) _ s

/-- The same at the end of an event, where the JW makes its request first. -/
theorem pump_fetchAsked (s : State) (hf : s.bp.Filed) (h : s.bp.outstanding .fu = false) : FetchAsked (pump s) :=
  fuPump_fetchAsked (jwPump s) (jwPump_filed s hf) ((jwPump_outstanding s).trans h)

/-- With no transfer of the FU outstanding, a FETCHING unit whose newest strip is fetched asks for the header at the next
address, or keeps the address. -/
theorem fuPump_headerNext (s : State) (a : Addr) (hf : s.bp.Filed) (h : s.bp.outstanding .fu = false)
    (hs : s.fu.state = .fetching) (hn : ∀ x, s.fu.newest = some x → x.state ≠ .fetching) (ha : s.fu.nextAddress = some a) :
    HeaderNext a s.fu.nextSequence (grant (fuPump s)) := by
  have ht : (grant (fuPump s)).fu.table = s.fu.table := by simp
  have hr : requestRead s = requestHeader s := by
    unfold requestRead
    rw [hs]
    cases hx : s.fu.newest with
    | none => rfl
    | some x => simp [hn x hx]
  have hfree : s.fu.slotFree (slotOfSequence s.fu.nextSequence) = true ↔
      ∀ x ∈ s.fu.table, x.number.val ≠ s.fu.nextSequence.toNat % 8 := by
    simp [FetchUnit.slotFree, slotOfSequence, Fin.ext_iff]
  have hread : NoRetireFirst (grant (fuPump s)) → fuPump s = requestHeader s := by
    intro hn
    unfold NoRetireFirst at hn
    rw [ht] at hn
    cases hl : s.fu.table with
    | nil => simp [fuPump, h, hl, hr]
    | cons y l =>
      have hy : y.state ≠ .retireReady := hn y (by simp [hl])
      simp [fuPump, h, hl, hy, hr]
  unfold HeaderNext
  rw [ht, ← hfree]
  refine ⟨fun hn hq => ?_, fun hq => ?_, fun hn hq => ?_⟩
  · rw [hread hn]
    have e : requestHeader s = request (.stripHeaderRead s.fu.nextSequence) a
        { s with fu := { s.fu with nextAddress := none, nextSequence := s.fu.nextSequence + 1#32 } } := by
      simp [requestHeader, ha, hq]
    rw [e]
    exact ⟨rfl, rfl, request_holds _ _ _⟩
  · have e : (fuPump s).fu = s.fu := by
      by_cases hn : NoRetireFirst (grant (fuPump s))
      · rw [hread hn]
        have hq' : ¬s.fu.slotFree (slotOfSequence s.fu.nextSequence) = true := fun g => hq ⟨hn, g⟩
        simp [requestHeader, ha, hq']
      · unfold NoRetireFirst at hn
        rw [ht] at hn
        cases hl : s.fu.table with
        | nil => simp [hl] at hn
        | cons y l =>
          have hy : y.state = .retireReady := by simpa [hl] using hn
          simp [fuPump, h, hl, hy, requestRetire]
    exact ⟨by simp [e, ha], by simp [e]⟩
  · rw [hread hn]
    have e : requestHeader s = s := by simp [requestHeader, ha, hq]
    rw [e]
    exact hf.grant_outstanding h

/-- With no transfer of the FU outstanding, a WATCHING unit that tracks a strip asks for a wanted re-read. -/
theorem fuPump_linkAsked (s : State) (h : s.bp.outstanding .fu = false) (hs : s.fu.state = .watching)
    (hw : s.fu.rereadWanted = true) (ht : s.fu.table ≠ []) : LinkAsked s (grant (fuPump s)) := by
  obtain ⟨y, l, hl⟩ : ∃ y l, s.fu.table = y :: l := by
    cases hc : s.fu.table with
    | nil => exact absurd hc ht
    | cons y l => exact ⟨y, l, rfl⟩
  have hf : (grant (fuPump s)).fu.table = s.fu.table := by simp
  have hh : NoRetireFirst (grant (fuPump s)) ↔ y.state ≠ .retireReady := by
    unfold NoRetireFirst; rw [hf, hl]; simp
  rw [LinkAsked, hh]
  constructor
  · intro hy
    obtain ⟨x, hx⟩ : ∃ x, s.fu.newest = some x := by
      simp [FetchUnit.newest, hl, List.getLast?_cons]
    have e : fuPump s = requestLink s := by simp [fuPump, h, hl, hy, requestRead, hs, hw]
    have hn : (grant (fuPump s)).fu.newest = some x := by unfold FetchUnit.newest; rw [hf]; exact hx
    refine ⟨fun z hz => ?_, ?_, ?_⟩
    · obtain rfl : x = z := by rw [hn] at hz; exact Option.some.inj hz
      rw [e, requestLink, hx]
      exact request_holds _ _ _
    · rw [e, requestLink, hx]; rfl
    · rw [e, requestLink, hx]
      simp [request, count, EventUnit.count, Tally.index]
  · intro hy
    have hy' : y.state = .retireReady := by simpa using hy
    simp [fuPump, h, hl, hy', requestRetire, hw]

/-! ## Starvation -/

/-- STARVED is raised by R32's condition, once per episode. -/
theorem reportStarved_judged (s : State) : StarvedJudged s (reportStarved s) := by
  unfold StarvedJudged reportStarved
  by_cases hs : starving s = true
  · rw [if_pos hs]
    simp only [starving, Bool.and_eq_true, beq_iff_eq, List.isEmpty_iff, Option.isNone_iff_eq_none,
      Bool.not_eq_true'] at hs
    refine ⟨fun _ => ⟨?_, rfl⟩, fun hn => absurd ⟨hs.1.1.1.1, hs.1.1.1.2, hs.1.1.2, hs.1.2, hs.2⟩ hn⟩
    simp [pendingCause, raise, EventUnit.raise, Cause.bit]
  · rw [if_neg hs]
    refine ⟨fun ⟨a, b, c, d, e⟩ => absurd ?_ hs, fun _ => ⟨rfl, rfl⟩⟩
    simp [starving, a, b, c, d, e]

/-! ## Offers -/

/-- An offer counts as R153 says. -/
theorem offer_counted (r : Record) (s : State) : OffersCounted 1 s (offer r s) := by
  have z : ∀ x : Word, satAdd x 0 = x := fun x => by simp [satAdd, x.isLt]
  have ht : s.jw.state.takes = true ↔ s.jw.state = .seeking ∨ s.jw.state = .opened ∨ s.jw.state = .blocked := by
    cases s.jw.state <;> simp [JournalState.takes]
  unfold OffersCounted
  dsimp only
  simp only [← ht]
  by_cases hk : s.jw.state.takes = true
  · by_cases hr : s.jw.fifo.length < 16
    · have hl : 1 - (16 - s.jw.fifo.length) = 0 := by omega
      simp [offer, JournalWriter.offer, EventUnit.offer, hk, hr, hl, z, Config.fifoCapacity, pendingCause]
    · have hl : 1 - (16 - s.jw.fifo.length) = 1 := by omega
      simp [offer, JournalWriter.offer, EventUnit.offer, EventUnit.lose, JournalWriter.lose, hk, hr, hl, z,
        Config.fifoCapacity, pendingCause, EventUnit.count, EventUnit.raise, Tally.index, Cause.bit]
  · simp [offer, JournalWriter.offer, EventUnit.offer, hk, z, pendingCause, EventUnit.count, Tally.index]

end Sys2Proof.Machine
end

