-- ==== Sys2Proof/WellFormed.lean ====
section
/-! DEFINITION. WellFormed.lean: the check that a command is spelled by the row it names. Ill-formed terms still have a
meaning (the register access they describe), so nothing is lost by the check. -/
namespace Sys2Proof

/-- Register offsets whose 32-bit write is a row of its own: CONTROL, CMD, EVENTS, EVENT_MASK, WAKE (12.2). -/
def ownRowOffset (offset : Nat) : Bool :=
  offset == 0x04 || offset == 0x08 || offset == 0x18 || offset == 0x1C || offset == 0x20

/-- The thirteen codes that name a command (12.4). -/
def namesCommand (code : Byte) : Bool :=
  1 ≤ code.toNat && code.toNat ≤ 13

/-- A command's operands are those of the row its constructor stands for. -/
def Instr.wf : Instr → Bool
  | .softReset v => v.getLsbD 0
  | .irqEnable v => !v.getLsbD 0
  | .registerWrite off size _ => !(size == .bits32 && ownRowOffset off)
  | .stopProgramDrain op => op != 2#16
  | .unknownCommand code _ => !namesCommand code
  | .hardwareReset | .eventMask _ | .eventsClear _ | .wake _ | .loadContext _ | .stageLimits _ | .startProgram _
  | .stopProgramAtOnce | .pause _ | .resume _ | .forceLines _ | .clearTrip _ | .journalOpen _ | .journalFlush _
  | .journalClose _ | .stamp _ | .dumpTallies _ | .tick | .timeRange | .application | .deferredRiseExpiry _
  | .lastFallDiscard _ | .blankEnd _ | .holdEscalation _ | .linkWatchInterval | .sheetRecheckInterval | .flushAge
  | .waitTimeout | .busResponseTimeout | .candidateAssertion _ | .deassertion _ | .recognizedEdge _ _ | .stepAdmission
  | .stripHeaderReadComplete _ | .stepReadComplete _ | .linkRereadComplete _ | .retireWriteComplete _
  | .sheetHeaderReadComplete _ | .recordWriteComplete _ | .sheetHeaderWriteComplete _ | .dcbReadComplete _ _
  | .limitsReadComplete _ | .tallyWriteComplete _ | .resetRelease => true

end Sys2Proof
end

