-- ==== Sys2Proof/Laws/PerInstr.lean ====
section
/-! SUPPORT. PerInstr.lean: statements about every command as syntax, one lemma per constructor. WfDecides: the check of
WellFormed.lean accepts a command exactly when its operands are those of its row. -/
namespace Sys2Proof.Laws.WfDecides

set_option Elab.async false

/-- The operands are those of the row (opcode_table.json, 12.2, 12.4). -/
def OfRow : Instr → Prop
  | .softReset v => v.getLsbD 0 = true
  | .irqEnable v => v.getLsbD 0 = false
  | .registerWrite off size _ =>
    size = .bits32 → off ≠ 0x04 ∧ off ≠ 0x08 ∧ off ≠ 0x18 ∧ off ≠ 0x1C ∧ off ≠ 0x20
  | .stopProgramDrain op => op ≠ 2#16
  | .unknownCommand code _ => code.toNat = 0 ∨ 13 < code.toNat
  | _ => True

/-- The check decides it. -/
def Statement (i : Instr) : Prop := i.wf = true ↔ OfRow i

theorem hardwareReset : Statement .hardwareReset := by
  simp [Statement, OfRow, Instr.wf]

theorem softReset (value : Word) : Statement (.softReset value) := by
  simp [Statement, OfRow, Instr.wf]

theorem irqEnable (value : Word) : Statement (.irqEnable value) := by
  simp [Statement, OfRow, Instr.wf]

theorem eventMask (value : Word) : Statement (.eventMask value) := by
  simp [Statement, OfRow, Instr.wf]

theorem eventsClear (value : Word) : Statement (.eventsClear value) := by
  simp [Statement, OfRow, Instr.wf]

theorem wake (value : Word) : Statement (.wake value) := by
  simp [Statement, OfRow, Instr.wf]

theorem registerWrite (offset : Nat) (size : AccessSize) (value : Word) : Statement (.registerWrite offset size value) := by
  cases size <;> simp [Statement, OfRow, Instr.wf, ownRowOffset, and_assoc]

theorem loadContext (operand : Half) : Statement (.loadContext operand) := by
  simp [Statement, OfRow, Instr.wf]

theorem stageLimits (operand : Half) : Statement (.stageLimits operand) := by
  simp [Statement, OfRow, Instr.wf]

theorem startProgram (operand : Half) : Statement (.startProgram operand) := by
  simp [Statement, OfRow, Instr.wf]

theorem stopProgramDrain (operand : Half) : Statement (.stopProgramDrain operand) := by
  simp [Statement, OfRow, Instr.wf]

theorem stopProgramAtOnce : Statement .stopProgramAtOnce := by
  simp [Statement, OfRow, Instr.wf]

theorem pause (operand : Half) : Statement (.pause operand) := by
  simp [Statement, OfRow, Instr.wf]

theorem resume (operand : Half) : Statement (.resume operand) := by
  simp [Statement, OfRow, Instr.wf]

theorem forceLines (operand : Half) : Statement (.forceLines operand) := by
  simp [Statement, OfRow, Instr.wf]

theorem clearTrip (operand : Half) : Statement (.clearTrip operand) := by
  simp [Statement, OfRow, Instr.wf]

theorem journalOpen (operand : Half) : Statement (.journalOpen operand) := by
  simp [Statement, OfRow, Instr.wf]

theorem journalFlush (operand : Half) : Statement (.journalFlush operand) := by
  simp [Statement, OfRow, Instr.wf]

theorem journalClose (operand : Half) : Statement (.journalClose operand) := by
  simp [Statement, OfRow, Instr.wf]

theorem stamp (operand : Half) : Statement (.stamp operand) := by
  simp [Statement, OfRow, Instr.wf]

theorem dumpTallies (operand : Half) : Statement (.dumpTallies operand) := by
  simp [Statement, OfRow, Instr.wf]

theorem unknownCommand (code : Byte) (operand : Half) : Statement (.unknownCommand code operand) := by
  simp only [Statement, OfRow, Instr.wf, namesCommand, Bool.not_eq_true', Bool.and_eq_false_iff, decide_eq_false_iff_not]
  omega

theorem tick : Statement .tick := by
  simp [Statement, OfRow, Instr.wf]

theorem timeRange : Statement .timeRange := by
  simp [Statement, OfRow, Instr.wf]

theorem application : Statement .application := by
  simp [Statement, OfRow, Instr.wf]

theorem deferredRiseExpiry (line : Fin 16) : Statement (.deferredRiseExpiry line) := by
  simp [Statement, OfRow, Instr.wf]

theorem lastFallDiscard (line : Fin 16) : Statement (.lastFallDiscard line) := by
  simp [Statement, OfRow, Instr.wf]

theorem blankEnd (input : Fin 4) : Statement (.blankEnd input) := by
  simp [Statement, OfRow, Instr.wf]

theorem holdEscalation (input : Fin 4) : Statement (.holdEscalation input) := by
  simp [Statement, OfRow, Instr.wf]

theorem linkWatchInterval : Statement .linkWatchInterval := by
  simp [Statement, OfRow, Instr.wf]

theorem sheetRecheckInterval : Statement .sheetRecheckInterval := by
  simp [Statement, OfRow, Instr.wf]

theorem flushAge : Statement .flushAge := by
  simp [Statement, OfRow, Instr.wf]

theorem waitTimeout : Statement .waitTimeout := by
  simp [Statement, OfRow, Instr.wf]

theorem busResponseTimeout : Statement .busResponseTimeout := by
  simp [Statement, OfRow, Instr.wf]

theorem candidateAssertion (input : Fin 4) : Statement (.candidateAssertion input) := by
  simp [Statement, OfRow, Instr.wf]

theorem deassertion (input : Fin 4) : Statement (.deassertion input) := by
  simp [Statement, OfRow, Instr.wf]

theorem recognizedEdge (channel : Fin 16) (edge : Edge) : Statement (.recognizedEdge channel edge) := by
  simp [Statement, OfRow, Instr.wf]

theorem stepAdmission : Statement .stepAdmission := by
  simp [Statement, OfRow, Instr.wf]

theorem stripHeaderReadComplete (result : ReadResult 32) : Statement (.stripHeaderReadComplete result) := by
  simp [Statement, OfRow, Instr.wf]

theorem stepReadComplete (result : ReadResult 64) : Statement (.stepReadComplete result) := by
  simp [Statement, OfRow, Instr.wf]

theorem linkRereadComplete (result : ReadResult 8) : Statement (.linkRereadComplete result) := by
  simp [Statement, OfRow, Instr.wf]

theorem retireWriteComplete (result : WriteResult) : Statement (.retireWriteComplete result) := by
  simp [Statement, OfRow, Instr.wf]

theorem sheetHeaderReadComplete (result : ReadResult 16) : Statement (.sheetHeaderReadComplete result) := by
  simp [Statement, OfRow, Instr.wf]

theorem recordWriteComplete (result : WriteResult) : Statement (.recordWriteComplete result) := by
  simp [Statement, OfRow, Instr.wf]

theorem sheetHeaderWriteComplete (result : WriteResult) : Statement (.sheetHeaderWriteComplete result) := by
  simp [Statement, OfRow, Instr.wf]

theorem dcbReadComplete (result : ReadResult 64) (pins : Pins) : Statement (.dcbReadComplete result pins) := by
  simp [Statement, OfRow, Instr.wf]

theorem limitsReadComplete (result : ReadResult 48) : Statement (.limitsReadComplete result) := by
  simp [Statement, OfRow, Instr.wf]

theorem tallyWriteComplete (result : WriteResult) : Statement (.tallyWriteComplete result) := by
  simp [Statement, OfRow, Instr.wf]

theorem resetRelease : Statement .resetRelease := by
  simp [Statement, OfRow, Instr.wf]

end Sys2Proof.Laws.WfDecides
end

