-- ==== Sys2Proof/Laws/Safe.lean ====
section
/-! SUPPORT. Safe.lean: no event breaks the safety of the Output Stage's records (R111): one lemma per operation, and one
for each way a command reaches them. -/
namespace Sys2Proof.Machine

set_option Elab.async false

@[simp] theorem applyEntry_fold_os (l : List Entry) (s : State) : (l.foldl applyEntry s).os = s.os :=
  foldl_keeps _ (fun s => s.os) (fun s e => by simp) _ _

@[simp] theorem enterStopping_safe (o : ProgramOutcome) (r : Reason) (s : State) (h : s.os.Safe) : (enterStopping o r
    s).os.Safe := by
  unfold enterStopping; (try dsimp only)
  (repeat' split) <;> simp (maxDischargeDepth := 12) [h]

@[simp] theorem suFault_safe (r : Reason) (s : State) (h : s.os.Safe) : (suFault r s).os.Safe := by
  unfold suFault
  (repeat' split) <;> simp (maxDischargeDepth := 12) [h]

@[simp] theorem takeTripAbort_safe (s : State) (h : s.os.Safe) : (takeTripAbort s).os.Safe := by
  unfold takeTripAbort
  (repeat' split) <;> simp (maxDischargeDepth := 12) [h]

@[simp] theorem coverLines_safe (m : Half) (s : State) (h : s.os.Safe) : (coverLines m s).os.Safe := by
  unfold coverLines; exact osEvent_safe _ _ (cover_pairsKept _ _ h.pairs)

@[simp] theorem deliverTrip_safe (s : State) (h : s.os.Safe) : (deliverTrip s).os.Safe := by
  unfold deliverTrip; (try dsimp only)
  (repeat' split) <;> simp (maxDischargeDepth := 12) [h]

@[simp] theorem osNewDeadTimes_safe (m : Limits) (s : State) (h : s.os.Safe) : (osNewDeadTimes m s).os.Safe := by
  unfold osNewDeadTimes; exact osEvent_safe _ _ (newDeadTimes_pairsKept _ _ _ h.pairs)

@[simp] theorem deliverLimits_safe (m : Limits) (s : State) (h : s.os.Safe) : (deliverLimits m s).os.Safe := by
  unfold deliverLimits
  (repeat' split) <;> simp (maxDischargeDepth := 12) [h]

@[simp] theorem makeActive_safe (m : Limits) (s : State) (h : s.os.Safe) : (makeActive m s).os.Safe := by
  unfold makeActive; (try dsimp only)
  simp (maxDischargeDepth := 12) [h]

@[simp] theorem programEnd_safe (b : Bool) (s : State) (h : s.os.Safe) : (programEnd b s).os.Safe := by
  unfold programEnd; (try dsimp only)
  (repeat' split) <;> simp (maxDischargeDepth := 12) [h]

@[simp] theorem takeRetirementDone_safe (s : State) (h : s.os.Safe) : (takeRetirementDone s).os.Safe := by
  unfold takeRetirementDone; (try dsimp only)
  (repeat' split) <;> simp (maxDischargeDepth := 12) [h]

@[simp] theorem takeNotices_safe (s : State) (h : s.os.Safe) : (takeNotices s).os.Safe := by
  unfold takeNotices
  simp (maxDischargeDepth := 12) [h]

@[simp] theorem settle_safe (s : State) (h : s.os.Safe) : (settle s).os.Safe := by
  unfold settle
  simp (maxDischargeDepth := 12) [h]

@[simp] theorem drainEnd_safe (s : State) (h : s.os.Safe) : (drainEnd s).os.Safe := by
  unfold drainEnd
  (repeat' split) <;> simp (maxDischargeDepth := 12) [h]

@[simp] theorem deliverTaken_safe (b : Bool) (s : State) (h : s.os.Safe) : (deliverTaken b s).os.Safe := by
  unfold deliverTaken
  (repeat' split) <;> simp (maxDischargeDepth := 12) [h]

@[simp] theorem deliverBatch_safe (cs : List Change) (b : Bool) (s : State) (h : s.os.Safe) : (deliverBatch cs b
    s).os.Safe := by
  unfold deliverBatch
  (repeat' split) <;> simp (maxDischargeDepth := 12) [h]

@[simp] theorem applyEntries_safe (s : State) (h : s.os.Safe) : (applyEntries s).os.Safe := by
  unfold applyEntries; (try dsimp only)
  simp (maxDischargeDepth := 12) [h]

@[simp] theorem applyDue_safe (s : State) (h : s.os.Safe) : (applyDue s).os.Safe := by
  unfold applyDue
  (repeat' split) <;> simp (maxDischargeDepth := 12) [h]

@[simp] theorem takeApplication_safe (s : State) (h : s.os.Safe) : (takeApplication s).os.Safe := by
  unfold takeApplication
  (repeat' split) <;> simp (maxDischargeDepth := 12) [h]

@[simp] theorem admitEntry_safe (q : QueuedStep) (k : StepKind) (ek : EntryKind) (d : Time) (s : State) (h :
    s.os.Safe) : (admitEntry q k ek d s).os.Safe := by
  unfold admitEntry; (try dsimp only)
  (repeat' split) <;> simp (maxDischargeDepth := 12) [h]

@[simp] theorem admitLate_safe (q : QueuedStep) (k : StepKind) (ek : EntryKind) (s : State) (h : s.os.Safe) :
    (admitLate q k ek s).os.Safe := by
  unfold admitLate
  (repeat' split) <;> simp (maxDischargeDepth := 12) [h]

@[simp] theorem admitTimed_safe (q : QueuedStep) (k : StepKind) (ek : EntryKind) (s : State) (h : s.os.Safe) :
    (admitTimed q k ek s).os.Safe := by
  unfold admitTimed
  (repeat' split) <;> simp (maxDischargeDepth := 12) [h]

@[simp] theorem admitValid_safe (q : QueuedStep) (k : StepKind) (s : State) (h : s.os.Safe) : (admitValid q k
    s).os.Safe := by
  unfold admitValid
  (repeat' split) <;> simp (maxDischargeDepth := 12) [h]

@[simp] theorem admitChecked_safe (q : QueuedStep) (k : StepKind) (s : State) (h : s.os.Safe) : (admitChecked q k
    s).os.Safe := by
  unfold admitChecked
  (repeat' split) <;> simp (maxDischargeDepth := 12) [h]

@[simp] theorem admitWaitStep_safe (q : QueuedStep) (s : State) (h : s.os.Safe) : (admitWaitStep q s).os.Safe := by
  unfold admitWaitStep
  (repeat' split) <;> simp (maxDischargeDepth := 12) [h]

@[simp] theorem admitStep_safe (q : QueuedStep) (s : State) (h : s.os.Safe) : (admitStep q s).os.Safe := by
  unfold admitStep
  (repeat' split) <;> simp (maxDischargeDepth := 12) [h]

@[simp] theorem admitHead_safe (s : State) (h : s.os.Safe) : (admitHead s).os.Safe := by
  unfold admitHead
  (repeat' split) <;> simp (maxDischargeDepth := 12) [h]

@[simp] theorem takeStepAdmission_safe (s : State) (h : s.os.Safe) : (takeStepAdmission s).os.Safe := by
  unfold takeStepAdmission
  simp (maxDischargeDepth := 12) [h]

@[simp] theorem endWait_safe (w : Waiter) (s : State) (h : s.os.Safe) : (endWait w s).os.Safe := by
  unfold endWait; (try dsimp only)
  (repeat' split) <;> simp (maxDischargeDepth := 12) [h]

@[simp] theorem takeWaitTimeout_safe (s : State) (h : s.os.Safe) : (takeWaitTimeout s).os.Safe := by
  unfold takeWaitTimeout
  (repeat' split) <;> simp (maxDischargeDepth := 12) [h]

@[simp] theorem takeTimeRange_safe (s : State) (h : s.os.Safe) : (takeTimeRange s).os.Safe := by
  unfold takeTimeRange; (try dsimp only)
  (repeat' split) <;> simp (maxDischargeDepth := 12) [h]

@[simp] theorem startAt_safe (a : Addr) (s : State) (h : s.os.Safe) : (startAt a s).os.Safe := by
  unfold startAt; (try dsimp only)
  simp (maxDischargeDepth := 12) [h]

@[simp] theorem takeStart_safe (s : State) (h : s.os.Safe) : (takeStart s).os.Safe := by
  unfold takeStart
  (repeat' split) <;> simp (maxDischargeDepth := 12) [h]

@[simp] theorem drainProgram_safe (s : State) (h : s.os.Safe) : (drainProgram s).os.Safe := by
  unfold drainProgram; (try dsimp only)
  simp (maxDischargeDepth := 12) [h]

@[simp] theorem takeDrain_safe (s : State) (h : s.os.Safe) : (takeDrain s).os.Safe := by
  unfold takeDrain
  (repeat' split) <;> simp (maxDischargeDepth := 12) [h]

@[simp] theorem takeStopAtOnce_safe (s : State) (h : s.os.Safe) : (takeStopAtOnce s).os.Safe := by
  unfold takeStopAtOnce
  (repeat' split) <;> simp (maxDischargeDepth := 12) [h]

@[simp] theorem takeStop_safe (op : Half) (s : State) (h : s.os.Safe) : (takeStop op s).os.Safe := by
  unfold takeStop
  (repeat' split) <;> simp (maxDischargeDepth := 12) [h]

@[simp] theorem clampOn_safe (n : Fin 4) (s : State) (h : s.os.Safe) : (clampOn n s).os.Safe := by
  unfold clampOn; exact osEvent_safe _ _ (clampOn_pairsKept _ _ _ h.pairs)

@[simp] theorem clampOff_safe (n : Fin 4) (s : State) (h : s.os.Safe) : (clampOff n s).os.Safe := by
  unfold clampOff; exact osEvent_safe _ _ (clampOff_pairsKept _ _ _ h.pairs)

@[simp] theorem notifyActivation_safe (n : Fin 4) (s : State) (h : s.os.Safe) : (notifyActivation n s).os.Safe := by
  unfold notifyActivation
  (repeat' split) <;> simp (maxDischargeDepth := 12) [h]

@[simp] theorem activate_safe (n : Fin 4) (s : State) (h : s.os.Safe) : (activate n s).os.Safe := by
  unfold activate
  simp (maxDischargeDepth := 12) [h]

@[simp] theorem notifyRelease_safe (n : Fin 4) (s : State) (h : s.os.Safe) : (notifyRelease n s).os.Safe := by
  unfold notifyRelease
  (repeat' split) <;> simp (maxDischargeDepth := 12) [h]

@[simp] theorem release_safe (n : Fin 4) (s : State) (h : s.os.Safe) : (release n s).os.Safe := by
  unfold release
  simp (maxDischargeDepth := 12) [h]

@[simp] theorem recognizeAssertion_safe (n : Fin 4) (s : State) (h : s.os.Safe) : (recognizeAssertion n s).os.Safe :=
    by
  unfold recognizeAssertion
  (repeat' split) <;> simp (maxDischargeDepth := 12) [h]

@[simp] theorem recognizeDeassertion_safe (n : Fin 4) (s : State) (h : s.os.Safe) : (recognizeDeassertion n s).os.Safe
    := by
  unfold recognizeDeassertion
  (repeat' split) <;> simp (maxDischargeDepth := 12) [h]

@[simp] theorem judgeBlanked_safe (n : Fin 4) (s : State) (h : s.os.Safe) : (judgeBlanked n s).os.Safe := by
  unfold judgeBlanked
  (repeat' split) <;> simp (maxDischargeDepth := 12) [h]

@[simp] theorem endBlank_safe (n : Fin 4) (s : State) (h : s.os.Safe) : (endBlank n s).os.Safe := by
  unfold endBlank
  simp (maxDischargeDepth := 12) [h]

@[simp] theorem clearLatch_safe (s : State) (h : s.os.Safe) : (clearLatch s).os.Safe := by
  unfold clearLatch; exact osEvent_safe _ _ (uncover_pairsKept _ (by simpa using h.pairs))

@[simp] theorem takeBlankEnd_safe (n : Fin 4) (s : State) (h : s.os.Safe) : (takeBlankEnd n s).os.Safe := by
  unfold takeBlankEnd
  (repeat' split) <;> simp (maxDischargeDepth := 12) [h]

@[simp] theorem takeEscalation_safe (n : Fin 4) (s : State) (h : s.os.Safe) : (takeEscalation n s).os.Safe := by
  unfold takeEscalation
  (repeat' split) <;> simp (maxDischargeDepth := 12) [h]

@[simp] theorem takeAssertion_safe (n : Fin 4) (s : State) (h : s.os.Safe) : (takeAssertion n s).os.Safe := by
  unfold takeAssertion
  (repeat' split) <;> simp (maxDischargeDepth := 12) [h]

@[simp] theorem takeDeassertion_safe (n : Fin 4) (s : State) (h : s.os.Safe) : (takeDeassertion n s).os.Safe := by
  unfold takeDeassertion
  (repeat' split) <;> simp (maxDischargeDepth := 12) [h]

@[simp] theorem recognizeEdge_safe (n : Fin 16) (e : Edge) (s : State) (h : s.os.Safe) : (recognizeEdge n e s).os.Safe
    := by
  unfold recognizeEdge
  simp (maxDischargeDepth := 12) [h]

@[simp] theorem takeEdge_safe (n : Fin 16) (e : Edge) (s : State) (h : s.os.Safe) : (takeEdge n e s).os.Safe := by
  unfold takeEdge
  (repeat' split) <;> simp (maxDischargeDepth := 12) [h]

@[simp] theorem takeLoadContext_safe (s : State) (h : s.os.Safe) : (takeLoadContext s).os.Safe := by
  unfold takeLoadContext; (try dsimp only)
  (repeat' split) <;> simp (maxDischargeDepth := 12) [h]

@[simp] theorem takeStageLimits_safe (s : State) (h : s.os.Safe) : (takeStageLimits s).os.Safe := by
  unfold takeStageLimits
  (repeat' split) <;> simp (maxDischargeDepth := 12) [h]

@[simp] theorem takePause_safe (s : State) (h : s.os.Safe) : (takePause s).os.Safe := by
  unfold takePause; (try dsimp only)
  simp (maxDischargeDepth := 12) [h]

@[simp] theorem takeResume_safe (s : State) (h : s.os.Safe) : (takeResume s).os.Safe := by
  unfold takeResume; (try dsimp only)
  (repeat' split) <;> simp (maxDischargeDepth := 12) [h]

theorem force_pairsKept (m l : Half) (r : Bool) (o : OutputStage) (h : o.PairsKept)
    (hf : ¬(r = false ∧ forcesPair m l o = true)) : (o.force m l r).PairsKept := by
  intro k he
  have he' : o.pairs[k].enabled = true := by simpa [OutputStage.force, mapLines_pairs] using he
  obtain ⟨a, b, c, d, e⟩ := h k he'
  have hs := mapLines_pairsSet (fun n l' => if m.getLsbD n.val then l'.ask (forcedLevel r l n) else l') o
    (fun _ _ => by split <;> simp) (PairsKept.set h) k he
  refine ⟨hs.1, hs.2.1, hs.2.2.1, hs.2.2.2, ?_⟩
  have ra : o.lines[lowerLine k].role = .sequenced := a
  have rb : o.lines[upperLine k].role = .sequenced := b
  cases r with
  | true =>
    simp only [OutputStage.force, mapLines_line, forcedLevel]
    by_cases hl : m.getLsbD (lowerLine k).val
    · simp only [hl, if_true, Line.ask, ra]; simp
    · by_cases hu : m.getLsbD (upperLine k).val
      · simp only [hu, if_true, Line.ask, rb]; simp
      · simp only [hl, hu]; exact e
  | false =>
    by_cases hm : m.getLsbD (lowerLine k).val || m.getLsbD (upperLine k).val
    · simp only [true_and, forcesPair, List.any_eq_true, not_exists, not_and, Bool.and_eq_true] at hf
      have := hf k (List.mem_finRange k) hm
      have e2 : (o.force m l false).pairs[k].enabled = true := he
      simp only [OutputStage.bothHigh, e2, Bool.true_and, Bool.and_eq_true, beq_iff_eq] at this
      exact this
    · simp only [Bool.or_eq_true, not_or] at hm
      simp only [OutputStage.force, mapLines_line]
      simp only [hm.1, hm.2]; exact e

theorem forceLinesNow_safe (s : State) (h : s.os.Safe)
    (hf : ¬(forceRelease s = false ∧ forcesPair (forceMask s) (forceLevels s) s.os = true)) :
    (forceLinesNow s).os.Safe := by
  unfold forceLinesNow; split
  · exact h
  · exact osEvent_safe _ _ (force_pairsKept _ _ _ _ h.pairs hf)

@[simp] theorem takeForceLines_safe (s : State) (h : s.os.Safe) : (takeForceLines s).os.Safe := by
  unfold takeForceLines
  (repeat' split) <;> first | (simp [h]; done) | (simp; exact forceLinesNow_safe s h (by assumption))

@[simp] theorem takeClearTrip_safe (s : State) (h : s.os.Safe) : (takeClearTrip s).os.Safe := by
  unfold takeClearTrip
  (repeat' split) <;> simp (maxDischargeDepth := 12) [h]

@[simp] theorem takeStamp_safe (s : State) (h : s.os.Safe) : (takeStamp s).os.Safe := by
  unfold takeStamp
  (repeat' split) <;> simp (maxDischargeDepth := 12) [h]

@[simp] theorem takeDumpTallies_safe (op : Half) (s : State) (h : s.os.Safe) : (takeDumpTallies op s).os.Safe := by
  unfold takeDumpTallies; (try dsimp only)
  (repeat' split) <;> simp (maxDischargeDepth := 12) [h]

@[simp] theorem takeUnknown_safe (s : State) (h : s.os.Safe) : (takeUnknown s).os.Safe := by
  unfold takeUnknown; simp [h]

@[simp] theorem ownerOf_safe (code : Byte) (op : Half) (s : State) (h : s.os.Safe) : (ownerOf code op s).os.Safe := by
  unfold ownerOf
  (repeat' split) <;> simp (maxDischargeDepth := 12) [h]

theorem unused_safe (o : OutputStage)
    (hl : ∀ n : Fin 16, o.lines[n].driven = .released ∧ o.lines[n].deferred = none)
    (hp : ∀ k : Fin 8, o.pairs[k].enabled = false) : o.Safe := by
  refine ⟨fun n h => ?_, fun k h => ?_⟩
  · rw [(hl n).1, (hl n).2] at h; simp at h
  · rw [hp k] at h; simp at h

theorem reset_osSafe : OutputStage.reset.Safe :=
  unused_safe _ (fun n => by simp [OutputStage.reset, Line.reset]) (fun k => by simp [OutputStage.reset])

theorem softReset_osSafe (o : OutputStage) : o.softReset.Safe :=
  unused_safe _ (fun n => by simp [OutputStage.softReset, Line.reset])
    (fun k => by simp [OutputStage.softReset, OutputStage.reset])

@[simp] theorem softReset_safe (s : State) (_h : s.os.Safe) : (softReset s).os.Safe := by
  unfold softReset; exact softReset_osSafe _

@[simp] theorem hardReset_safe (s : State) (_h : s.os.Safe) : (hardReset s).os.Safe := by
  unfold hardReset; exact reset_osSafe

@[simp] theorem setIrqEnable_safe (v : Word) (s : State) (h : s.os.Safe) : (setIrqEnable v s).os.Safe := by
  unfold setIrqEnable; (try dsimp only)
  simp (maxDischargeDepth := 12) [h]

@[simp] theorem writeControl_safe (v : Word) (s : State) (h : s.os.Safe) : (writeControl v s).os.Safe := by
  unfold writeControl
  (repeat' split) <;> simp (maxDischargeDepth := 12) [h]

@[simp] theorem writeEventMask_safe (v : Word) (s : State) (h : s.os.Safe) : (writeEventMask v s).os.Safe := by
  unfold writeEventMask; (try dsimp only)
  simp (maxDischargeDepth := 12) [h]

@[simp] theorem writeEvents_safe (v : Word) (s : State) (h : s.os.Safe) : (writeEvents v s).os.Safe := by
  unfold writeEvents; (try dsimp only)
  simp (maxDischargeDepth := 12) [h]

@[simp] theorem writeWake_safe (s : State) (h : s.os.Safe) : (writeWake s).os.Safe := by
  unfold writeWake
  simp (maxDischargeDepth := 12) [h]

@[simp] theorem writeArgLo_safe (v : Word) (s : State) (h : s.os.Safe) : (writeArgLo v s).os.Safe := by
  unfold writeArgLo; (try dsimp only)
  simp (maxDischargeDepth := 12) [h]

@[simp] theorem writeArgHi_safe (v : Word) (s : State) (h : s.os.Safe) : (writeArgHi v s).os.Safe := by
  unfold writeArgHi; (try dsimp only)
  simp (maxDischargeDepth := 12) [h]

@[simp] theorem writeCmd_safe (v : Word) (s : State) (h : s.os.Safe) : (writeCmd v s).os.Safe := by
  unfold writeCmd; unfold cmdWrite; (repeat' split) <;> simp [h]

@[simp] theorem writeRegister_safe (off : Nat) (size : AccessSize) (v : Word) (s : State) (h : s.os.Safe) :
    (writeRegister off size v s).os.Safe := by
  unfold writeRegister
  (repeat' split) <;> simp (maxDischargeDepth := 12) [h]

theorem dcbValid_pairs {d : List Byte} (h : dcbValid d = true) : ∀ k, pairOk (contextOf d) k = true := by
  intro k; simp only [dcbValid, Bool.and_eq_true, List.all_eq_true] at h
  exact h.1.1.2 k (List.mem_finRange k)

theorem commit_pairsKept (c : Context) (o : OutputStage) (h : ∀ k, pairOk c k = true) : (o.commit c).PairsKept := by
  intro k he
  have hk := h k
  have he' : c.paired.getLsbD k.val = true := by simpa [OutputStage.commit] using he
  simp only [pairOk, he', Bool.not_true, Bool.false_or, pairRules, Bool.and_eq_true, beq_iff_eq, bne_iff_ne,
    Bool.not_eq_true', Bool.and_eq_false_iff] at hk
  obtain ⟨⟨⟨⟨⟨a, b⟩, c1⟩, d⟩, e⟩, _⟩ := hk
  have L : ∀ n : Fin 16, (o.commit c).lines[n] = o.lines[n].commit c.lines[n] := fun n => by simp [OutputStage.commit]
  simp only [L, Line.commit]
  refine ⟨a, b, c1, d, ?_⟩
  simp only [a, b, if_true]
  intro hh
  rcases e with e | e
  · rw [hh.1] at e; simp at e
  · rw [hh.2] at e; simp at e

theorem commitContext_safe (c : Context) (p : Pins) (s : State) (h : ∀ k, pairOk c k = true) :
    (commitContext c p s).os.Safe := by
  have e : ∀ s : State, (commitLines c s).os.Safe := fun s => osEvent_safe _ _ (commit_pairsKept c _ h)
  unfold commitContext commitOutputs
  split <;> simp [e, commitGuards]

@[simp] theorem stageLimits_safe (m : Limits) (s : State) (h : s.os.Safe) : (stageLimits m s).os.Safe := by
  unfold stageLimits; (try dsimp only)
  (repeat' split) <;> simp (maxDischargeDepth := 12) [h]

@[simp] theorem takeHeader_safe (a : Addr) (q : Word) (hd : StripHeader) (s : State) (h : s.os.Safe) : (takeHeader a q
    hd s).os.Safe := by
  unfold takeHeader; (try dsimp only)
  (repeat' split) <;> simp (maxDischargeDepth := 12) [h]

@[simp] theorem takeLink_safe (s : State) (h : s.os.Safe) : (takeLink s).os.Safe := by
  unfold takeLink
  (repeat' split) <;> simp (maxDischargeDepth := 12) [h]

@[simp] theorem takeSteps_safe (b : Bool) (d : List Byte) (s : State) (h : s.os.Safe) : (takeSteps b d s).os.Safe :=
    by
  unfold takeSteps; (try dsimp only)
  (repeat' split) <;> simp (maxDischargeDepth := 12) [h]

@[simp] theorem takeReread_safe (a : Addr) (s : State) (h : s.os.Safe) : (takeReread a s).os.Safe := by
  unfold takeReread; (try dsimp only)
  (repeat' split) <;> simp (maxDischargeDepth := 12) [h]

@[simp] theorem fetchError_safe (s : State) (h : s.os.Safe) : (fetchError s).os.Safe := by
  unfold fetchError
  simp (maxDischargeDepth := 12) [h]

@[simp] theorem takeRetired_safe (s : State) (h : s.os.Safe) : (takeRetired s).os.Safe := by
  unfold takeRetired; (try dsimp only)
  (repeat' split) <;> simp (maxDischargeDepth := 12) [h]

@[simp] theorem retireError_safe (s : State) (h : s.os.Safe) : (retireError s).os.Safe := by
  unfold retireError; (try dsimp only)
  simp (maxDischargeDepth := 12) [h]

@[simp] theorem headerTaken_safe (r : ReadResult 32) (t : Transfer) (s : State) (h : s.os.Safe) : (headerTaken r t
    s).os.Safe := by
  unfold headerTaken
  (repeat' split) <;> simp (maxDischargeDepth := 12) [h]

@[simp] theorem stepsTaken_safe (r : ReadResult 64) (t : Transfer) (s : State) (h : s.os.Safe) : (stepsTaken r t
    s).os.Safe := by
  unfold stepsTaken
  (repeat' split) <;> simp (maxDischargeDepth := 12) [h]

@[simp] theorem linkTaken_safe (r : ReadResult 8) (t : Transfer) (s : State) (h : s.os.Safe) : (linkTaken r t
    s).os.Safe := by
  unfold linkTaken
  (repeat' split) <;> simp (maxDischargeDepth := 12) [h]

@[simp] theorem retireTaken_safe (r : WriteResult) (s : State) (h : s.os.Safe) : (retireTaken r s).os.Safe := by
  unfold retireTaken
  (repeat' split) <;> simp (maxDischargeDepth := 12) [h]

@[simp] theorem headerEnd_safe (r : ReadResult 32) (t : Transfer) (s : State) (h : s.os.Safe) : (headerEnd r t
    s).os.Safe := by
  unfold headerEnd
  simp (maxDischargeDepth := 12) [h]

@[simp] theorem stepsEnd_safe (r : ReadResult 64) (t : Transfer) (s : State) (h : s.os.Safe) : (stepsEnd r t
    s).os.Safe := by
  unfold stepsEnd
  simp (maxDischargeDepth := 12) [h]

@[simp] theorem linkEnd_safe (r : ReadResult 8) (t : Transfer) (s : State) (h : s.os.Safe) : (linkEnd r t s).os.Safe
    := by
  unfold linkEnd
  simp (maxDischargeDepth := 12) [h]

@[simp] theorem retireEnd_safe (r : WriteResult) (s : State) (h : s.os.Safe) : (retireEnd r s).os.Safe := by
  unfold retireEnd
  simp (maxDischargeDepth := 12) [h]

@[simp] theorem sheetReadTaken_safe (r : ReadResult 16) (t : Transfer) (s : State) (h : s.os.Safe) : (sheetReadTaken r
    t s).os.Safe := by
  unfold sheetReadTaken
  (repeat' split) <;> simp (maxDischargeDepth := 12) [h]

@[simp] theorem recordTaken_safe (r : WriteResult) (s : State) (h : s.os.Safe) : (recordTaken r s).os.Safe := by
  unfold recordTaken
  (repeat' split) <;> simp (maxDischargeDepth := 12) [h]

@[simp] theorem sheetWriteTaken_safe (r : WriteResult) (t : Transfer) (s : State) (h : s.os.Safe) : (sheetWriteTaken r
    t s).os.Safe := by
  unfold sheetWriteTaken
  (repeat' split) <;> simp (maxDischargeDepth := 12) [h]

@[simp] theorem sheetReadEnd_safe (r : ReadResult 16) (t : Transfer) (s : State) (h : s.os.Safe) : (sheetReadEnd r t
    s).os.Safe := by
  unfold sheetReadEnd
  simp (maxDischargeDepth := 12) [h]

@[simp] theorem recordEnd_safe (r : WriteResult) (s : State) (h : s.os.Safe) : (recordEnd r s).os.Safe := by
  unfold recordEnd
  simp (maxDischargeDepth := 12) [h]

@[simp] theorem sheetWriteEnd_safe (r : WriteResult) (t : Transfer) (s : State) (h : s.os.Safe) : (sheetWriteEnd r t
    s).os.Safe := by
  unfold sheetWriteEnd
  simp (maxDischargeDepth := 12) [h]

@[simp] theorem commandError_safe (s : State) (h : s.os.Safe) : (commandError s).os.Safe := by
  unfold commandError; (try dsimp only)
  simp (maxDischargeDepth := 12) [h]

@[simp] theorem judgeShadow_safe (p : Pins) (s : State) (h : s.os.Safe) : (judgeShadow p s).os.Safe := by
  unfold judgeShadow; split
  · next hv => exact commitContext_safe _ _ s (dcbValid_pairs hv)
  · simpa using h

@[simp] theorem takeDcb_safe (d : List Byte) (p : Pins) (s : State) (h : s.os.Safe) : (takeDcb d p s).os.Safe := by
  unfold takeDcb; (try dsimp only)
  (repeat' split) <;> simp (maxDischargeDepth := 12) [h]

@[simp] theorem dcbEnd_safe (r : ReadResult 64) (p : Pins) (s : State) (h : s.os.Safe) : (dcbEnd r p s).os.Safe := by
  unfold dcbEnd
  (repeat' split) <;> simp (maxDischargeDepth := 12) [h]

@[simp] theorem takeLimits_safe (d : List Byte) (s : State) (h : s.os.Safe) : (takeLimits d s).os.Safe := by
  unfold takeLimits
  (repeat' split) <;> simp (maxDischargeDepth := 12) [h]

@[simp] theorem limitsEnd_safe (r : ReadResult 48) (s : State) (h : s.os.Safe) : (limitsEnd r s).os.Safe := by
  unfold limitsEnd
  (repeat' split) <;> simp (maxDischargeDepth := 12) [h]

@[simp] theorem requestTallyHigh_safe (a : Addr) (t : TallySnapshot) (s : State) (h : s.os.Safe) : (requestTallyHigh a
    t s).os.Safe := by
  unfold requestTallyHigh
  simp (maxDischargeDepth := 12) [h]

@[simp] theorem takeTally_safe (t : Transfer) (s : State) (h : s.os.Safe) : (takeTally t s).os.Safe := by
  unfold takeTally; (try dsimp only)
  (repeat' split) <;> simp (maxDischargeDepth := 12) [h]

@[simp] theorem tallyEnd_safe (r : WriteResult) (t : Transfer) (s : State) (h : s.os.Safe) : (tallyEnd r t s).os.Safe
    := by
  unfold tallyEnd
  (repeat' split) <;> simp (maxDischargeDepth := 12) [h]

@[simp] theorem transferError_safe (t : Transfer) (s : State) (h : s.os.Safe) : (transferError t s).os.Safe := by
  unfold transferError
  (repeat' split) <;> simp (maxDischargeDepth := 12) [h]

@[simp] theorem grantFirst_safe (s : State) (h : s.os.Safe) : (grantFirst s).os.Safe := by
  unfold grantFirst
  (repeat' split) <;> simp (maxDischargeDepth := 12) [h]

theorem endTransfer_safe (p : TransferKind → Bool) (act : Transfer → State → State)
    (ha : ∀ t s, s.os.Safe → (act t s).os.Safe) (s : State) (h : s.os.Safe) : (endTransfer p act s).os.Safe := by
  unfold endTransfer
  (repeat' split) <;> first | with_reducible exact h | simpa using h | exact ha _ _ (by simpa using h)

theorem takeDue_safe (s : State) (h : s.os.Safe) : (takeDue s).os.Safe := by
  unfold takeDue
  simp
  refine foldl_inv (fun s => s.os.Safe) _ (fun s a h => takeEscalation_safe a s h) _ _ ?_
  refine foldl_inv (fun s => s.os.Safe) _ (fun s a h => takeBlankEnd_safe a s h) _ _ ?_
  refine foldl_inv (fun s => s.os.Safe) _ (fun s a h => takeLastFallDiscard_safe a s h) _ _ ?_
  refine foldl_inv (fun s => s.os.Safe) _ (fun s a h => takeDeferredRise_safe a s h) _ _ ?_
  simp (maxDischargeDepth := 12) [h]

theorem takeTick_safe (s : State) (h : s.os.Safe) : (takeTick s).os.Safe := by
  unfold takeTick; split
  · exact h
  · simp; exact takeDue_safe s h

theorem cmdWrite_safe (c : Byte) (op : Half) (f : State → State) (hf : ∀ s, s.os.Safe → (f s).os.Safe) (s : State)
    (h : s.os.Safe) : (cmdWrite c op f s).os.Safe := by
  unfold cmdWrite; (repeat' split) <;> first | with_reducible exact h | simpa using h | exact hf _ h

theorem registerAccess_safe (f : State → State) (hf : ∀ s, s.os.Safe → (f s).os.Safe) (s : State)
    (h : s.os.Safe) : (registerAccess f s).os.Safe := by
  unfold registerAccess; (repeat' split) <;> first | with_reducible exact h | exact hf _ h

theorem sampleFault_safe (s : State) (n : Fin 4)  (h : s.os.Safe) : (sampleFault s n).os.Safe := by
  unfold sampleFault setFaultRun; (repeat' split) <;> first | with_reducible exact h | simp [h]

theorem sampleInput_safe (s : State) (n : Fin 16)  (h : s.os.Safe) : (sampleInput s n).os.Safe := by
  unfold sampleInput setInputRun; (repeat' split) <;> first | with_reducible exact h | simp [h]

theorem idle_safe (s : State) (h : s.os.Safe) : (idle s).os.Safe := by
  have bp : ∀ s : State, s.os.Safe → (busPeriod s).os.Safe := fun s h => by
    unfold busPeriod; dsimp only; split
    · exact endTransfer_safe _ _ transferError_safe _ h
    · exact h
  unfold idle; split
  · exact bp s h
  · unfold samplePeriod admitAll; simp
    refine foldl_inv (fun s => s.os.Safe) _ (fun s n h => sampleInput_safe s n h) _ _ ?_
    refine foldl_inv (fun s => s.os.Safe) _ (fun s n h => sampleFault_safe s n h) _ _ (bp _ ?_)
    exact foldl_inv (fun s => s.os.Safe) _ (fun s n h => takeStepAdmission_safe s h) _ _ (takeDue_safe _ h)

end Sys2Proof.Machine
end

