-- ==== Sys2Proof/Laws/Time.lean ====
section
/-! SUPPORT. Time.lean: no event but a tick, a reset, a context commit, a start or a PAUSE or RESUME touches more of the
Timebase Unit than the guards' holds and the time-range notice: TL and PT stand still, the setting is kept. -/
namespace Sys2Proof.Machine

set_option Elab.async false

@[simp] theorem escalateTrip_clock (n : Fin 4) (s : State) : (escalateTrip n s).tb.tl = s.tb.tl ∧ (escalateTrip n
    s).tb.pt = s.tb.pt ∧ (escalateTrip n s).tb.source = s.tb.source ∧ (escalateTrip n s).tb.prescale = s.tb.prescale ∧
    (escalateTrip n s).tb.tbinEdge = s.tb.tbinEdge ∧ (escalateTrip n s).tb.hostPause = s.tb.hostPause := by
  simp [escalateTrip, takeTripAction]

@[simp] theorem escalate_clock (n : Fin 4) (s : State) : (escalate n s).tb.tl = s.tb.tl ∧ (escalate n s).tb.pt =
    s.tb.pt ∧ (escalate n s).tb.source = s.tb.source ∧ (escalate n s).tb.prescale = s.tb.prescale ∧ (escalate n
    s).tb.tbinEdge = s.tb.tbinEdge ∧ (escalate n s).tb.hostPause = s.tb.hostPause := by
  unfold escalate; simp

@[simp] theorem judgeHold_clock (n : Fin 4) (s : State) : (judgeHold s n).tb.tl = s.tb.tl ∧ (judgeHold s n).tb.pt =
    s.tb.pt ∧ (judgeHold s n).tb.source = s.tb.source ∧ (judgeHold s n).tb.prescale = s.tb.prescale ∧ (judgeHold s
    n).tb.tbinEdge = s.tb.tbinEdge ∧ (judgeHold s n).tb.hostPause = s.tb.hostPause := by
  unfold judgeHold; (repeat' split) <;> simp

@[simp] theorem guNewLimits_clock (m : Limits) (s : State) : (guNewLimits m s).tb.tl = s.tb.tl ∧ (guNewLimits m
    s).tb.pt = s.tb.pt ∧ (guNewLimits m s).tb.source = s.tb.source ∧ (guNewLimits m s).tb.prescale = s.tb.prescale ∧
    (guNewLimits m s).tb.tbinEdge = s.tb.tbinEdge ∧ (guNewLimits m s).tb.hostPause = s.tb.hostPause := by
  unfold guNewLimits
  exact ⟨foldl_keeps _ (fun s => s.tb.tl) (fun s n => by simp) _ _,
    foldl_keeps _ (fun s => s.tb.pt) (fun s n => by simp) _ _,
    foldl_keeps _ (fun s => s.tb.source) (fun s n => by simp) _ _,
    foldl_keeps _ (fun s => s.tb.prescale) (fun s n => by simp) _ _,
    foldl_keeps _ (fun s => s.tb.tbinEdge) (fun s n => by simp) _ _,
    foldl_keeps _ (fun s => s.tb.hostPause) (fun s n => by simp) _ _⟩

@[simp] theorem deliverLimits_clock (m : Limits) (s : State) : (deliverLimits m s).tb.tl = s.tb.tl ∧ (deliverLimits m
    s).tb.pt = s.tb.pt ∧ (deliverLimits m s).tb.source = s.tb.source ∧ (deliverLimits m s).tb.prescale = s.tb.prescale
    ∧ (deliverLimits m s).tb.tbinEdge = s.tb.tbinEdge ∧ (deliverLimits m s).tb.hostPause = s.tb.hostPause := by
  unfold deliverLimits; (repeat' split) <;> simp

@[simp] theorem makeActive_clock (m : Limits) (s : State) : (makeActive m s).tb.tl = s.tb.tl ∧ (makeActive m s).tb.pt
    = s.tb.pt ∧ (makeActive m s).tb.source = s.tb.source ∧ (makeActive m s).tb.prescale = s.tb.prescale ∧ (makeActive
    m s).tb.tbinEdge = s.tb.tbinEdge ∧ (makeActive m s).tb.hostPause = s.tb.hostPause := by
  unfold makeActive; (try dsimp only); simp

@[simp] theorem programEnd_clock (b : Bool) (s : State) : (programEnd b s).tb.tl = s.tb.tl ∧ (programEnd b s).tb.pt =
    s.tb.pt ∧ (programEnd b s).tb.source = s.tb.source ∧ (programEnd b s).tb.prescale = s.tb.prescale ∧ (programEnd b
    s).tb.tbinEdge = s.tb.tbinEdge ∧ (programEnd b s).tb.hostPause = s.tb.hostPause := by
  unfold programEnd; (try dsimp only); (repeat' split) <;> simp

@[simp] theorem takeRetirementDone_clock (s : State) : (takeRetirementDone s).tb.tl = s.tb.tl ∧ (takeRetirementDone
    s).tb.pt = s.tb.pt ∧ (takeRetirementDone s).tb.source = s.tb.source ∧ (takeRetirementDone s).tb.prescale =
    s.tb.prescale ∧ (takeRetirementDone s).tb.tbinEdge = s.tb.tbinEdge ∧ (takeRetirementDone s).tb.hostPause =
    s.tb.hostPause := by
  unfold takeRetirementDone; (try dsimp only); (repeat' split) <;> simp

@[simp] theorem takeNotices_clock (s : State) : (takeNotices s).tb.tl = s.tb.tl ∧ (takeNotices s).tb.pt = s.tb.pt ∧
    (takeNotices s).tb.source = s.tb.source ∧ (takeNotices s).tb.prescale = s.tb.prescale ∧ (takeNotices
    s).tb.tbinEdge = s.tb.tbinEdge ∧ (takeNotices s).tb.hostPause = s.tb.hostPause := by
  unfold takeNotices; simp

@[simp] theorem settle_clock (s : State) : (settle s).tb.tl = s.tb.tl ∧ (settle s).tb.pt = s.tb.pt ∧ (settle
    s).tb.source = s.tb.source ∧ (settle s).tb.prescale = s.tb.prescale ∧ (settle s).tb.tbinEdge = s.tb.tbinEdge ∧
    (settle s).tb.hostPause = s.tb.hostPause := by
  unfold settle; simp

@[simp] theorem deliverTaken_clock (b : Bool) (s : State) : (deliverTaken b s).tb.tl = s.tb.tl ∧ (deliverTaken b
    s).tb.pt = s.tb.pt ∧ (deliverTaken b s).tb.source = s.tb.source ∧ (deliverTaken b s).tb.prescale = s.tb.prescale ∧
    (deliverTaken b s).tb.tbinEdge = s.tb.tbinEdge ∧ (deliverTaken b s).tb.hostPause = s.tb.hostPause := by
  unfold deliverTaken; (repeat' split) <;> simp

@[simp] theorem deliverBatch_clock (cs : List Change) (b : Bool) (s : State) : (deliverBatch cs b s).tb.tl = s.tb.tl ∧
    (deliverBatch cs b s).tb.pt = s.tb.pt ∧ (deliverBatch cs b s).tb.source = s.tb.source ∧ (deliverBatch cs b
    s).tb.prescale = s.tb.prescale ∧ (deliverBatch cs b s).tb.tbinEdge = s.tb.tbinEdge ∧ (deliverBatch cs b
    s).tb.hostPause = s.tb.hostPause := by
  unfold deliverBatch; (repeat' split) <;> simp

@[simp] theorem applyDue_clock (s : State) : (applyDue s).tb.tl = s.tb.tl ∧ (applyDue s).tb.pt = s.tb.pt ∧ (applyDue
    s).tb.source = s.tb.source ∧ (applyDue s).tb.prescale = s.tb.prescale ∧ (applyDue s).tb.tbinEdge = s.tb.tbinEdge ∧
    (applyDue s).tb.hostPause = s.tb.hostPause := by
  unfold applyDue; (repeat' split) <;> simp

@[simp] theorem takeApplication_clock (s : State) : (takeApplication s).tb.tl = s.tb.tl ∧ (takeApplication s).tb.pt =
    s.tb.pt ∧ (takeApplication s).tb.source = s.tb.source ∧ (takeApplication s).tb.prescale = s.tb.prescale ∧
    (takeApplication s).tb.tbinEdge = s.tb.tbinEdge ∧ (takeApplication s).tb.hostPause = s.tb.hostPause := by
  unfold takeApplication; (repeat' split) <;> simp

@[simp] theorem admitEntry_clock (q : QueuedStep) (k : StepKind) (ek : EntryKind) (d : Time) (s : State) : (admitEntry
    q k ek d s).tb.tl = s.tb.tl ∧ (admitEntry q k ek d s).tb.pt = s.tb.pt ∧ (admitEntry q k ek d s).tb.source =
    s.tb.source ∧ (admitEntry q k ek d s).tb.prescale = s.tb.prescale ∧ (admitEntry q k ek d s).tb.tbinEdge =
    s.tb.tbinEdge ∧ (admitEntry q k ek d s).tb.hostPause = s.tb.hostPause := by
  unfold admitEntry; (try dsimp only); (repeat' split) <;> simp

@[simp] theorem admitLate_clock (q : QueuedStep) (k : StepKind) (ek : EntryKind) (s : State) : (admitLate q k ek
    s).tb.tl = s.tb.tl ∧ (admitLate q k ek s).tb.pt = s.tb.pt ∧ (admitLate q k ek s).tb.source = s.tb.source ∧
    (admitLate q k ek s).tb.prescale = s.tb.prescale ∧ (admitLate q k ek s).tb.tbinEdge = s.tb.tbinEdge ∧ (admitLate q
    k ek s).tb.hostPause = s.tb.hostPause := by
  unfold admitLate; (repeat' split) <;> simp

@[simp] theorem admitTimed_clock (q : QueuedStep) (k : StepKind) (ek : EntryKind) (s : State) : (admitTimed q k ek
    s).tb.tl = s.tb.tl ∧ (admitTimed q k ek s).tb.pt = s.tb.pt ∧ (admitTimed q k ek s).tb.source = s.tb.source ∧
    (admitTimed q k ek s).tb.prescale = s.tb.prescale ∧ (admitTimed q k ek s).tb.tbinEdge = s.tb.tbinEdge ∧
    (admitTimed q k ek s).tb.hostPause = s.tb.hostPause := by
  unfold admitTimed; (repeat' split) <;> simp

@[simp] theorem admitValid_clock (q : QueuedStep) (k : StepKind) (s : State) : (admitValid q k s).tb.tl = s.tb.tl ∧
    (admitValid q k s).tb.pt = s.tb.pt ∧ (admitValid q k s).tb.source = s.tb.source ∧ (admitValid q k s).tb.prescale =
    s.tb.prescale ∧ (admitValid q k s).tb.tbinEdge = s.tb.tbinEdge ∧ (admitValid q k s).tb.hostPause = s.tb.hostPause
    := by
  unfold admitValid; (repeat' split) <;> simp

@[simp] theorem admitChecked_clock (q : QueuedStep) (k : StepKind) (s : State) : (admitChecked q k s).tb.tl = s.tb.tl
    ∧ (admitChecked q k s).tb.pt = s.tb.pt ∧ (admitChecked q k s).tb.source = s.tb.source ∧ (admitChecked q k
    s).tb.prescale = s.tb.prescale ∧ (admitChecked q k s).tb.tbinEdge = s.tb.tbinEdge ∧ (admitChecked q k
    s).tb.hostPause = s.tb.hostPause := by
  unfold admitChecked; (repeat' split) <;> simp

@[simp] theorem admitWaitStep_clock (q : QueuedStep) (s : State) : (admitWaitStep q s).tb.tl = s.tb.tl ∧
    (admitWaitStep q s).tb.pt = s.tb.pt ∧ (admitWaitStep q s).tb.source = s.tb.source ∧ (admitWaitStep q
    s).tb.prescale = s.tb.prescale ∧ (admitWaitStep q s).tb.tbinEdge = s.tb.tbinEdge ∧ (admitWaitStep q
    s).tb.hostPause = s.tb.hostPause := by
  unfold admitWaitStep; (repeat' split) <;> simp

@[simp] theorem admitStep_clock (q : QueuedStep) (s : State) : (admitStep q s).tb.tl = s.tb.tl ∧ (admitStep q s).tb.pt
    = s.tb.pt ∧ (admitStep q s).tb.source = s.tb.source ∧ (admitStep q s).tb.prescale = s.tb.prescale ∧ (admitStep q
    s).tb.tbinEdge = s.tb.tbinEdge ∧ (admitStep q s).tb.hostPause = s.tb.hostPause := by
  unfold admitStep; (repeat' split) <;> simp

@[simp] theorem admitHead_clock (s : State) : (admitHead s).tb.tl = s.tb.tl ∧ (admitHead s).tb.pt = s.tb.pt ∧
    (admitHead s).tb.source = s.tb.source ∧ (admitHead s).tb.prescale = s.tb.prescale ∧ (admitHead s).tb.tbinEdge =
    s.tb.tbinEdge ∧ (admitHead s).tb.hostPause = s.tb.hostPause := by
  unfold admitHead; (repeat' split) <;> simp

@[simp] theorem takeStepAdmission_clock (s : State) : (takeStepAdmission s).tb.tl = s.tb.tl ∧ (takeStepAdmission
    s).tb.pt = s.tb.pt ∧ (takeStepAdmission s).tb.source = s.tb.source ∧ (takeStepAdmission s).tb.prescale =
    s.tb.prescale ∧ (takeStepAdmission s).tb.tbinEdge = s.tb.tbinEdge ∧ (takeStepAdmission s).tb.hostPause =
    s.tb.hostPause := by
  unfold takeStepAdmission; simp

@[simp] theorem takeWaitTimeout_clock (s : State) : (takeWaitTimeout s).tb.tl = s.tb.tl ∧ (takeWaitTimeout s).tb.pt =
    s.tb.pt ∧ (takeWaitTimeout s).tb.source = s.tb.source ∧ (takeWaitTimeout s).tb.prescale = s.tb.prescale ∧
    (takeWaitTimeout s).tb.tbinEdge = s.tb.tbinEdge ∧ (takeWaitTimeout s).tb.hostPause = s.tb.hostPause := by
  unfold takeWaitTimeout; (repeat' split) <;> simp

@[simp] theorem takeTimeRange_clock (s : State) : (takeTimeRange s).tb.tl = s.tb.tl ∧ (takeTimeRange s).tb.pt =
    s.tb.pt ∧ (takeTimeRange s).tb.source = s.tb.source ∧ (takeTimeRange s).tb.prescale = s.tb.prescale ∧
    (takeTimeRange s).tb.tbinEdge = s.tb.tbinEdge ∧ (takeTimeRange s).tb.hostPause = s.tb.hostPause := by
  unfold takeTimeRange; (try dsimp only); (repeat' split) <;> simp

@[simp] theorem notifyActivation_clock (n : Fin 4) (s : State) : (notifyActivation n s).tb.tl = s.tb.tl ∧
    (notifyActivation n s).tb.pt = s.tb.pt ∧ (notifyActivation n s).tb.source = s.tb.source ∧ (notifyActivation n
    s).tb.prescale = s.tb.prescale ∧ (notifyActivation n s).tb.tbinEdge = s.tb.tbinEdge ∧ (notifyActivation n
    s).tb.hostPause = s.tb.hostPause := by
  unfold notifyActivation; (repeat' split) <;> simp

@[simp] theorem activate_clock (n : Fin 4) (s : State) : (activate n s).tb.tl = s.tb.tl ∧ (activate n s).tb.pt =
    s.tb.pt ∧ (activate n s).tb.source = s.tb.source ∧ (activate n s).tb.prescale = s.tb.prescale ∧ (activate n
    s).tb.tbinEdge = s.tb.tbinEdge ∧ (activate n s).tb.hostPause = s.tb.hostPause := by
  unfold activate; simp

@[simp] theorem recognizeAssertion_clock (n : Fin 4) (s : State) : (recognizeAssertion n s).tb.tl = s.tb.tl ∧
    (recognizeAssertion n s).tb.pt = s.tb.pt ∧ (recognizeAssertion n s).tb.source = s.tb.source ∧ (recognizeAssertion
    n s).tb.prescale = s.tb.prescale ∧ (recognizeAssertion n s).tb.tbinEdge = s.tb.tbinEdge ∧ (recognizeAssertion n
    s).tb.hostPause = s.tb.hostPause := by
  unfold recognizeAssertion; (repeat' split) <;> simp

@[simp] theorem judgeBlanked_clock (n : Fin 4) (s : State) : (judgeBlanked n s).tb.tl = s.tb.tl ∧ (judgeBlanked n
    s).tb.pt = s.tb.pt ∧ (judgeBlanked n s).tb.source = s.tb.source ∧ (judgeBlanked n s).tb.prescale = s.tb.prescale ∧
    (judgeBlanked n s).tb.tbinEdge = s.tb.tbinEdge ∧ (judgeBlanked n s).tb.hostPause = s.tb.hostPause := by
  unfold judgeBlanked; (repeat' split) <;> simp

@[simp] theorem endBlank_clock (n : Fin 4) (s : State) : (endBlank n s).tb.tl = s.tb.tl ∧ (endBlank n s).tb.pt =
    s.tb.pt ∧ (endBlank n s).tb.source = s.tb.source ∧ (endBlank n s).tb.prescale = s.tb.prescale ∧ (endBlank n
    s).tb.tbinEdge = s.tb.tbinEdge ∧ (endBlank n s).tb.hostPause = s.tb.hostPause := by
  unfold endBlank; simp

@[simp] theorem takeBlankEnd_clock (n : Fin 4) (s : State) : (takeBlankEnd n s).tb.tl = s.tb.tl ∧ (takeBlankEnd n
    s).tb.pt = s.tb.pt ∧ (takeBlankEnd n s).tb.source = s.tb.source ∧ (takeBlankEnd n s).tb.prescale = s.tb.prescale ∧
    (takeBlankEnd n s).tb.tbinEdge = s.tb.tbinEdge ∧ (takeBlankEnd n s).tb.hostPause = s.tb.hostPause := by
  unfold takeBlankEnd; (repeat' split) <;> simp

@[simp] theorem takeEscalation_clock (n : Fin 4) (s : State) : (takeEscalation n s).tb.tl = s.tb.tl ∧ (takeEscalation
    n s).tb.pt = s.tb.pt ∧ (takeEscalation n s).tb.source = s.tb.source ∧ (takeEscalation n s).tb.prescale =
    s.tb.prescale ∧ (takeEscalation n s).tb.tbinEdge = s.tb.tbinEdge ∧ (takeEscalation n s).tb.hostPause =
    s.tb.hostPause := by
  unfold takeEscalation; (repeat' split) <;> simp

@[simp] theorem takeAssertion_clock (n : Fin 4) (s : State) : (takeAssertion n s).tb.tl = s.tb.tl ∧ (takeAssertion n
    s).tb.pt = s.tb.pt ∧ (takeAssertion n s).tb.source = s.tb.source ∧ (takeAssertion n s).tb.prescale = s.tb.prescale
    ∧ (takeAssertion n s).tb.tbinEdge = s.tb.tbinEdge ∧ (takeAssertion n s).tb.hostPause = s.tb.hostPause := by
  unfold takeAssertion; (repeat' split) <;> simp

@[simp] theorem notifyRelease_clock (n : Fin 4) (s : State) : (notifyRelease n s).tb.tl = s.tb.tl ∧ (notifyRelease n
    s).tb.pt = s.tb.pt ∧ (notifyRelease n s).tb.source = s.tb.source ∧ (notifyRelease n s).tb.prescale = s.tb.prescale
    ∧ (notifyRelease n s).tb.tbinEdge = s.tb.tbinEdge ∧ (notifyRelease n s).tb.hostPause = s.tb.hostPause := by
  unfold notifyRelease; (repeat' split) <;> simp

@[simp] theorem release_clock (n : Fin 4) (s : State) : (release n s).tb.tl = s.tb.tl ∧ (release n s).tb.pt = s.tb.pt
    ∧ (release n s).tb.source = s.tb.source ∧ (release n s).tb.prescale = s.tb.prescale ∧ (release n s).tb.tbinEdge =
    s.tb.tbinEdge ∧ (release n s).tb.hostPause = s.tb.hostPause := by
  unfold release; simp

@[simp] theorem recognizeDeassertion_clock (n : Fin 4) (s : State) : (recognizeDeassertion n s).tb.tl = s.tb.tl ∧
    (recognizeDeassertion n s).tb.pt = s.tb.pt ∧ (recognizeDeassertion n s).tb.source = s.tb.source ∧
    (recognizeDeassertion n s).tb.prescale = s.tb.prescale ∧ (recognizeDeassertion n s).tb.tbinEdge = s.tb.tbinEdge ∧
    (recognizeDeassertion n s).tb.hostPause = s.tb.hostPause := by
  unfold recognizeDeassertion; (repeat' split) <;> simp

@[simp] theorem takeDeassertion_clock (n : Fin 4) (s : State) : (takeDeassertion n s).tb.tl = s.tb.tl ∧
    (takeDeassertion n s).tb.pt = s.tb.pt ∧ (takeDeassertion n s).tb.source = s.tb.source ∧ (takeDeassertion n
    s).tb.prescale = s.tb.prescale ∧ (takeDeassertion n s).tb.tbinEdge = s.tb.tbinEdge ∧ (takeDeassertion n
    s).tb.hostPause = s.tb.hostPause := by
  unfold takeDeassertion; (repeat' split) <;> simp

@[simp] theorem recognizeEdge_clock (n : Fin 16) (e : Edge) (s : State) : (recognizeEdge n e s).tb.tl = s.tb.tl ∧
    (recognizeEdge n e s).tb.pt = s.tb.pt ∧ (recognizeEdge n e s).tb.source = s.tb.source ∧ (recognizeEdge n e
    s).tb.prescale = s.tb.prescale ∧ (recognizeEdge n e s).tb.tbinEdge = s.tb.tbinEdge ∧ (recognizeEdge n e
    s).tb.hostPause = s.tb.hostPause := by
  unfold recognizeEdge; simp

@[simp] theorem takeEdge_clock (n : Fin 16) (e : Edge) (s : State) : (takeEdge n e s).tb.tl = s.tb.tl ∧ (takeEdge n e
    s).tb.pt = s.tb.pt ∧ (takeEdge n e s).tb.source = s.tb.source ∧ (takeEdge n e s).tb.prescale = s.tb.prescale ∧
    (takeEdge n e s).tb.tbinEdge = s.tb.tbinEdge ∧ (takeEdge n e s).tb.hostPause = s.tb.hostPause := by
  unfold takeEdge; (repeat' split) <;> simp

/-- A tick event taken for each line or input keeps what each keeps. -/
theorem fold_each {β : Type} {n : Nat} (g : State → β) (act : Fin n → State → State) (h : ∀ n s, g (act n s) = g s)
    (l : List (Fin n)) (s : State) : g (l.foldl (fun s n => act n s) s) = g s := foldl_keeps _ g (fun s n => h n s) l s

@[simp] theorem takeDue_clock (s : State) : (takeDue s).tb.tl = s.tb.tl ∧ (takeDue s).tb.source = s.tb.source ∧ 
    (takeDue s).tb.tbinEdge = s.tb.tbinEdge ∧ (takeDue s).resetAsserted = s.resetAsserted ∧ 
    (takeDue s).pending = s.pending := by
  unfold takeDue
  refine ⟨?_, ?_, ?_, ?_, ?_⟩
  · simp only [takeFlushAge_frame, takeSheetRecheck_frame, takeLinkWatch_frame]
    exact (fold_each (·.tb.tl) takeEscalation (by simp) _ _).trans ((fold_each (·.tb.tl) takeBlankEnd (by simp) _ _).trans
      ((fold_each (·.tb.tl) takeLastFallDiscard (by simp) _ _).trans
        ((fold_each (·.tb.tl) takeDeferredRise (by simp) _ _).trans (by simp))))
  · simp only [takeFlushAge_frame, takeSheetRecheck_frame, takeLinkWatch_frame]
    exact (fold_each (·.tb.source) takeEscalation (by simp) _ _).trans ((fold_each (·.tb.source) takeBlankEnd (by simp) _ _).trans
      ((fold_each (·.tb.source) takeLastFallDiscard (by simp) _ _).trans
        ((fold_each (·.tb.source) takeDeferredRise (by simp) _ _).trans (by simp))))
  · simp only [takeFlushAge_frame, takeSheetRecheck_frame, takeLinkWatch_frame]
    exact (fold_each (·.tb.tbinEdge) takeEscalation (by simp) _ _).trans ((fold_each (·.tb.tbinEdge) takeBlankEnd (by simp) _ _).trans
      ((fold_each (·.tb.tbinEdge) takeLastFallDiscard (by simp) _ _).trans
        ((fold_each (·.tb.tbinEdge) takeDeferredRise (by simp) _ _).trans (by simp))))
  · simp only [takeFlushAge_frame, takeSheetRecheck_frame, takeLinkWatch_frame]
    exact (fold_each (·.resetAsserted) takeEscalation (by simp) _ _).trans ((fold_each (·.resetAsserted) takeBlankEnd (by simp) _ _).trans
      ((fold_each (·.resetAsserted) takeLastFallDiscard (by simp) _ _).trans
        ((fold_each (·.resetAsserted) takeDeferredRise (by simp) _ _).trans (by simp))))
  · simp only [takeFlushAge_frame, takeSheetRecheck_frame, takeLinkWatch_frame]
    exact (fold_each (·.pending) takeEscalation (by simp) _ _).trans ((fold_each (·.pending) takeBlankEnd (by simp) _ _).trans
      ((fold_each (·.pending) takeLastFallDiscard (by simp) _ _).trans
        ((fold_each (·.pending) takeDeferredRise (by simp) _ _).trans (by simp))))

end Sys2Proof.Machine
end

