-- ==== Sys2Proof/Tests/Slice0.lean ====
section
/-! SUPPORT. Slice0.lean: tests on small states: the check of WellFormed.lean, one or two one-step tests for each command,
and, for every obligation that has hypotheses, a state and operands that meet them, clause by clause. -/
namespace Sys2Proof.Machine
set_option Elab.async false

/-! ## Helpers -/

/-- The command answers a next state that has the property. -/
def answers (c : Instr) (s : State) (p : State → Bool) : Bool :=
  match exec c s with
  | .next t => p t
  | .fault _ | .refused _ => false

/-- A step answers a next state that has the property. -/
def stepAnswers (s : State) (p : State → Bool) : Bool :=
  match step s with
  | .next t => p t
  | .fault _ | .refused _ => false

/-- The state after reset with a context loaded. -/
def loaded : State := { State.reset with cp := { CommandPort.reset with contextLoaded := true } }

/-- The same with ARG_LO and ARG_HI written. -/
def withArgs (lo hi : Word) (s : State) : State := { s with cp := { s.cp with argLo := lo, argHi := hi } }

/-- A command in progress. -/
def busy (code : Byte) (op : Half) (s : State) : State :=
  { s with cp := { s.cp with inProgress := some { code := code, operand := op, arg := argWords s } } }

/-- A transfer in flight. -/
def inFlight (k : TransferKind) (a : Addr) (s : State) : State :=
  { s with bp := { s.bp with inFlight := some (Flight.start (asked k a)) } }

/-- A SEQUENCED line with this request and driven state. -/
def lineAt (r d : Level) : Line := { Line.reset with role := .sequenced, requested := r, driven := d, safe := .low }

/-- Every line. -/
def withLines (l : Line) (s : State) : State := { s with os := { s.os with lines := Vector.replicate 16 l } }

/-- Every pair enabled, with this dead time. -/
def withPairs (d : Half) (s : State) : State :=
  { s with os := { s.os with pairs := Vector.replicate 8 { enabled := true, deadTime := d } } }

/-- Every fault input, enabled. -/
def withInputs (i : FaultInput) (s : State) : State := { s with gu := { s.gu with inputs := Vector.replicate 4 i } }

/-- A fault input in a state, with an action on lines 0 and 1. -/
def inputAt (st : InputState) (a : GuardAction) (asserted : Bool) : FaultInput :=
  { FaultInput.reset with
    enable := true, action := a, clampMask := 3#16, policy := .onNextAction, state := st, asserted := asserted,
    holdLimit := 6#32, holdStart := if st = .active ∧ a = .hold then some 0#48 else none }

/-- Every channel. -/
def withChannels (c : Channel) (s : State) : State := { s with cx := { channels := Vector.replicate 16 c } }

/-- An enabled channel that records each rise. -/
def channelOn (record : Bool) : Channel := { Channel.reset with enable := true, record := record }

/-- TL at this value. -/
def atTl (t : Time) (s : State) : State := { s with tb := { s.tb with tl := t } }

/-- PT at this value. -/
def atPt (t : Time) (s : State) : State := { s with tb := { s.tb with pt := t } }

/-- A strip of three steps whose steps are being fetched. -/
def strip : Slot where
  number := 0
  state := .fetching
  address := 0x1000#64
  sequence := 0#32
  stepCount := 3#8
  stepsFetched := 0
  stepsAdmitted := 0
  outstanding := 0
  notifyRetire := true
  endAdmitted := false
  entryDiscarded := false
  outcome := none

/-- An agenda entry on line 0. -/
def entryAt (k : EntryKind) (due : Time) : Entry where
  due := due
  kind := k
  mask := 1#16
  pattern := 1#16
  width := 4#32
  period := 10#32
  remaining := 2#16
  tag := 7#32
  notify := true
  sequence := 0#32
  slot := 0

/-- A step of a kind, 5 ticks after the cursor, on line 0 and channel 0. -/
def stepWith (kind : Byte) : Step where
  kind := kind
  baseAnchor := false
  notify := false
  timeoutStop := false
  channel := 0#8
  edge := 0#8
  mask := 1#16
  pattern := 1#16
  delay := 5#32
  width := 4#32
  period := 10#32
  count := 2#16
  tag := 7#32
  timeout := 20#32

/-- The same at the head of the queue. -/
def queued (kind : Byte) : QueuedStep := { step := stepWith kind, slot := 0 }

/-- A RUNNING program with an agenda and a queue, its FU fetching steps. -/
def playing (a : List Entry) (q : List QueuedStep) : State :=
  inFlight (.stepRead true) 0x1020#64
    { withChannels (channelOn false) (withLines (lineAt .low .low) loaded) with
      su := { ScheduleUnit.reset with program := .running, admissionOpen := true, agenda := a, queue := q }
      fu := { FetchUnit.reset with state := .fetching, table := [strip], nextSequence := 1#32 } }

/-- A RUNNING program whose FU watches the tail, with no re-read outstanding. -/
def watching : State :=
  { playing [] [] with
    bp := BusPort.reset
    fu := { FetchUnit.reset with
      state := .watching, table := [{ strip with state := .fetched, stepsFetched := 3, stepsAdmitted := 3 }],
      nextSequence := 1#32, starvedReported := true, watchInterval := 9#32 } }

/-- A program in a state after its admission closed, its strip still playing an entry. -/
def closedIn (p : ProgramState) (o : ProgramOutcome) (a : List Entry) : State :=
  { playing [] [] with
    bp := BusPort.reset
    su := { ScheduleUnit.reset with program := p, outcome := o, agenda := a }
    fu := { FetchUnit.reset with
      state := .stopped, table := [{ strip with outstanding := 1, stepsAdmitted := 1 }], nextSequence := 1#32 } }

/-- A STOPPING program that retires this table. -/
def retiring (t : List Slot) : State :=
  inFlight (.retireWrite { outcome := .cut, admitted := 1, pt := 0#32 }) 0x1018#64
    { closedIn .stopping .stopped [] with fu := { FetchUnit.reset with state := .stopped, table := t } }

/-- The slot it retires. -/
def readySlot : Slot := { strip with state := .retireReady, outcome := some .cut }

/-- A journal in a state, four sheets at 2000h, batches of two, flush age 8, recheck interval 7. -/
def withJournal (st : JournalState) (s : State) : State :=
  { s with jw := { JournalWriter.reset with
      state := st, base := 0x2000#64, sheetCount := 4, batch := 2, recheckInterval := 7#32, flushAge := 8#32 } }

/-- A record. -/
def aRecord (n : Nat) : Record :=
  { kind := .stamp, source := noSource, flags := 0#8, stamp := 0#40, value1 := wordOf n, value2 := 0#32 }

/-- An OPEN journal with one place allotted, its record being written. -/
def writing (fifo : List Record) : State :=
  let s := withJournal .opened loaded
  inFlight (.recordWrite (aRecord 0)) 0x2010#64
    { s with jw := { s.jw with
        sheet := some { OpenSheet.fresh 0 with allotted := 1 }, fifo := fifo, ageStart := some 0#48 } }

/-- A FILLED header. -/
def aHeader (r : CloseReason) : SheetHeader where
  count := 3
  reason := r
  opened := true
  loaded := true
  sequence := 0#32
  lost := 1#32
  firstStamp := 0#32

/-- An OPEN journal whose header is being written. -/
def announcing (r : CloseReason) : State :=
  let s := withJournal .opened loaded
  inFlight (.sheetHeaderWrite (aHeader r)) 0x2000#64
    { s with jw := { s.jw with
        sheet := some { OpenSheet.fresh 0 with allotted := 3, written := 3, sealed := some r }, lostCount := 1#32 } }

/-- A journal with its next sheet's header being read. -/
def seeking (st : JournalState) : State := inFlight .sheetHeaderRead 0x2000#64 (withJournal st loaded)

/-- A block of bytes that are 0 but for those listed. -/
def bytes (n : Nat) (l : List (Nat × Byte)) : Vector Byte n := Vector.ofFn fun i => (l.lookup i.val).getD 0#8

/-- A DCB: prescale 1, batch 1, two sheets, intervals 1, line 0 SEQUENCED with idle HIGH, the rest plain. -/
def aDcb (i : Nat) : Byte :=
  if i = 0 ∨ i = 10 ∨ i = 13 ∨ i = 16 ∨ i = 20 ∨ i = 208 then 1#8
  else if i = 14 then 2#8
  else if i = 48 then 5#8
  else if 104 ≤ i ∧ i < 200 ∧ i % 6 = 0 then 1#8
  else 0#8

/-- A LOAD_CONTEXT that has read this much of the DCB. -/
def loading (n : Nat) : State :=
  let s := busy 1#8 0#16 (withArgs 0x40#32 0#32 State.reset)
  inFlight .dcbRead 0x40#64 { s with cp := { s.cp with shadow := (List.range n).map aDcb } }

/-- The rest of the DCB. -/
def dcbRest : Vector Byte 64 := Vector.ofFn fun i => aDcb (192 + i.val)

/-- No levels. -/
def noPins : Pins := { inputs := 0#16, faults := 0#4, tbin := false }

/-- A STAGE_LIMITS whose block is being read. -/
def staging (s : State) : State := inFlight .limitsRead 0x40#64 (busy 2#8 0#16 s)

/-- A tally snapshot. -/
def aSnapshot : TallySnapshot := { tl := 0#48, counters := Vector.replicate 16 3#32 }

/-- A DUMP_TALLIES whose block is being written. -/
def dumping (k : TransferKind) : State := inFlight k 0x40#64 (busy 13#8 0#16 loaded)

/-- The trip latch set by FLT0 on lines 0 and 1, which are covered. -/
def tripped (i : FaultInput) : State :=
  let s := withInputs i (withLines { lineAt .high .low with covered := true } loaded)
  { s with gu := { s.gu with latch := true, sources := 1#4, mask := 3#16 } }

/-! ## The check of WellFormed.lean -/

theorem test_wf_soft_reset : (Instr.softReset 0#32).wf = false ∧ (Instr.softReset 1#32).wf = true := by decide
theorem test_wf_irq_enable : (Instr.irqEnable 1#32).wf = false ∧ (Instr.irqEnable 2#32).wf = true := by decide
theorem test_wf_register_write :
    (∀ off ∈ [0x04, 0x08, 0x18, 0x1C, 0x20], (Instr.registerWrite off .bits32 0#32).wf = false) ∧
      (Instr.registerWrite 0x04 .bits16 0#32).wf = true ∧ (Instr.registerWrite 0x0C .bits32 0#32).wf = true := by decide
theorem test_wf_stop_program : (Instr.stopProgramDrain 2#16).wf = false ∧ (Instr.stopProgramDrain 1#16).wf = true := by
  decide
theorem test_wf_unknown_command :
    (∀ n : Fin 13, (Instr.unknownCommand (BitVec.ofNat 8 (n.val + 1)) 0#16).wf = false) ∧
      (Instr.unknownCommand 0#8 0#16).wf = true ∧ (Instr.unknownCommand 14#8 0#16).wf = true := by decide

/-! ## Steps, resets and registers -/

theorem test_step_takes_the_front :
    stepAnswers { State.reset with pending := [.pause 0#16, .tick] }
      (fun t => decide (t.tb.hostPause = true ∧ t.tb.tl = 0#48 ∧ t.pending = [.tick])) = true := by decide
theorem test_step_idles :
    stepAnswers State.reset (fun t => decide (t.tb.tl = 1#48 ∧ t.su = ScheduleUnit.reset)) = true := by decide +kernel
theorem test_hardwareReset :
    answers .hardwareReset (playing [entryAt .set 3#48] [])
      (fun t => decide (t.su = ScheduleUnit.reset ∧ t.bp.inFlight.map Flight.orphan = some true ∧ t.resetAsserted = true)) =
        true := by decide
theorem test_resetRelease :
    answers .resetRelease { State.reset with resetAsserted := true } (fun t => decide (t = State.reset)) = true := by decide
theorem test_softReset :
    answers (.softReset 1#32) (atTl 9#48 (tripped (inputAt .active .trip true)))
      (fun t => decide (t.tb.tl = 9#48 ∧ t.gu.latch = true ∧ t.os.lines[0].covered = true ∧
        t.os.lines[0].driven = .released ∧ t.gu.inputs[0].state = .off)) = true := by decide
theorem test_irqEnable :
    answers (.irqEnable 2#32) State.reset (fun t => decide (t.ev.irqEnable = true)) = true := by decide
theorem test_eventMask :
    answers (.eventMask 0xFFFF0003#32) State.reset (fun t => decide (t.ev.mask = 3#13)) = true := by decide
theorem test_eventsClear :
    answers (.eventsClear 1#32) { State.reset with ev := { EventUnit.reset with events := 3#13 } }
      (fun t => decide (t.ev.events = 2#13)) = true := by decide
theorem test_irqLine :
    irqLine { State.reset with ev := { EventUnit.reset with events := 3#13, mask := 2#13, irqEnable := true } } = true ∧
      irqLine { State.reset with ev := { EventUnit.reset with events := 1#13, mask := 2#13, irqEnable := true } } = false :=
  by decide
theorem test_wake :
    answers (.wake 0#32) watching
      (fun t => decide (t.bp.inFlight = some (Flight.start (asked .linkRead 0x1000#64)))) = true := by decide
theorem test_registerWrite_argument :
    answers (.registerWrite 0x0C .bits32 7#32) State.reset (fun t => decide (t.cp.argLo = 7#32)) = true := by decide
theorem test_registerWrite_ignored :
    answers (.registerWrite 0x0C .bits16 7#32) State.reset (fun t => decide (t = State.reset)) = true := by decide
theorem test_status :
    readRegister watching 0x14 .bits32 = some 0x00010900#32 ∧ readRegister State.reset 0x00 .bits32 = some 0x570101A0#32 :=
  by decide

/-! ## Commands of the port -/

theorem test_loadContext :
    answers (.loadContext 0#16) (withArgs 0x40#32 0#32 State.reset)
      (fun t => decide (t.bp.inFlight = some (Flight.start (asked .dcbRead 0x40#64)) ∧ t.cp.inProgress.isSome)) = true := by
  decide
theorem test_loadContext_badArgument :
    answers (.loadContext 0#16) (withArgs 0x20#32 0#32 State.reset)
      (fun t => decide (t.cp.lastResult = .badArgument ∧ t.bp.inFlight = none)) = true := by decide
theorem test_stageLimits :
    answers (.stageLimits 0#16) (withArgs 0x10#32 0#32 loaded)
      (fun t => decide (t.bp.inFlight = some (Flight.start (asked .limitsRead 0x10#64)))) = true := by decide
theorem test_stageLimits_noContext :
    answers (.stageLimits 0#16) State.reset (fun t => decide (t.cp.lastResult = .noContext)) = true := by decide
theorem test_startProgram :
    answers (.startProgram 0#16) (withArgs 0x1000#32 0#32 loaded)
      (fun t => decide (t.su.program = .running ∧ t.su.admissionOpen = true ∧
        t.bp.inFlight = some (Flight.start (asked (.stripHeaderRead 0#32) 0x1000#64)))) = true := by decide
theorem test_startProgram_tripped :
    answers (.startProgram 0#16) (tripped (inputAt .quiet .trip false))
      (fun t => decide (t.cp.lastResult = .tripped ∧ t.su.program = .idle)) = true := by decide
theorem test_stopProgramDrain :
    answers (.stopProgramDrain 1#16) (playing [entryAt .set 3#48] [])
      (fun t => decide (t.su.program = .draining ∧ t.su.outcome = .drained ∧ t.fu.state = .stopped)) = true := by decide
theorem test_stopProgramDrain_noMode :
    answers (.stopProgramDrain 3#16) (playing [] []) (fun t => decide (t.cp.lastResult = .badArgument)) = true := by decide
theorem test_stopProgramAtOnce :
    answers .stopProgramAtOnce (playing [entryAt .set 3#48] [])
      (fun t => decide (t.su.program = .stopping ∧ t.su.agenda = [] ∧ t.cp.inProgress.isSome)) = true := by decide
theorem test_pause :
    answers (.pause 0#16) State.reset (fun t => decide (t.tb.hostPause = true ∧ t.cp.lastResult = .ok)) = true := by decide
theorem test_resume :
    answers (.resume 0#16) { State.reset with tb := { Timebase.reset with hostPause := true } }
      (fun t => decide (t.tb.hostPause = false ∧ t.cp.lastResult = .ok)) = true := by decide
theorem test_forceLines :
    answers (.forceLines 0#16) (withArgs 0x00010001#32 0#32 (withLines (lineAt .low .low) loaded))
      (fun t => decide (t.os.lines[0].driven = .high ∧ t.os.lines[1].driven = .low)) = true := by decide
theorem test_forceLines_pair :
    answers (.forceLines 0#16) (withArgs 0x00030003#32 0#32 (withPairs 5#16 (withLines (lineAt .low .low) loaded)))
      (fun t => decide (t.cp.lastResult = .badArgument ∧ t.os.lines[0].requested = .low)) = true := by decide
theorem test_clearTrip :
    answers (.clearTrip 0#16) (tripped (inputAt .quiet .trip false))
      (fun t => decide (t.gu.latch = false ∧ t.os.lines[0].covered = false ∧ t.os.lines[0].driven = .high)) = true := by
  decide
theorem test_clearTrip_stillAsserted :
    answers (.clearTrip 0#16) (tripped (inputAt .active .trip true))
      (fun t => decide (t.cp.lastResult = .stillAsserted ∧ t.gu.latch = true)) = true := by decide
theorem test_journalOpen :
    answers (.journalOpen 0#16) (withJournal .off loaded)
      (fun t => decide (t.jw.state = .seeking ∧
        t.bp.inFlight = some (Flight.start (asked .sheetHeaderRead 0x2000#64)))) = true := by decide
theorem test_journalFlush :
    answers (.journalFlush 0#16) (writing [aRecord 0])
      (fun t => decide (t.jw.sheet.bind OpenSheet.sealed = some .flush ∧ t.cp.inProgress.isSome)) = true := by decide
theorem test_journalClose :
    answers (.journalClose 0#16) (writing [aRecord 0]) (fun t => decide (t.jw.state = .closing)) = true := by decide
theorem test_journalClose_blocked :
    answers (.journalClose 0#16) (withJournal .blocked loaded)
      (fun t => decide (t.jw.state = .off ∧ t.cp.lastResult = .ok)) = true := by decide
theorem test_stamp :
    answers (.stamp 0#16) (seeking .seeking) (fun t => decide (t.jw.fifo.length = 1 ∧ t.cp.lastResult = .ok)) = true := by
  decide
theorem test_dumpTallies :
    answers (.dumpTallies 1#16) (withArgs 0x40#32 0#32 loaded)
      (fun t => decide (t.bp.inFlight.map (fun f => f.transfer.address) = some 0x40#64 ∧ t.cp.inProgress.isSome)) = true :=
  by decide
theorem test_unknownCommand :
    answers (.unknownCommand 14#8 3#16) State.reset
      (fun t => decide (t.cp.lastResult = .unknownCommand ∧ t.cp.lastCode = 14#8 ∧ t.cp.lastOperand = 3#16)) = true := by
  decide

/-! ## Time -/

theorem test_tick :
    answers .tick (playing [] []) (fun t => decide (t.tb.tl = 1#48 ∧ t.tb.pt = 1#48)) = true := by decide +kernel
theorem test_tick_at_the_limit :
    answers .tick (atPt 0xFFFFFFFFFFFF#48 (playing [] []))
      (fun t => decide (t.tb.pt = 0xFFFFFFFFFFFF#48 ∧ t.tb.timeRangeNotice = true)) = true := by decide +kernel
theorem test_timeRange :
    answers .timeRange { playing [] [] with tb := { Timebase.reset with timeRangeNotice := true } }
      (fun t => decide (t.su.program = .stopping ∧ t.su.reason = .timeRange)) = true := by decide
theorem test_application :
    answers .application (playing [entryAt .pulseLead 0#48] [])
      (fun t => decide (t.os.lines[0].driven = .high ∧ t.su.agenda = [entryAt .pulseTrail 4#48])) = true := by decide
theorem test_deferredRiseExpiry :
    answers (.deferredRiseExpiry 3) (withLines { lineAt .high .low with deferred := some 0#48 } loaded)
      (fun t => decide (t.os.lines[3].driven = .high ∧ t.os.lines[4].driven = .low)) = true := by decide
theorem test_lastFallDiscard :
    answers (.lastFallDiscard 3) (atTl 65536#48 (withLines { lineAt .low .low with lastFall := some 0#48 } loaded))
      (fun t => decide (t.os.lines[3].lastFall = none ∧ t.os.lines[4].lastFall = some 0#48)) = true := by decide
theorem test_blankEnd :
    answers (.blankEnd 1) (withInputs { inputAt .quiet .note true with blankUntil := some 0#48 } loaded)
      (fun t => decide (t.gu.inputs[1].state = .active ∧ t.gu.inputs[1].blankUntil = none)) = true := by decide
theorem test_holdEscalation :
    answers (.holdEscalation 1) (atTl 6#48 (withInputs (inputAt .active .hold true) loaded))
      (fun t => decide (t.gu.latch = true ∧ t.gu.sources = 2#4 ∧ t.gu.inputs[1].escalated = true)) = true := by decide
theorem test_linkWatchInterval :
    answers .linkWatchInterval (atTl 9#48 { watching with fu := { watching.fu with watchStart := some 0#48 } })
      (fun t => decide (t.bp.inFlight = some (Flight.start (asked .linkRead 0x1000#64)))) = true := by decide
theorem test_sheetRecheckInterval :
    answers .sheetRecheckInterval
      (atTl 7#48 { withJournal .blocked loaded with
        jw := { (withJournal .blocked loaded).jw with recheckStart := some 0#48 } })
      (fun t => decide (t.bp.inFlight = some (Flight.start (asked .sheetHeaderRead 0x2000#64)))) = true := by decide
theorem test_flushAge :
    answers .flushAge (atTl 8#48 (writing [aRecord 0]))
      (fun t => decide (t.jw.sheet.bind OpenSheet.sealed = some .aged)) = true := by decide

/-- A program that waits for a rise of IN0 until PT 20. -/
def awaiting (stop : Bool) : State :=
  { playing [] [] with su := { (playing [] []).su with
      waiter := some { channel := 0, edge := .rise, deadline := some 20#48, timeoutStop := stop } } }

theorem test_waitTimeout :
    answers .waitTimeout (atPt 20#48 (awaiting false))
      (fun t => decide (t.su.waiter = none ∧ t.su.anchor = 20#48 ∧ t.su.cursor = 20#48)) = true := by decide
theorem test_waitTimeout_stop :
    answers .waitTimeout (atPt 20#48 (awaiting true))
      (fun t => decide (t.su.program = .stopping ∧ t.su.reason = .waitTimeout)) = true := by decide
theorem test_busResponseTimeout :
    answers .busResponseTimeout (dumping (.tallyWriteLow aSnapshot))
      (fun t => decide (t.cp.lastResult = .busError ∧ t.bp.inFlight = none)) = true := by decide

/-! ## Pins -/

theorem test_candidateAssertion :
    answers (.candidateAssertion 0) (withInputs (inputAt .quiet .hold false) (playing [] []))
      (fun t => decide (t.gu.inputs[0].state = .active ∧ t.tb.guardHolds = 1#4 ∧ t.os.lines[1].clampSet = 1#4)) = true := by
  decide
theorem test_candidateAssertion_trip :
    answers (.candidateAssertion 0) (withInputs (inputAt .quiet .trip false) (playing [] []))
      (fun t => decide (t.gu.latch = true ∧ t.su.program = .stopping ∧ t.su.outcome = .tripped ∧
        t.os.lines[1].covered = true ∧ t.os.lines[2].covered = false)) = true := by decide
theorem test_deassertion :
    answers (.deassertion 0) (withInputs (inputAt .active .hold true)
        { withLines { lineAt .high .low with clampSet := 1#4 } loaded with
          tb := { Timebase.reset with guardHolds := 1#4 } })
      (fun t => decide (t.gu.inputs[0].state = .quiet ∧ t.tb.guardHolds = 0#4 ∧ t.os.lines[0].await = true ∧
        t.os.lines[0].driven = .low)) = true := by decide
theorem test_recognizedEdge :
    answers (.recognizedEdge 2 .rise) (withChannels (channelOn true) (seeking .seeking))
      (fun t => decide (t.cx.channels[2].high = true ∧ t.jw.fifo.length = 1)) = true := by decide
theorem test_recognizedEdge_awaited :
    answers (.recognizedEdge 0 .rise) (atPt 3#48 (awaiting false))
      (fun t => decide (t.su.waiter = none ∧ t.su.anchor = 3#48)) = true := by decide

/-! ## Admission -/

theorem test_stepAdmission :
    answers .stepAdmission (playing [] [queued 3#8, queued 8#8])
      (fun t => decide (t.su.agenda = [entryAt .trainLead 5#48 |> fun e => { e with notify := false }] ∧
        t.su.cursor = 25#48 ∧ t.su.queue = [queued 8#8] ∧ t.su.admissionCount = 1#32)) = true := by decide
theorem test_stepAdmission_badStep :
    answers .stepAdmission (playing [] [queued 9#8])
      (fun t => decide (t.su.program = .stopping ∧ t.su.outcome = .faulted ∧ t.su.reason = .badStep)) = true := by decide

/-! ## Ends of transfers -/

/-- A FETCHING unit whose strip header is being read. -/
def fetchingHeader : State :=
  inFlight (.stripHeaderRead 1#32) 0x3000#64
    { playing [] [] with fu := { (playing [] []).fu with
        table := [{ strip with state := .fetched, stepsFetched := 3 }], nextSequence := 2#32 } }

theorem test_stripHeaderReadComplete :
    answers (.stripHeaderReadComplete (.ok (bytes 32 [(8, 2#8), (9, 1#8)]))) fetchingHeader
      (fun t => decide (t.fu.table.length = 2 ∧
        t.bp.inFlight = some (Flight.start (asked (.stepRead true) 0x3020#64)))) = true := by decide
theorem test_stripHeaderReadComplete_badStrip :
    answers (.stripHeaderReadComplete (.ok (bytes 32 []))) fetchingHeader
      (fun t => decide (t.su.program = .stopping ∧ t.su.reason = .badStrip)) = true := by decide
theorem test_stepReadComplete :
    answers (.stepReadComplete (.ok (bytes 64 [(0, 5#8), (32, 8#8)]))) (playing [] [])
      (fun t => decide (t.su.queue.map (fun q => q.step.kind) = [5#8, 8#8] ∧
        t.bp.inFlight = some (Flight.start (asked (.stepRead false) 0x1060#64)))) = true := by decide

/-- A WATCHING unit whose re-read is in flight. -/
def rereading : State := inFlight .linkRead 0x1000#64 watching

theorem test_linkRereadComplete :
    answers (.linkRereadComplete (.ok (bytes 8 [(1, 0x40#8)]))) rereading
      (fun t => decide (t.fu.state = .fetching ∧ t.fu.link = 0x4000#64)) = true := by decide
theorem test_linkRereadComplete_badLink :
    answers (.linkRereadComplete (.ok (bytes 8 [(0, 1#8)]))) rereading
      (fun t => decide (t.su.program = .stopping ∧ t.su.reason = .badLink)) = true := by decide
theorem test_retireWriteComplete :
    answers (.retireWriteComplete .ok) (busy 4#8 2#16 (retiring [readySlot]))
      (fun t => decide (t.su.program = .idle ∧ t.fu.state = .idle ∧ t.cp.lastResult = .ok ∧ t.cp.inProgress = none)) =
        true := by decide
theorem test_sheetHeaderReadComplete :
    answers (.sheetHeaderReadComplete (.ok (bytes 16 []))) (seeking .seeking)
      (fun t => decide (t.jw.state = .opened ∧ t.jw.sheet = some (OpenSheet.fresh 0))) = true := by decide
theorem test_sheetHeaderReadComplete_filled :
    answers (.sheetHeaderReadComplete (.ok (bytes 16 [(0, 1#8)]))) (seeking .seeking)
      (fun t => decide (t.jw.state = .blocked ∧ t.jw.recheckStart = some 0#48)) = true := by decide
theorem test_recordWriteComplete :
    answers (.recordWriteComplete .ok) (writing [aRecord 0, aRecord 1])
      (fun t => decide (t.jw.fifo = [aRecord 1] ∧
        t.bp.inFlight = some (Flight.start (asked (.recordWrite (aRecord 1)) 0x2020#64)))) = true := by decide
theorem test_sheetHeaderWriteComplete :
    answers (.sheetHeaderWriteComplete .ok) (announcing .flush)
      (fun t => decide (t.jw.state = .seeking ∧ t.jw.nextIndex = 1 ∧ t.jw.lostCount = 0#32)) = true := by decide
theorem test_dcbReadComplete :
    answers (.dcbReadComplete (.ok dcbRest) noPins) (loading 192)
      (fun t => decide (t.cp.contextLoaded = true ∧ t.cp.lastResult = .ok ∧ t.os.lines[0].driven = .high ∧
        t.jw.sheetCount = 2)) = true := by decide +kernel
theorem test_dcbReadComplete_first :
    answers (.dcbReadComplete (.ok (bytes 64 [(0, 1#8)])) noPins) (loading 0)
      (fun t => decide (t.bp.inFlight = some (Flight.start (asked .dcbRead 0x80#64)) ∧ t.cp.shadow.length = 64)) = true := by
  decide
theorem test_limitsReadComplete :
    answers (.limitsReadComplete (.ok (bytes 48 [(0, 1#8), (8, 9#8)]))) (staging (withPairs 5#16 loaded))
      (fun t => decide (t.os.pairs[0].deadTime = 9#16 ∧ t.os.pairs[1].deadTime = 0#16 ∧ t.cp.lastResult = .ok)) = true := by
  decide
theorem test_limitsReadComplete_staged :
    answers (.limitsReadComplete (.ok (bytes 48 [(0, 1#8)]))) (staging (closedIn .draining .drained [entryAt .set 3#48]))
      (fun t => decide (t.cp.staged = some { limits := Limits.zero, replaced := false })) = true := by decide
theorem test_tallyWriteComplete :
    answers (.tallyWriteComplete .ok) (dumping (.tallyWriteLow aSnapshot))
      (fun t => decide (t.bp.inFlight = some (Flight.start (asked (.tallyWriteHigh aSnapshot) 0x80#64)))) = true := by decide

/-! ## Witnesses: a state and operands that meet the premises of each obligation, clause by clause -/

/-- The retire word of `retiring`. -/
def aRetireWord : RetireWord := { outcome := .cut, admitted := 1, pt := 0#32 }

/-- A WATCHING unit that retires the strip before the tail. -/
def retiringBehind : State :=
  inFlight (.retireWrite aRetireWord) 0x1018#64
    { watching with fu := { watching.fu with table := readySlot :: watching.fu.table.map fun sl =>
        { sl with sequence := 1#32, number := 1 } } }

/-- A RUNNING program that reads its first strip header, with this agenda; the FU tracks nothing yet. -/
def firstStrip (a : List Entry) : State :=
  inFlight (.stripHeaderRead 0#32) 0x1000#64
    { playing a [] with fu := { FetchUnit.reset with state := .fetching, nextSequence := 1#32 } }

/-- A read of the FU in flight that is marked for discard. -/
def discarding (k : TransferKind) (s : State) : State :=
  { s with bp := { s.bp with
      inFlight := some { Flight.start (asked k 0x1000#64) with transfer := { asked k 0x1000#64 with discard := true } } } }

/-- A staged Limits Block. -/
def staged (s : State) : State :=
  { s with cp := { s.cp with staged := some { limits := Limits.zero, replaced := true } } }

theorem witness_EveryCommandAnswersNext : (Instr.tick ≠ .hardwareReset) ∧ Instr.tick ≠ .resetRelease := by decide

/-- A prescale of 3 with this count. -/
def counted (n : Nat) : State := { State.reset with tb := { Timebase.reset with prescale := 3#16, prescaleCount := n } }

theorem witness_EmptyQueuePassesAPeriod :
    (let s := { State.reset with resetAsserted := true }
     s.pending = [] ∧ s.resetAsserted = true ∧ s.bp.inFlight = none) ∧
      (let s := counted 1
       s.pending = [] ∧ s.resetAsserted = false ∧ s.tb.source = .internal ∧
          s.tb.prescaleCount + 1 < s.tb.prescale.toNat) ∧
        let s := counted 2
        s.pending = [] ∧ s.resetAsserted = false ∧ s.tb.source = .internal ∧
          s.tb.prescale.toNat ≤ s.tb.prescaleCount + 1 := by decide
/-- Source EXTERNAL with this TBIN edge, its last sample and this level. -/
def sampling (e : Edge) (last level : Bool) : State :=
  { State.reset with
    tb := { Timebase.reset with source := .external, tbinEdge := e, tbinPrevious := last }
    pins := { noPins with tbin := level } }

theorem witness_EmptyQueuePassesAPeriod_external :
    (∀ s ∈ [sampling .rise false true, sampling .fall true false],
      s.pending = [] ∧ s.resetAsserted = false ∧ s.tb.source = .external ∧
        ((s.tb.tbinEdge = .rise ∧ s.tb.tbinPrevious = false ∧ s.pins.tbin = true) ∨
          (s.tb.tbinEdge = .fall ∧ s.tb.tbinPrevious = true ∧ s.pins.tbin = false))) ∧
      let s := sampling .rise true true
      s.pending = [] ∧ s.resetAsserted = false ∧ s.tb.source = .external ∧ s.tb.tbinPrevious = true := by decide

/-- FLT0 and IN0 HIGH on filters of length 2 with this run; every other pin LOW. -/
def filtering (run : Nat) : State :=
  let i := { inputAt .quiet .note false with filterLength := 2, filterRun := run }
  let c := { channelOn false with filterLength := 2, filterRun := run }
  { withChannels c (withInputs i loaded) with pins := { noPins with faults := 1#4, inputs := 1#16 } }

theorem witness_EmptyQueuePassesAPeriod_filters :
    (loaded.gu.inputs[(0 : Fin 4)].state = .off ∧ loaded.cx.channels[(0 : Fin 16)].enable = false) ∧
      ∀ n ∈ [0, 1],
        let s := filtering n
        let pin (n : Fin 4) : Bool :=
          s.pins.faults.getLsbD n.val == (s.gu.inputs[n].polarity == .assertedHigh)
        s.pending = [] ∧ s.resetAsserted = false ∧ s.gu.inputs[(0 : Fin 4)].state ≠ .off ∧
          pin 0 ≠ s.gu.inputs[(0 : Fin 4)].asserted ∧ pin 1 = s.gu.inputs[(1 : Fin 4)].asserted ∧
            s.cx.channels[(0 : Fin 16)].enable = true ∧
              s.pins.inputs.getLsbD 0 ≠ s.cx.channels[(0 : Fin 16)].high ∧
                s.pins.inputs.getLsbD 1 = s.cx.channels[(1 : Fin 16)].high ∧
                  (n + 1 < 2 ↔ s.cx.channels[(0 : Fin 16)].filterRun + 1 < s.cx.channels[(0 : Fin 16)].filterLength) ∧
                    (n + 1 < 2 ↔ s.gu.inputs[(0 : Fin 4)].filterRun + 1 < s.gu.inputs[(0 : Fin 4)].filterLength) := by
  decide

theorem witness_EmptyQueuePassesAPeriod_response :
    rereading.pending = [] ∧ rereading.bp.inFlight = some (Flight.start (asked .linkRead 0x1000#64)) ∧
      ({ Flight.start (asked .linkRead 0x1000#64) with periods := 99998 } : Flight).periods + 1 < 100000 ∧
        100000 ≤ ({ Flight.start (asked .linkRead 0x1000#64) with periods := 99999 } : Flight).periods + 1 := by
  decide

theorem witness_RegisterReads :
    ({ State.reset with resetAsserted := true } : State).resetAsserted = true ∧ State.reset.resetAsserted = false ∧
      AccessSize.bits8 ≠ .bits32 ∧ (0x20 : Nat) ≤ 0x20 ∧ 0x02 % 4 ≠ 0 := by decide

theorem witness_IrqLineIsALevel :
    State.reset.resetAsserted = false ∧ (2#32).getLsbD 0 = false ∧ readRegister State.reset 0x18 .bits32 = some 0#32 ∧
      readRegister State.reset 0x1C .bits32 = some 0#32 ∧ 13 ≤ 13 := by decide

theorem witness_RegisterWrites :
    State.reset.resetAsserted = false ∧ (2#32).getLsbD 0 = false ∧ AccessSize.bits64 ≠ .bits32 ∧
      ∀ off ∈ [0x00, 0x14, 0x21], off = 0x00 ∨ off = 0x14 ∨ 0x20 < off := by decide

theorem witness_WakeMarksRereads_nothing :
    let s := State.reset
    s.resetAsserted = false ∧ Rested s ∧ s.fu.state ≠ .watching ∧ s.jw.state ≠ .blocked := by unfold Rested; decide
theorem witness_WakeMarksRereads_link_outstanding :
    let s := rereading
    s.resetAsserted = false ∧ Rested s ∧ linkReadOutstanding s.bp = true ∧ s.jw.state ≠ .blocked := by
  unfold Rested; decide
theorem witness_WakeMarksRereads_header_outstanding :
    let s := seeking .blocked
    s.resetAsserted = false ∧ Rested s ∧ s.bp.outstanding .jw = true ∧ s.fu.state ≠ .watching := by unfold Rested; decide
theorem witness_WakeMarksRereads_link :
    let s := watching
    s.resetAsserted = false ∧ Rested s ∧ s.fu.state = .watching ∧ s.bp.outstanding .fu = false ∧
      s.fu.newest = s.fu.table.head? ∧ s.fu.newest.isSome = true := by unfold Rested; decide
theorem witness_WakeMarksRereads_behind :
    let s := retiringBehind
    s.resetAsserted = false ∧ Rested s ∧ s.fu.state = .watching ∧ s.bp.outstanding .fu = true ∧
      linkReadOutstanding s.bp = false ∧ s.jw.state ≠ .blocked := by unfold Rested; decide
theorem witness_WakeMarksRereads_header :
    let s := withJournal .blocked loaded
    s.resetAsserted = false ∧ Rested s ∧ s.jw.state = .blocked ∧ s.bp.outstanding .jw = false ∧
      s.fu.state ≠ .watching := by unfold Rested; decide

theorem witness_WindowClosedInReset :
    ({ State.reset with resetAsserted := true } : State).resetAsserted = true ∧
      (writesWindow (.wake 0#32) = true ∧ writesWindow (.stamp 0#16) = true) := by decide

theorem witness_SoftReset : (1#32).getLsbD 0 = true ∧ State.reset.resetAsserted = false := by decide

theorem witness_BusyPortRefuses :
    let s := busy 1#8 0#16 State.reset
    writesCmd (.pause 0#16) = true ∧ s.resetAsserted = false ∧ s.cp.inProgress.isSome = true := by decide

theorem witness_PauseHolds : Ready State.reset := by unfold Ready; decide

/-- A program or no program, held by the host. -/
def heldByHost : State := { State.reset with tb := { Timebase.reset with hostPause := true } }

theorem witness_ResumeReleases :
    (Ready heldByHost ∧ heldByHost.tb.hostPause = true) ∧ Ready State.reset ∧ State.reset.tb.hostPause = false := by
  unfold Ready; decide

theorem witness_UnknownCodeAnswered :
    ((0#8).toNat = 0 ∨ 13 < (0#8).toNat) ∧ ((14#8).toNat = 0 ∨ 13 < (14#8).toNat) ∧ Ready State.reset := by
  unfold Ready; decide

theorem witness_ReadingCommandsStart_loadContext :
    (Ready watching ∧ (watching.su.program ≠ .idle ∨ watching.jw.state ≠ .off)) ∧
      (let s := withArgs 63#32 0#32 State.reset
       Ready s ∧ s.su.program = .idle ∧ s.jw.state = .off ∧ (argWords s).toNat % 64 ≠ 0) ∧
        let s := withArgs 64#32 0#32 State.reset
        Ready s ∧ s.su.program = .idle ∧ s.jw.state = .off ∧ (argWords s).toNat % 64 = 0 := by unfold Ready; decide
theorem witness_ReadingCommandsStart_stageLimits :
    (Ready State.reset ∧ State.reset.cp.contextLoaded = false) ∧
      (let s := withArgs 15#32 0#32 loaded
       Ready s ∧ s.cp.contextLoaded = true ∧ (argWords s).toNat % 16 ≠ 0) ∧
        let s := withArgs 16#32 0#32 loaded
        Ready s ∧ s.cp.contextLoaded = true ∧ (argWords s).toNat % 16 = 0 := by unfold Ready; decide

theorem witness_ProgramCommandsRefused_start :
    (Ready watching ∧ watching.su.program ≠ .idle) ∧
      (Ready State.reset ∧ State.reset.su.program = .idle ∧ State.reset.cp.contextLoaded = false) ∧
        (let s := tripped (inputAt .quiet .trip false)
         Ready s ∧ s.su.program = .idle ∧ s.cp.contextLoaded = true ∧ s.gu.latch = true) ∧
          let s := withArgs 31#32 0#32 loaded
          Ready s ∧ s.su.program = .idle ∧ s.cp.contextLoaded = true ∧ s.gu.latch = false ∧
            (argWords s).toNat % 32 ≠ 0 := by unfold Ready; decide
theorem witness_ProgramCommandsRefused_stop :
    (Ready watching ∧ 3#16 ≠ 1#16 ∧ 3#16 ≠ 2#16) ∧
      (let s := closedIn .stopping .stopped []
       Ready s ∧ (s.su.program = .idle ∨ s.su.program = .stopping)) ∧
        let s := closedIn .draining .drained [entryAt .set 3#48]
        Ready s ∧ s.su.program = .draining := by unfold Ready; decide

theorem witness_StartProgramStarts :
    let s := withArgs 32#32 0#32 loaded
    Ready s ∧ Quiet s ∧ Rested s ∧ s.bp.outstanding .fu = false ∧ s.su.program = .idle ∧ s.cp.contextLoaded = true ∧
      s.gu.latch = false ∧ (argWords s).toNat % 32 = 0 := by unfold Ready Quiet Rested; decide

theorem witness_StartProgramStarts_behind :
    let s := discarding .linkRead (withArgs 32#32 0#32 loaded)
    Ready s ∧ Quiet s ∧ Rested s ∧ s.bp.outstanding .fu = true ∧ s.su.program = .idle ∧ s.cp.contextLoaded = true ∧
      s.gu.latch = false ∧ (argWords s).toNat % 32 = 0 := by unfold Ready Quiet Rested; decide

theorem witness_DrainAccepted_StopAtOnceAccepted_untracked :
    let s := firstStrip []
    Ready s ∧ Quiet s ∧ Rested s ∧ s.su.program = .running ∧ s.su.agenda = [] ∧ Untracked s ∧ s.cp.staged = none := by
  unfold Ready Quiet Rested Untracked; decide
theorem witness_DrainAccepted_agenda :
    let s := playing [entryAt .set 3#48] [queued 1#8]
    Ready s ∧ Quiet s ∧ Rested s ∧ s.su.program = .running ∧ s.su.agenda ≠ [] := by unfold Ready Quiet Rested; decide
theorem witness_DrainAccepted_empty :
    let s := playing [] []
    Ready s ∧ Quiet s ∧ Rested s ∧ s.su.program = .running ∧ s.su.agenda = [] ∧ Retiring s := by
  unfold Ready Quiet Rested Retiring; decide

theorem witness_StopAtOnceAccepted :
    let s := closedIn .draining .drained [entryAt .set 3#48]
    Ready s ∧ Quiet s ∧ Rested s ∧ Retiring s ∧ (s.su.program = .running ∨ s.su.program = .draining) := by
  unfold Ready Quiet Rested Retiring; decide
theorem witness_StopAtOnceAccepted_strips :
    (let s := closedIn .draining .drained [entryAt .set 3#48]
     s.fu.state = .stopped ∧ s.fu.table[0]? = some { strip with outstanding := 1, stepsAdmitted := 1 } ∧
        strip.state ≠ .retireReady ∧ (s.su.agenda.filter fun e => e.slot == strip.number).length = 1) ∧
      let s := playing [] []
      Ready s ∧ Quiet s ∧ Rested s ∧ Retiring s ∧ s.su.program = .running ∧ s.su.admissionOpen = true ∧
        s.fu.state = .fetching ∧ s.fu.table[0]? = some strip ∧
          (s.su.agenda.filter fun e => e.slot == strip.number).length = strip.outstanding := by
  unfold Ready Quiet Rested Retiring; decide

/-- ARG_LO of a FORCE_LINES that asks both lines of pair 0 for HIGH. -/
def bothLines (s : State) : State := withArgs 0x00030003#32 0#32 s

theorem witness_ForceLines_refused :
    (Ready watching ∧ watching.su.program ≠ .idle) ∧
      (Ready (bothLines State.reset) ∧ State.reset.su.program = .idle ∧
        ((bothLines State.reset).cp.argLo.extractLsb' 0 16).getLsbD 0 = true ∧
          State.reset.os.lines[(0 : Fin 16)].role = .unused) ∧
        let s := bothLines (withPairs 5#16 (withLines (lineAt .low .low) loaded))
        Ready s ∧ s.su.program = .idle ∧ (∀ n : Fin 16, s.os.lines[n].role ≠ .unused) ∧ s.cp.argHi.getLsbD 0 = false ∧
          (s.os.force (s.cp.argLo.extractLsb' 0 16) (s.cp.argLo.extractLsb' 16 16) false).bothHigh 0 = true := by
  unfold Ready; decide +kernel
theorem witness_ForceLines_accepted :
    let s := withArgs 0x00010003#32 0#32 (withPairs 5#16 (withLines (lineAt .low .low) loaded))
    let mask : Half := s.cp.argLo.extractLsb' 0 16
    Ready s ∧ s.su.program = .idle ∧ mask ≠ 0#16 ∧ mask.getLsbD 0 = true ∧ mask.getLsbD 15 = false ∧
      (∀ n : Fin 16, s.os.lines[n].role ≠ .unused) ∧
        ∀ k : Fin 8, (s.os.force mask (s.cp.argLo.extractLsb' 16 16) false).bothHigh k = false := by
  unfold Ready; decide +kernel
theorem witness_ForceLines_release_and_no_lines :
    (let s := withArgs 0x00030003#32 1#32 (withPairs 5#16 (withLines (lineAt .low .low) loaded))
     Ready s ∧ s.su.program = .idle ∧ s.cp.argHi.getLsbD 0 = true ∧ ∀ n : Fin 16, s.os.lines[n].role ≠ .unused) ∧
      let s := loaded
      Ready s ∧ s.su.program = .idle ∧ (s.cp.argLo.extractLsb' 0 16 : Half) = 0#16 := by unfold Ready; decide +kernel

theorem witness_ClearTrip_refused :
    (Ready loaded ∧ Rested loaded ∧ loaded.gu.latch = false) ∧
      let s := tripped (inputAt .active .trip true)
      Ready s ∧ Rested s ∧ s.gu.latch = true ∧ s.gu.sources.getLsbD 0 = true ∧
        s.gu.inputs[(0 : Fin 4)].state = .active := by unfold Ready Rested; decide
theorem witness_ClearTrip_accepted :
    let s := tripped (inputAt .quiet .trip false)
    Ready s ∧ Rested s ∧ s.gu.latch = true ∧ ∀ n : Fin 4, s.gu.inputs[n].state ≠ .active := by
  unfold Ready Rested; decide

theorem witness_JournalOpen :
    (Ready State.reset ∧ State.reset.bp.outstanding .jw = false ∧ State.reset.cp.contextLoaded = false) ∧
      (let s := withJournal .faulted loaded
       Ready s ∧ s.bp.outstanding .jw = false ∧ s.cp.contextLoaded = true ∧ s.jw.state ≠ .off) ∧
        let s := withJournal .off loaded
        Ready s ∧ s.bp.outstanding .jw = false ∧ s.cp.contextLoaded = true ∧ s.jw.state = .off := by unfold Ready; decide

theorem witness_JournalOpen_behind :
    let s := { withJournal .off loaded with
      bp := { BusPort.reset with inFlight := some { Flight.start (asked .sheetHeaderRead 0x2000#64) with
        transfer := { asked .sheetHeaderRead 0x2000#64 with discard := true } } } }
    Ready s ∧ s.bp.outstanding .jw = true ∧ s.cp.contextLoaded = true ∧ s.jw.state = .off := by unfold Ready; decide

/-- An OPEN journal with nothing allotted. -/
def freshSheet : State :=
  let s := withJournal .opened loaded
  { s with jw := { s.jw with sheet := some (OpenSheet.fresh 0) } }

theorem witness_JournalFlush :
    (Ready loaded ∧ loaded.jw.state ≠ .opened) ∧
      (Ready freshSheet ∧ freshSheet.jw.state = .opened ∧ freshSheet.jw.sheet = some (OpenSheet.fresh 0) ∧
        (OpenSheet.fresh 0).allotted = 0) ∧
        let s := writing [aRecord 0]
        Ready s ∧ s.jw.state = .opened ∧ s.jw.sheet = some { OpenSheet.fresh 0 with allotted := 1 } ∧ 1 ≠ 0 := by
  unfold Ready; decide

theorem witness_JournalClose :
    (Ready loaded ∧ loaded.jw.state = .off) ∧
      (let s := writing [aRecord 0]
       Ready s ∧ s.jw.state = .opened ∧ s.bp.outstanding .jw = true) ∧
        (let s := seeking .seeking
         Ready s ∧ s.jw.state = .seeking ∧ s.bp.outstanding .jw = true) ∧
          (let s := withJournal .blocked loaded
           Ready s ∧ s.jw.state = .blocked) ∧
            let s := withJournal .faulted loaded
            Ready s ∧ s.jw.state = .faulted ∧ s.jw.sheet = none := by unfold Ready; decide

/-- An OPEN journal with all the places allotted written. -/
def writtenSheet : State :=
  { freshSheet with jw := { freshSheet.jw with sheet := some { OpenSheet.fresh 0 with allotted := 2, written := 2 } } }

theorem witness_JournalClose_open :
    ∀ s ∈ [freshSheet, writtenSheet],
      Ready s ∧ s.jw.state = .opened ∧ s.bp.outstanding .jw = false ∧ s.jw.sheet.isSome = true ∧
        s.jw.sheet.bind OpenSheet.sealed = none ∧ s.jw.fifo = [] := by unfold Ready; decide

/-- A SEEKING journal that holds this many records. -/
def holding (n : Nat) : State :=
  let s := seeking .seeking
  { s with jw := { s.jw with fifo := List.replicate n (aRecord 0) } }

theorem witness_StampRecorded :
    (Ready loaded ∧ (loaded.jw.state = .off ∨ loaded.jw.state = .closing ∨ loaded.jw.state = .faulted)) ∧
      (Ready (holding 15) ∧ (holding 15).jw.state = .seeking ∧ (holding 15).jw.fifo.length < 16) ∧
        Ready (holding 16) ∧ (holding 16).jw.state = .seeking ∧ 16 ≤ (holding 16).jw.fifo.length := by
  unfold Ready; decide

theorem witness_DumpTallies :
    (Ready (withArgs 15#32 0#32 loaded) ∧ (argWords (withArgs 15#32 0#32 loaded)).toNat % 16 ≠ 0) ∧
      Ready (withArgs 16#32 0#32 loaded) ∧ (argWords (withArgs 16#32 0#32 loaded)).toNat % 16 = 0 := by
  unfold Ready; decide

theorem witness_TickAdvancesTime_moves :
    let s := atPt 0xFFFFFFFFFFFE#48 (playing [] [])
    s.resetAsserted = false ∧ NothingDue s ∧ s.su.program ≠ .idle ∧ s.tb.hostPause = false ∧ s.tb.guardHolds = 0#4 ∧
      s.tb.pt.toNat < 2 ^ 48 - 1 := by unfold NothingDue; decide +kernel
theorem witness_TickAdvancesTime_limit :
    let s := atPt 0xFFFFFFFFFFFF#48 (playing [] [])
    s.resetAsserted = false ∧ NothingDue s ∧ s.su.program ≠ .idle ∧ s.tb.hostPause = false ∧ s.tb.guardHolds = 0#4 ∧
      s.tb.pt.toNat = 2 ^ 48 - 1 := by unfold NothingDue; decide +kernel
theorem witness_TickAdvancesTime_stands :
    (State.reset.resetAsserted = false ∧ NothingDue State.reset ∧ State.reset.su.program = .idle) ∧
      let s := { playing [] [] with tb := { Timebase.reset with guardHolds := 8#4 } }
      s.resetAsserted = false ∧ NothingDue s ∧ s.su.program ≠ .idle ∧ s.tb.guardHolds ≠ 0#4 := by
  unfold NothingDue; decide +kernel

/-- The time-range notice is out. -/
def outOfTime (s : State) : State := { s with tb := { s.tb with timeRangeNotice := true } }

theorem witness_TimeRangeFaults :
    loaded.tb.timeRangeNotice = false ∧
      (let s := outOfTime (playing [] [])
       s.tb.timeRangeNotice = true ∧ Quiet s ∧ Rested s ∧ s.su.program = .running ∧ Retiring s) ∧
        let s := outOfTime (retiring [readySlot])
        s.tb.timeRangeNotice = true ∧ Quiet s ∧ Rested s ∧ s.su.program = .stopping := by
  unfold Quiet Rested Retiring; decide

theorem witness_TimeRangeFaults_untracked :
    let s := outOfTime (firstStrip [])
    s.tb.timeRangeNotice = true ∧ Quiet s ∧ Rested s ∧ s.su.program = .running ∧ Untracked s := by
  unfold Quiet Rested Untracked; decide

theorem witness_ApplicationMovesLines_draining :
    (let s := closedIn .draining .ended [entryAt .set 0#48, entryAt .set 1#48]
     Quiet s ∧ Rested s ∧ s.su.program = .draining ∧ dueEntries s = [entryAt .set 0#48] ∧
       s.su.agenda.filterMap (Entry.afterApplication s.tb.pt) ≠ []) ∧
      let s := closedIn .draining .ended [entryAt .set 0#48]
      Quiet s ∧ Rested s ∧ s.su.program = .draining ∧ dueEntries s ≠ [] ∧ s.su.outcome = .ended ∧
        s.su.agenda.filterMap (Entry.afterApplication s.tb.pt) = [] ∧ Retiring s := by
  unfold Quiet Rested Retiring; decide
theorem witness_ApplicationMovesLines :
    (loaded.su.program ≠ .running ∧ loaded.su.program ≠ .draining) ∧ dueEntries (playing [entryAt .set 1#48] []) = [] ∧
      let s := playing [entryAt .set 0#48, entryAt .trainLead 0#48] []
      Quiet s ∧ Rested s ∧ s.su.program = .running ∧ dueEntries s ≠ [] ∧
        ∀ e ∈ dueEntries s, e.kind ≠ .mark ∧ e.kind ≠ .applyLimits ∧ e.kind ≠ .endProgram := by
  unfold Quiet Rested; decide
theorem witness_ApplicationMovesLines_one :
    let e := { entryAt .set 0#48 with mask := 3#16, pattern := 3#16 }
    let s := withPairs 5#16 (playing [e] [])
    Quiet s ∧ Rested s ∧ s.su.program = .running ∧ dueEntries s = [e] ∧ s.os.pairs[(0 : Fin 8)].enabled = true := by
  unfold Quiet Rested; decide

theorem witness_EntryPhases :
    (∀ k ∈ [EntryKind.set, .pulseLead, .pulseTrail, .trainLead, .trainTrail, .mark, .applyLimits, .endProgram],
      (entryAt k 0#48).kind = k) ∧
      ({ entryAt .trainTrail 0#48 with remaining := 1#16 } : Entry).remaining.toNat ≤ 1 ∧
        1 < (entryAt .trainTrail 0#48).remaining.toNat := by decide

theorem witness_MarkAndEndApplied_mark :
    let e := entryAt .mark 0#48
    let s := playing [e] []
    Quiet s ∧ Rested s ∧ s.su.program = .running ∧ dueEntries s = [e] ∧ e.kind = .mark ∧ e.notify = true ∧
      ({ e with notify := false } : Entry).notify = false := by unfold Quiet Rested; decide
theorem witness_MarkAndEndApplied_limits :
    let e := entryAt .applyLimits 0#48
    (let s := playing [e] []
     Quiet s ∧ Rested s ∧ s.su.program = .running ∧ dueEntries s = [e] ∧ s.cp.staged = none) ∧
      let s := staged (playing [e] [])
      Quiet s ∧ Rested s ∧ s.su.program = .running ∧ dueEntries s = [e] ∧ s.cp.staged.isSome = true ∧
        ∀ n : Fin 4, s.gu.inputs[n].state ≠ .active := by unfold Quiet Rested; decide
theorem witness_MarkAndEndApplied_end :
    let e := entryAt .endProgram 0#48
    (let s := playing [e, entryAt .set 9#48] []
     Quiet s ∧ Rested s ∧ s.su.program = .running ∧ dueEntries s = [e] ∧ e.kind = .endProgram ∧
        s.su.agenda.filterMap (Entry.afterApplication s.tb.pt) ≠ []) ∧
      let s := playing [e] []
      Quiet s ∧ Rested s ∧ s.su.program = .running ∧ dueEntries s = [e] ∧
        s.su.agenda.filterMap (Entry.afterApplication s.tb.pt) = [] ∧ Retiring s := by
  unfold Quiet Rested Retiring; decide
theorem witness_MarkAndEndApplied_mixed :
    (∀ s ∈ [playing [entryAt .mark 0#48, entryAt .set 0#48] [], playing [entryAt .applyLimits 0#48, entryAt .set 0#48] [],
        staged (playing [entryAt .mark 0#48, entryAt .set 0#48] []),
        playing [entryAt .endProgram 0#48, entryAt .set 0#48, entryAt .set 9#48] [],
        playing [entryAt .endProgram 0#48, entryAt .set 0#48] []],
      Quiet s ∧ Rested s ∧ s.su.program = .running ∧ (dueEntries s).length = 2 ∧
        (s.cp.staged = none ∨ ¬∃ e ∈ dueEntries s, e.kind = .applyLimits) ∧ Retiring s) ∧
      ∀ n ∈ [0, 1],
        let s := { staged (playing [entryAt .applyLimits 0#48, entryAt .set 0#48] []) with oracle := n }
        Quiet s ∧ Rested s ∧ s.su.program = .running ∧ s.cp.staged.isSome = true ∧
          (∃ e ∈ dueEntries s, e.kind = .applyLimits) ∧ (¬∃ e ∈ dueEntries s, e.kind = .endProgram) ∧
            (∀ n : Fin 4, s.gu.inputs[n].state ≠ .active) ∧ s.oracle % 2 = n ∧ inProgressIs stopCode s = false := by
  unfold Quiet Rested Retiring; decide

theorem witness_LineTickEvents :
    (let s := withLines { lineAt .high .low with deferred := some 0#48 } loaded
     s.os.lines[(15 : Fin 16)].deferred = some s.tb.tl ∧ s.os.lines[(15 : Fin 16)].driven ≠ .high ∧
        (14 : Fin 16) ≠ 15) ∧
      loaded.os.lines[(0 : Fin 16)].deferred ≠ some loaded.tb.tl ∧ loaded.os.lines[(0 : Fin 16)].lastFall = none ∧
        (let s := atTl 65535#48 (withLines { lineAt .low .low with lastFall := some 0#48 } loaded)
         s.os.lines[(0 : Fin 16)].lastFall = some 0#48 ∧ 0#48 + 65536#48 ≠ s.tb.tl) ∧
          let s := atTl 65536#48 (withLines { lineAt .low .low with lastFall := some 0#48 } loaded)
          s.os.lines[(0 : Fin 16)].lastFall = some 0#48 ∧ 0#48 + 65536#48 = s.tb.tl := by decide +kernel

/-- A fault input whose blank window ends now. -/
def blankEnding (asserted : Bool) : State :=
  withInputs { inputAt .quiet .clamp asserted with blankUntil := some 0#48 } loaded

theorem witness_BlankWindowEnds :
    loaded.gu.inputs[(3 : Fin 4)].blankUntil ≠ some loaded.tb.tl ∧
      (let s := blankEnding true
       s.gu.inputs[(3 : Fin 4)].blankUntil = some s.tb.tl ∧ s.gu.inputs[(3 : Fin 4)].state = .quiet ∧
          s.gu.inputs[(3 : Fin 4)].asserted = true) ∧
        let s := blankEnding false
        s.gu.inputs[(3 : Fin 4)].blankUntil = some s.tb.tl ∧ s.gu.inputs[(3 : Fin 4)].asserted = false ∧ Quiet s ∧
          Rested s := by unfold Quiet Rested; decide

/-- The same for each action, of a playing program with a BLOCKED journal. -/
theorem witness_BlankWindowEnds_actions :
    ∀ a ∈ [GuardAction.note, .clamp, .hold, .trip],
      let s := withJournal .blocked
        (withInputs { inputAt .quiet a true with blankUntil := some 0#48 } (playing [] []))
      let i := s.gu.inputs[(3 : Fin 4)]
      Quiet s ∧ i.blankUntil = some s.tb.tl ∧ i.state = .quiet ∧ i.asserted = true ∧ i.action = a ∧
        i.clampMask.getLsbD 1 = true ∧ s.os.lines[(1 : Fin 16)].role = .sequenced ∧ s.cp.staged = none ∧
          answers (.blankEnd 3) s (fun t => decide (t.ev.tallies[6] = 1#32 ∧
            t.jw.fifo.map (fun r => (r.kind, r.value1)) = [(.guard, BitVec.ofNat 32 a.code)])) = true := by
  unfold Quiet; decide +kernel

/-- A hold begun at 0 with limit 6, at this TL. -/
def holdingAt (t : Time) : State := atTl t (withInputs (inputAt .active .hold true) (playing [] []))

theorem witness_HoldEscalates :
    (let i := (holdingAt 6#48).gu.inputs[(2 : Fin 4)]
     i.state = .active ∧ i.action = .hold ∧ i.escalated = false ∧ i.holdLimit ≠ 0#32 ∧ i.holdStart = some 0#48 ∧
        0#48 + i.holdLimit.setWidth 48 = (holdingAt 6#48).tb.tl ∧ i.clampMask.getLsbD 1 = true) ∧
      loaded.gu.inputs[(2 : Fin 4)].state ≠ .active ∧
        let i := (holdingAt 5#48).gu.inputs[(2 : Fin 4)]
        i.holdStart = some 0#48 ∧ 0#48 + i.holdLimit.setWidth 48 ≠ (holdingAt 5#48).tb.tl := by decide

/-- A watched link whose interval began at 0, at this TL, with or without a transfer of the FU. -/
def watchedAt (t : Time) (reading : Bool) : State :=
  atTl t { (if reading then rereading else watching) with fu := { watching.fu with watchStart := some 0#48 } }

theorem witness_IntervalsExpire_link :
    (Rested (watchedAt 8#48 false) ∧ (watchedAt 8#48 false).fu.watchStart = some 0#48 ∧
      0#48 + BitVec.ofNat 48 (watchedAt 8#48 false).fu.watchInterval.toNat ≠ 8#48) ∧
      (Rested (watchedAt 9#48 true) ∧ (watchedAt 9#48 true).fu.watchStart = some 0#48 ∧
        0#48 + BitVec.ofNat 48 (watchedAt 9#48 true).fu.watchInterval.toNat = 9#48 ∧
          (watchedAt 9#48 true).bp.outstanding .fu = true) ∧
        let s := watchedAt 9#48 false
        Rested s ∧ s.fu.watchStart = some 0#48 ∧ s.bp.outstanding .fu = false ∧ s.fu.state = .watching ∧
          s.fu.newest.isSome = true ∧ ∀ o ∈ s.fu.table.head?, o.state ≠ .retireReady := by unfold Rested; decide

/-- A BLOCKED journal whose recheck interval began at 0, at this TL. -/
def blockedAt (t : Time) (s : State) : State := atTl t { s with jw := { s.jw with recheckStart := some 0#48 } }

theorem witness_IntervalsExpire_recheck :
    (let s := blockedAt 6#48 (withJournal .blocked loaded)
     Rested s ∧ s.jw.recheckStart = some 0#48 ∧ 0#48 + BitVec.ofNat 48 s.jw.recheckInterval.toNat ≠ s.tb.tl) ∧
      (let s := blockedAt 7#48 (seeking .blocked)
       Rested s ∧ s.jw.recheckStart = some 0#48 ∧ 0#48 + BitVec.ofNat 48 s.jw.recheckInterval.toNat = s.tb.tl ∧
          s.bp.outstanding .jw = true) ∧
        let s := blockedAt 7#48 (withJournal .blocked loaded)
        Rested s ∧ s.jw.recheckStart = some 0#48 ∧ 0#48 + BitVec.ofNat 48 s.jw.recheckInterval.toNat = s.tb.tl ∧
          s.bp.outstanding .jw = false ∧ s.jw.state = .blocked := by unfold Rested; decide
theorem witness_IntervalsExpire_age :
    (let s := atTl 7#48 (writing [aRecord 0])
     Rested s ∧ s.jw.ageStart = some 0#48 ∧ s.jw.sheet.isSome = true ∧
        0#48 + BitVec.ofNat 48 s.jw.flushAge.toNat ≠ s.tb.tl) ∧
      (let s := atTl 8#48 (writing [aRecord 0])
       Rested s ∧ s.jw.ageStart = some 0#48 ∧ s.jw.sheet.isSome = true ∧
          0#48 + BitVec.ofNat 48 s.jw.flushAge.toNat = s.tb.tl) ∧
        Rested loaded ∧ loaded.fu.watchStart = none ∧ loaded.jw.recheckStart = none ∧ loaded.jw.ageStart = none := by
  unfold Rested; decide

/-- The waiter of `awaiting`. -/
def aWaiter (stop : Bool) : Waiter := { channel := 0, edge := .rise, deadline := some 20#48, timeoutStop := stop }

theorem witness_WaitTimesOut :
    loaded.su.waiter = none ∧
      (let s := atPt 19#48 (awaiting false)
       s.su.waiter = some (aWaiter false) ∧ (aWaiter false).deadline ≠ some s.tb.pt) ∧
        (let s := atPt 20#48 (awaiting false)
         s.su.waiter = some (aWaiter false) ∧ (aWaiter false).deadline = some s.tb.pt ∧ Quiet s ∧ Rested s) ∧
          let s := atPt 20#48 (awaiting true)
          s.su.waiter = some (aWaiter true) ∧ (aWaiter true).deadline = some s.tb.pt ∧ Quiet s ∧ Rested s ∧
            s.su.program = .running ∧ Retiring s := by unfold Quiet Rested Retiring; decide

/-- The same wait with nothing queued, under a WATCHING unit that has not reported its episode. -/
def watchingWait : State :=
  { watching with su := (awaiting false).su, fu := { watching.fu with starvedReported := false } }

theorem witness_WaitTimesOut_starved :
    let s := atPt 20#48 watchingWait
    s.su.waiter = some (aWaiter false) ∧ (aWaiter false).deadline = some s.tb.pt ∧ Quiet s ∧ Rested s ∧
      s.su.queue = [] ∧ s.fu.state = .watching ∧ s.fu.starvedReported = false ∧
        answers .waitTimeout s (pendingCause .starved) = true := by unfold Quiet Rested; decide
theorem witness_WaitTimesOut_untracked :
    let s := atPt 20#48 { firstStrip [] with su := (awaiting true).su }
    s.su.waiter = some (aWaiter true) ∧ (aWaiter true).deadline = some s.tb.pt ∧ Quiet s ∧ Rested s ∧
      s.su.program = .running ∧ Untracked s := by unfold Quiet Rested Untracked; decide

/-- The TIMEOUT record before an abort, and before the ENDED record of a program that ends at once, with a LIMITS record
between them when a block is staged. -/
theorem witness_WaitTimesOut_records :
    (let s := withJournal .blocked (atPt 20#48 (awaiting true))
     s.su.waiter = some (aWaiter true) ∧ Quiet s ∧ Rested s ∧ s.su.program = .running ∧ Retiring s ∧
        answers .waitTimeout s (fun t => decide (t.jw.fifo.map Record.kind = [.wait])) = true) ∧
      ∀ c ∈ [(false, [RecordKind.wait, .program]), (true, [RecordKind.wait, .limits, .program])],
        let u := withJournal .blocked (atPt 20#48 { firstStrip [] with su := (awaiting true).su })
        let s := if c.1 then staged u else u
        s.su.waiter = some (aWaiter true) ∧ Quiet s ∧ Rested s ∧ s.su.program = .running ∧ Untracked s ∧
          s.cp.staged.isSome = c.1 ∧
            answers .waitTimeout s (fun t => decide (t.jw.fifo.map Record.kind = c.2)) = true := by
  unfold Quiet Rested Retiring Untracked; decide +kernel

theorem witness_ResponseTimeoutIsError_discarded :
    ∀ k ∈ [TransferKind.stripHeaderRead 0#32, .stepRead true, .linkRead],
      let s := discarding k (closedIn .draining .drained [entryAt .set 9#48])
      Quiet s ∧ Rested s ∧ k.isFetchRead = true ∧ (s.bp.inFlight.map fun f => f.transfer.kind) = some k ∧
        (s.bp.inFlight.map fun f => (f.orphan, f.transfer.discard)) = some (false, true) := by
  unfold Quiet Rested; decide
theorem witness_ResponseTimeoutIsError :
    loaded.bp.inFlight = none ∧ rereading.bp.inFlight = some (Flight.start (asked .linkRead 0x1000#64)) ∧
      ({ Flight.start (asked .linkRead 0x1000#64) with orphan := true } : Flight).orphan = true := by decide

theorem witness_AssertionActs_level :
    (Quiet loaded ∧ loaded.gu.inputs[(0 : Fin 4)].state = .off) ∧
      let s := withInputs { inputAt .quiet .trip false with blankUntil := some 1#48 } loaded
      Quiet s ∧ s.gu.inputs[(0 : Fin 4)].state = .quiet ∧ s.gu.inputs[(0 : Fin 4)].asserted = false ∧
        s.gu.inputs[(0 : Fin 4)].blankUntil ≠ none ∧ Rested s := by unfold Quiet Rested; decide
theorem witness_AssertionActs_actions :
    ∀ a ∈ [GuardAction.note, .clamp, .hold, .trip],
      let s := withInputs (inputAt .quiet a false) (playing [] [])
      let i := s.gu.inputs[(3 : Fin 4)]
      Quiet s ∧ i.state = .quiet ∧ i.asserted = false ∧ i.blankUntil = none ∧ i.action = a ∧
        i.clampMask.getLsbD 1 = true ∧ s.os.lines[(1 : Fin 16)].role = .sequenced := by unfold Quiet; decide

theorem witness_DeassertionReleases :
    loaded.gu.inputs[(0 : Fin 4)].state = .off ∧
      (let s := withInputs (inputAt .quiet .note true) loaded
       s.gu.inputs[(0 : Fin 4)].state = .quiet ∧ s.gu.inputs[(0 : Fin 4)].asserted = true ∧ Rested s) ∧
        ∀ a ∈ [GuardAction.note, .clamp, .hold, .trip],
          let s := withInputs (inputAt .active a true) (withLines { lineAt .high .low with clampSet := 1#4 } loaded)
          let i := s.gu.inputs[(0 : Fin 4)]
          i.state = .active ∧ i.asserted = true ∧ i.action = a ∧ i.policy = .onNextAction ∧
            s.os.lines[(1 : Fin 16)].clampSet.getLsbD 0 = true := by unfold Rested; decide

theorem witness_EdgeRecognized :
    loaded.cx.channels[(0 : Fin 16)].enable = false ∧
      (let s := withChannels (channelOn true) (seeking .seeking)
       let c := s.cx.channels[(15 : Fin 16)]
       c.enable = true ∧ c.high ≠ edgeLevel .rise ∧ Quiet s ∧ Rested s ∧ s.su.waiter = none ∧ c.mode = .edge ∧
          c.select.names .rise = true ∧ c.record = true ∧ c.decimation = 1) ∧
        let s := atPt 19#48 (awaiting true)
        let c := s.cx.channels[(0 : Fin 16)]
        c.enable = true ∧ c.high ≠ edgeLevel .rise ∧ Quiet s ∧ Rested s ∧ s.su.waiter = some (aWaiter true) ∧
          (aWaiter true).deadline ≠ some s.tb.pt ∧ s.su.program = .running ∧ c.record = false ∧
            (aWaiter true).channel = 0 ∧ (aWaiter true).edge.accepts .rise = true := by unfold Quiet Rested; decide

theorem witness_EdgeRecognized_starved :
    let s := atPt 19#48 watchingWait
    let c := s.cx.channels[(0 : Fin 16)]
    c.enable = true ∧ c.high ≠ edgeLevel .rise ∧ Quiet s ∧ Rested s ∧ s.su.waiter = some (aWaiter false) ∧
      (aWaiter false).deadline ≠ some s.tb.pt ∧ s.su.queue = [] ∧ s.fu.state = .watching ∧
        answers (.recognizedEdge 0 .rise) s (pendingCause .starved) = true := by unfold Quiet Rested; decide
theorem witness_EdgeRecognized_modes :
    ∀ m ∈ [(CaptureMode.interval, Edge.rise), (.width, .fall), (.cycle, .rise)],
      let high := !edgeLevel m.2
      let s := withChannels
        { channelOn true with mode := m.1, high := high, lastLeading := some 0#48, phase := some 0#48 } loaded
      let c := s.cx.channels[(7 : Fin 16)]
      c.enable = true ∧ c.high ≠ edgeLevel m.2 ∧ Quiet s ∧ Rested s ∧ s.su.waiter = none ∧ c.record = true ∧
        c.decimation = 1 ∧ c.mode = m.1 ∧ c.select.names m.2 = (m.1 != .width) ∧ c.lastLeading = some 0#48 ∧
          c.phase = some 0#48 := by unfold Quiet Rested; decide
/-- The awaited edge on a channel that records each second one, after this count. -/
theorem witness_EdgeRecognized_awaited_record :
    ∀ n ∈ [0, 1],
      let s := { withChannels { channelOn true with decimation := 2, decimationCount := n } (atPt 19#48 (awaiting true))
        with oracle := n }
      let c := s.cx.channels[(0 : Fin 16)]
      c.enable = true ∧ c.high ≠ edgeLevel .rise ∧ Quiet s ∧ Rested s ∧ (aWaiter true).deadline ≠ some s.tb.pt ∧
        s.su.program = .running ∧ s.su.waiter = some (aWaiter true) ∧ (aWaiter true).channel = 0 ∧
          (aWaiter true).edge.accepts .rise = true ∧ c.record = true ∧ c.select.names .rise = true ∧
            (c.decimation ≤ c.decimationCount + 1 ↔ n = 1) ∧ s.oracle % 2 = n := by unfold Quiet Rested; decide

/-- A state between events with this step at the head of the queue and PT at a value. -/
def admitting (pt : Time) (kind : Byte) : State := atPt pt (playing [] [queued kind])

theorem witness_StepsAdmitted_stands :
    (let s := playing [] []
     Quiet s ∧ Rested s ∧ applicationDue s = false ∧ s.su.queue = []) ∧
      let s := { admitting 0#48 1#8 with su := { (awaiting false).su with queue := [queued 1#8] } }
      Quiet s ∧ Rested s ∧ applicationDue s = false ∧ s.su.queue = [queued 1#8] ∧ mayAdmit (queued 1#8) s = false := by
  unfold Quiet Rested; decide
theorem witness_StepsAdmitted_entry :
    ∀ k ∈ [(1#8, StepKind.set, EntryKind.set), (2#8, .pulse, .pulseLead), (3#8, .train, .trainLead), (6#8, .mark, .mark),
        (7#8, .applyLimits, .applyLimits)],
      let s := admitting 4#48 k.1
      let q := queued k.1
      Quiet s ∧ Rested s ∧ applicationDue s = false ∧ s.su.queue = [q] ∧ mayAdmit q s = true ∧
        stepKindOf q.step.kind = some k.2.1 ∧ k.2.1.entryKind = some k.2.2 ∧ k.2.1 ≠ .endProgram ∧
          fieldsOk k.2.1 q.step s = true ∧ timesOk k.2.1 q.step s = true ∧ s.tb.pt.toNat < dueOf s q.step := by
  unfold Quiet Rested; decide +kernel
theorem witness_StepsAdmitted_anchor_and_wait :
    (let s := admitting 0#48 5#8
     Quiet s ∧ Rested s ∧ applicationDue s = false ∧ mayAdmit (queued 5#8) s = true ∧
        stepKindOf (queued 5#8).step.kind = some .anchor ∧ dueOf s (queued 5#8).step ≤ 2 ^ 48 - 1) ∧
      let s := admitting 0xFFFFFFFFFFEB#48 4#8
      Quiet s ∧ Rested s ∧ applicationDue s = false ∧ mayAdmit (queued 4#8) s = true ∧
        stepKindOf (queued 4#8).step.kind = some .wait ∧ (queued 4#8).step.channel.toNat = (0 : Fin 16).val ∧
          waitEdgeOf (queued 4#8).step.edge = some .rise ∧ s.cx.channels[(0 : Fin 16)].enable = true ∧
            s.tb.pt.toNat + (queued 4#8).step.timeout.toNat = 2 ^ 48 - 1 := by unfold Quiet Rested; decide +kernel

/-- A FETCHING unit with nothing outstanding: its queue is full. -/
def queueFull : State :=
  { playing [] (List.replicate 32 (queued 1#8)) with bp := BusPort.reset }

/-- The same with a first strip that the next ANCHOR makes RETIRE_READY. -/
def lastAnchor : State :=
  { playing [] (List.replicate 32 (queued 5#8)) with
    bp := BusPort.reset
    fu := { queueFull.fu with table :=
      [{ strip with state := .fetched, stepsFetched := 3, stepsAdmitted := 2 }, { strip with number := 1, sequence := 1#32 }] } }

/-- A WATCHING unit that has not reported its episode, with this step at the head of the queue. -/
def watchingStep (pt : Time) (kind : Byte) : State :=
  { admitting pt kind with bp := BusPort.reset, fu := watchingWait.fu }

theorem witness_StepsAdmitted_room :
    (Quiet queueFull ∧ Rested queueFull ∧ applicationDue queueFull = false ∧ mayAdmit (queued 1#8) queueFull = true ∧
      queueFull.tb.pt.toNat < dueOf queueFull (queued 1#8).step ∧ queueFull.bp.outstanding .fu = false ∧
        answers .stepAdmission queueFull (fun t => decide (t.bp.inFlight =
          some (Flight.start (asked (.stepRead false) 0x1020#64)))) = true) ∧
      Quiet lastAnchor ∧ Rested lastAnchor ∧ applicationDue lastAnchor = false ∧
        mayAdmit (queued 5#8) lastAnchor = true ∧ lastAnchor.bp.outstanding .fu = false ∧
          answers .stepAdmission lastAnchor (fun t => decide (t.bp.inFlight = some (Flight.start
            (asked (.retireWrite { outcome := .played, admitted := 3, pt := 0#32 }) 0x1018#64)))) = true := by
  unfold Quiet Rested; decide +kernel
theorem witness_StepsAdmitted_starved :
    ∀ k ∈ [1#8, 5#8],
      let s := watchingStep 0#48 k
      Quiet s ∧ Rested s ∧ applicationDue s = false ∧ s.su.queue = [queued k] ∧ mayAdmit (queued k) s = true ∧
        answers .stepAdmission s (pendingCause .starved) = true := by unfold Quiet Rested; decide +kernel

/-- The premises that the clauses of StepsRefusedLateAndLast share. -/
theorem witness_StepsRefusedLateAndLast_shared :
    ∀ k ∈ [1#8, 2#8, 4#8, 8#8, 9#8],
      let s := admitting 6#48 k
      Quiet s ∧ Rested s ∧ applicationDue s = false ∧ s.su.queue = [queued k] ∧ mayAdmit (queued k) s = true ∧
        Retiring s := by unfold Quiet Rested Retiring; decide +kernel
theorem witness_StepsRefusedLateAndLast_bad :
    stepKindOf (queued 9#8).step.kind = none ∧ stepKindOf (queued 0#8).step.kind = none ∧
      (let s := withLines Line.reset (admitting 6#48 1#8)
       Quiet s ∧ Rested s ∧ applicationDue s = false ∧ mayAdmit (queued 1#8) s = true ∧ Retiring s ∧
          stepKindOf (queued 1#8).step.kind = some .set ∧ fieldsOk .set (queued 1#8).step s = false) ∧
        let s := withChannels Channel.reset (admitting 6#48 4#8)
        Quiet s ∧ Rested s ∧ applicationDue s = false ∧ mayAdmit (queued 4#8) s = true ∧ Retiring s ∧
          stepKindOf (queued 4#8).step.kind = some .wait ∧ waiterOf (queued 4#8).step s = none := by
  unfold Quiet Rested Retiring; decide +kernel
theorem witness_StepsRefusedLateAndLast_late :
    ∀ p ∈ [LatePolicy.drop, .stop],
      let s := { admitting 6#48 2#8 with su := { (admitting 6#48 2#8).su with latePolicy := p } }
      Quiet s ∧ Rested s ∧ applicationDue s = false ∧ mayAdmit (queued 2#8) s = true ∧ Retiring s ∧
        stepKindOf (queued 2#8).step.kind = some .pulse ∧ StepKind.pulse.entryKind = some .pulseLead ∧
          fieldsOk .pulse (queued 2#8).step s = true ∧ timesOk .pulse (queued 2#8).step s = true ∧
            dueOf s (queued 2#8).step < s.tb.pt.toNat ∧ s.su.latePolicy = p := by
  unfold Quiet Rested Retiring; decide +kernel
theorem witness_StepsRefusedLateAndLast_late_applied :
    let s := admitting 6#48 1#8
    Quiet s ∧ Rested s ∧ applicationDue s = false ∧ mayAdmit (queued 1#8) s = true ∧ Retiring s ∧
      stepKindOf (queued 1#8).step.kind = some .set ∧ StepKind.set.entryKind = some .set ∧
        fieldsOk .set (queued 1#8).step s = true ∧ timesOk .set (queued 1#8).step s = true ∧
          dueOf s (queued 1#8).step < s.tb.pt.toNat ∧ s.su.latePolicy = .apply := by
  unfold Quiet Rested Retiring; decide +kernel
theorem witness_StepsRefusedLateAndLast_now_and_end :
    (let s := admitting 5#48 1#8
     Quiet s ∧ Rested s ∧ applicationDue s = false ∧ mayAdmit (queued 1#8) s = true ∧ Retiring s ∧
        fieldsOk .set (queued 1#8).step s = true ∧ dueOf s (queued 1#8).step = s.tb.pt.toNat) ∧
      let s := admitting 4#48 8#8
      Quiet s ∧ Rested s ∧ applicationDue s = false ∧ mayAdmit (queued 8#8) s = true ∧ Retiring s ∧
        stepKindOf (queued 8#8).step.kind = some .endProgram ∧ timesOk .endProgram (queued 8#8).step s = true ∧
          s.tb.pt.toNat < dueOf s (queued 8#8).step := by unfold Quiet Rested Retiring; decide +kernel
/-- A late step under this policy, the journal BLOCKED with this many records held. -/
def lateBlocked (p : LatePolicy) (n : Nat) : State :=
  let s := withJournal .blocked (watchingStep 6#48 1#8)
  { s with su := { s.su with latePolicy := p }, jw := { s.jw with fifo := List.replicate n (aRecord 0) } }

/-- The LATE record of a step that LATE_STOP turns away has neither flag. -/
theorem witness_StepsRefusedLateAndLast_late_stop :
    let a := withJournal .blocked (admitting 6#48 2#8)
    let s := { a with su := { a.su with latePolicy := .stop } }
    Quiet s ∧ Rested s ∧ applicationDue s = false ∧ mayAdmit (queued 2#8) s = true ∧ Retiring s ∧
      dueOf s (queued 2#8).step < s.tb.pt.toNat ∧
        answers .stepAdmission s (fun t => decide (t.jw.fifo.map (fun r => (r.kind, r.flags)) = [(.late, 0#8)])) = true := by
  unfold Quiet Rested Retiring; decide +kernel

theorem witness_StepsRefusedLateAndLast_starved_and_counted :
    ∀ p ∈ [LatePolicy.drop, .apply], ∀ n ∈ [15, 16],
      let s := lateBlocked p n
      Quiet s ∧ Rested s ∧ applicationDue s = false ∧ s.su.queue = [queued 1#8] ∧ mayAdmit (queued 1#8) s = true ∧
        Retiring s ∧ fieldsOk .set (queued 1#8).step s = true ∧ timesOk .set (queued 1#8).step s = true ∧
          dueOf s (queued 1#8).step < s.tb.pt.toNat ∧ s.su.latePolicy = p ∧
            answers .stepAdmission s (fun t => pendingCause .starved t && decide
              (pendingCause .recordsLost t = decide (n = 16))) = true := by
  unfold Quiet Rested Retiring; decide +kernel
theorem witness_StepsRefusedLateAndLast_room :
    let s := atPt 5#48 queueFull
    Quiet s ∧ Rested s ∧ applicationDue s = false ∧ mayAdmit (queued 1#8) s = true ∧ Retiring s ∧
      dueOf s (queued 1#8).step = s.tb.pt.toNat ∧ s.bp.outstanding .fu = false ∧
        answers .stepAdmission s (fun t => decide (t.bp.inFlight =
          some (Flight.start (asked (.stepRead false) 0x1020#64)))) = true := by
  unfold Quiet Rested Retiring; decide +kernel
set_option synthInstance.maxSize 1000 in
theorem witness_StepsRefusedLateAndLast_points :
    BadStep (admitting 6#48 9#8) (stepWith 9#8) ∧ BadStep (withChannels Channel.reset (admitting 6#48 4#8)) (stepWith 4#8) ∧
      ∀ k ∈ [1#8, 2#8, 3#8, 6#8, 7#8, 8#8],
        let due := dueOf (admitting 6#48 k) (stepWith k)
        ¬BadStep (admitting 6#48 k) (stepWith k) ∧ due < (admitting 6#48 k).tb.pt.toNat ∧
          (admitting 6#48 k).su.latePolicy = .apply ∧ ¬BadStep (admitting 5#48 k) (stepWith k) ∧
            due = (admitting 5#48 k).tb.pt.toNat := by unfold BadStep; dsimp only; decide +kernel
set_option synthInstance.maxSize 1000 in
theorem witness_StepsRefusedLateAndLast_points_shared :
    (∀ k ∈ [1#8, 2#8, 3#8, 6#8, 7#8, 8#8, 9#8], ∀ s ∈ [admitting 6#48 k, admitting 5#48 k, staged (admitting 5#48 k)],
      Quiet s ∧ Rested s ∧ applicationDue s = false ∧ s.su.queue = [queued k] ∧ mayAdmit (queued k) s = true ∧
        Retiring s) ∧
      (staged (admitting 5#48 7#8)).cp.staged.isSome = true ∧ (stepWith 7#8).kind.toNat = 7 ∧
        let s := { admitting 6#48 8#8 with su := { (admitting 6#48 8#8).su with latePolicy := .drop } }
        ¬BadStep s (stepWith 8#8) ∧ dueOf s (stepWith 8#8) < s.tb.pt.toNat ∧ (stepWith 8#8).kind.toNat = 8 := by
  unfold Quiet Rested Retiring BadStep; dsimp only; decide +kernel

/-- A strip header with this step count and retire state. -/
def headerBytes (steps retired : Byte) : Vector Byte 32 := bytes 32 [(8, steps), (24, retired)]

theorem witness_StripHeaderArrives :
      (Quiet fetchingHeader ∧ Rested fetchingHeader ∧ fetchingHeader.fu.state = .fetching ∧
        fetchingHeader.fu.doneNotice = none ∧ fetchingHeader.su.program = .running ∧ fetchingHeader.fu.table ≠ []) ∧
        (∀ n ∈ [1#8, 63#8], let h := stripHeaderOf (headerBytes n 0#8).toList
          1 ≤ h.stepCount.toNat ∧ h.stepCount.toNat ≤ 63 ∧ h.retireState = 0#8) ∧
          (stripHeaderOf (headerBytes 0#8 0#8).toList).stepCount.toNat = 0 ∧
            63 < (stripHeaderOf (headerBytes 64#8 0#8).toList).stepCount.toNat ∧
              (stripHeaderOf (headerBytes 1#8 1#8).toList).retireState ≠ 0#8 := by unfold Quiet Rested; decide
theorem witness_StripHeaderArrives_first :
    let s := firstStrip []
    Quiet s ∧ Rested s ∧ s.fu.state = .fetching ∧ s.fu.doneNotice = none ∧ s.su.program = .running ∧ Untracked s := by
  unfold Quiet Rested Untracked; decide
theorem witness_StripHeaderArrives_inFlight :
    inFlightIs fetchingHeader (.stripHeaderRead 1#32) 0x3000#64 ∧
      inFlightIs (firstStrip []) (.stripHeaderRead 0#32) 0x1000#64 := ⟨⟨_, rfl, rfl, rfl⟩, ⟨_, rfl, rfl, rfl⟩⟩

/-- A header read with this many steps in the queue. -/
def headerBehind (n : Nat) : State :=
  { fetchingHeader with su := { fetchingHeader.su with queue := List.replicate n (queued 1#8) } }

/-- A header read with the first strip RETIRE_READY. -/
def headerBeforeRetire : State :=
  { fetchingHeader with fu := { fetchingHeader.fu with table := [readySlot] } }

theorem witness_StripHeaderArrives_asked :
    (∀ n ∈ [30, 31, 32],
      let s := headerBehind n
      Quiet s ∧ Rested s ∧ s.fu.state = .fetching ∧ s.fu.doneNotice = none ∧ s.bp.fu = none ∧
        answers (.stripHeaderReadComplete (.ok (headerBytes 2#8 0#8))) s (fun t => decide (t.bp.inFlight =
          if n = 32 then none else some (Flight.start (asked (.stepRead (decide (n = 30))) 0x3020#64)))) = true) ∧
      let s := headerBeforeRetire
      Quiet s ∧ Rested s ∧ s.fu.state = .fetching ∧ s.fu.doneNotice = none ∧ s.bp.fu = none ∧
        answers (.stripHeaderReadComplete (.ok (headerBytes 2#8 0#8))) s (fun t => decide (t.bp.inFlight = some
          (Flight.start (asked (.retireWrite { outcome := .cut, admitted := 0, pt := 0#32 }) 0x1018#64)))) = true := by
  unfold Quiet Rested; decide +kernel

/-- The clause of an end that nothing in flight matches, of StripHeaderArrives and StepsArrive. -/
theorem witness_StripHeaderArrives_StepsArrive_no_transfer :
    Quiet queueFull ∧ Rested queueFull ∧ queueFull.fu.state = .fetching ∧ queueFull.fu.doneNotice = none ∧
      queueFull.su.program = .running ∧ queueFull.bp.inFlight = none := by unfold Quiet Rested; decide +kernel

/-- A FETCHING unit that reads the last step of its strip, whose link is this. -/
def lastStep (link : Addr) : State :=
  inFlight (.stepRead false) 0x1060#64
    { playing [] [] with fu := { (playing [] []).fu with table := [{ strip with stepsFetched := 2 }], link := link } }

theorem witness_StepsArrive_more :
    let s := playing [] []
    Quiet s ∧ Rested s ∧ s.fu.state = .fetching ∧ s.fu.doneNotice = none ∧ s.su.program = .running ∧
      s.fu.newest = some strip ∧ strip.state = .fetching ∧ s.su.admissionOpen = true ∧
        strip.stepsFetched + 2 < strip.stepCount.toNat := by unfold Quiet Rested; decide
theorem witness_StepsArrive_last :
    let s := lastStep 0#64
    Quiet s ∧ Rested s ∧ s.fu.state = .fetching ∧ s.fu.doneNotice = none ∧ s.su.program = .running ∧
      s.fu.newest = some { strip with stepsFetched := 2 } ∧ s.su.admissionOpen = true ∧
        2 + 1 = strip.stepCount.toNat ∧ s.fu.link = 0#64 := by unfold Quiet Rested; decide
theorem witness_StepsArrive_followed :
    ∀ q ∈ [1, 8],
      let s := { lastStep 96#64 with fu := { (lastStep 96#64).fu with nextSequence := BitVec.ofNat 32 q } }
      Quiet s ∧ Rested s ∧ s.fu.state = .fetching ∧ s.fu.doneNotice = none ∧ s.su.program = .running ∧
        s.fu.newest = some { strip with stepsFetched := 2 } ∧ s.su.admissionOpen = true ∧ s.fu.link ≠ 0#64 ∧
          s.fu.link.toNat % 32 = 0 ∧ s.bp.fu = none ∧
            ((∀ x ∈ s.fu.table, x.number.val ≠ s.fu.nextSequence.toNat % 8) ↔ q = 1) := by
  unfold Quiet Rested; decide
/-- The last step of the second strip is read, with this link, and the first strip is RETIRE_READY. -/
def lastBehindRetire (link : Addr) : State :=
  let s := lastStep link
  { s with fu := { s.fu with
      table := [readySlot, { strip with number := 1, sequence := 1#32, stepsFetched := 2 }], nextSequence := 2#32 } }

theorem witness_StepsArrive_asked :
    ((playing [] []).bp.fu = none ∧ answers (.stepReadComplete (.ok (bytes 64 []))) (playing [] [])
      (fun t => decide (t.bp.inFlight = some (Flight.start (asked (.stepRead false) 0x1060#64)))) = true) ∧
      ((lastStep 0#64).bp.fu = none ∧ answers (.stepReadComplete (.ok (bytes 64 []))) (lastStep 0#64)
        (fun t => decide (t.bp.inFlight = some (Flight.start (asked .linkRead 0x1000#64)))) = true) ∧
        ∀ n ∈ [0, 96],
          let a : Addr := BitVec.ofNat 64 n
          let s := lastBehindRetire a
          Quiet s ∧ Rested s ∧ s.fu.state = .fetching ∧ s.fu.doneNotice = none ∧ s.bp.fu = none ∧
            s.su.admissionOpen = true ∧ s.fu.link = a ∧ answers (.stepReadComplete (.ok (bytes 64 []))) s
              (fun t => decide (t.fu.table.head?.map Slot.state = some .retireReady ∧
                t.fu.rereadWanted = decide (n = 0) ∧ t.fu.nextAddress = if n = 0 then none else some a)) = true := by
  unfold Quiet Rested; decide +kernel
theorem witness_StepsArrive_badLink :
    let s := lastStep 31#64
    Quiet s ∧ Rested s ∧ s.fu.state = .fetching ∧ s.fu.doneNotice = none ∧ s.su.program = .running ∧
      s.fu.newest = some { strip with stepsFetched := 2 } ∧ s.su.admissionOpen = true ∧
        s.fu.link.toNat % 32 ≠ 0 := by unfold Quiet Rested; decide
theorem witness_StepsArrive_inFlight :
    inFlightIs (playing [] []) (.stepRead true) 0x1020#64 ∧ inFlightIs (lastStep 0#64) (.stepRead false) 0x1060#64 :=
  ⟨⟨_, rfl, rfl, rfl⟩, ⟨_, rfl, rfl, rfl⟩⟩

theorem witness_LinkRereadEnds :
    (let s := watching
     Quiet s ∧ Rested s ∧ s.fu.state = .watching ∧ Retiring s ∧ s.su.program = .running ∧ s.bp.inFlight = none) ∧
      (let s := rereading
       Quiet s ∧ Rested s ∧ s.fu.state = .watching ∧ Retiring s ∧ s.su.program = .running) ∧
        long (bytes 8 []).toList 0 = 0#64 ∧ (long (bytes 8 [(0, 32#8)]).toList 0).toNat % 32 = 0 ∧
          long (bytes 8 [(0, 32#8)]).toList 0 ≠ 0#64 ∧ (long (bytes 8 [(0, 31#8)]).toList 0).toNat % 32 ≠ 0 := by
  unfold Quiet Rested Retiring; decide
theorem witness_LinkRereadEnds_inFlight : inFlightIs rereading .linkRead 0x1000#64 := ⟨_, rfl, rfl, rfl⟩
/-- The same with this many entries of the tail outstanding and this next sequence. -/
def rereadingTail (n q : Nat) : State :=
  { rereading with fu := { rereading.fu with
      table := rereading.fu.table.map (fun sl => { sl with outstanding := n }), nextSequence := BitVec.ofNat 32 q } }

/-- A followed link behind the tail's retire write, at once, and with its slot still occupied. -/
theorem witness_LinkRereadEnds_followed :
    ∀ c ∈ [(0, 1, 1), (1, 1, 2), (1, 8, 3)],
      let s := rereadingTail c.1 c.2.1
      Quiet s ∧ Rested s ∧ s.fu.state = .watching ∧ Retiring s ∧ s.su.program = .running ∧ s.bp.fu = none ∧
        (∀ x ∈ s.fu.newest, x.state ≠ .fetching) ∧
          answers (.linkRereadComplete (.ok (bytes 8 [(0, 32#8)]))) s (fun t => decide (t.bp.inFlight =
            if c.2.2 = 1 then some (Flight.start
              (asked (.retireWrite { outcome := .played, admitted := 3, pt := 0#32 }) 0x1018#64))
            else if c.2.2 = 2 then some (Flight.start (asked (.stripHeaderRead 1#32) 32#64)) else none)) = true := by
  unfold Quiet Rested Retiring; decide +kernel

/-- A link of 0 with a re-read marked while this one was in flight, and with none. -/
theorem witness_LinkRereadEnds_marked :
    ∀ w ∈ [true, false],
      let r := rereadingTail 1 1
      let s := { r with fu := { r.fu with rereadWanted := w } }
      Quiet s ∧ Rested s ∧ s.fu.state = .watching ∧ Retiring s ∧ s.su.program = .running ∧ s.bp.fu = none ∧
        s.fu.rereadWanted = w ∧ answers (.linkRereadComplete (.ok (bytes 8 []))) s (fun t => decide (
          (∀ x ∈ t.fu.table.head?, x.state ≠ .retireReady) ∧ t.fu.rereadWanted = false ∧
            t.bp.outstanding .fu = w ∧ t.ev.tallies[14] = if w then 1#32 else 0#32)) = true := by
  unfold Quiet Rested Retiring; decide +kernel

theorem witness_StripRetired_more_and_error :
    let s := retiringBehind
    Quiet s ∧ Rested s ∧ s.fu.table.head? = some readySlot ∧ s.fu.table.tail ≠ [] ∧ s.fu.doneNotice = none ∧
      s.fu.abandoned = false ∧ readySlot.notifyRetire = true ∧ s.fu.state = .watching ∧ s.su.program = .running ∧
        s.su.admissionOpen = true ∧ s.cp.staged = none := by unfold Quiet Rested; decide
theorem witness_StripRetired_last_and_error :
    ∀ s ∈ [retiring [readySlot], busy 4#8 2#16 (retiring [readySlot]), staged (retiring [readySlot])],
      Quiet s ∧ Rested s ∧ s.fu.table = [readySlot] ∧ s.fu.doneNotice = none ∧ s.fu.abandoned = false ∧
        s.fu.state = .stopped ∧ s.su.program = .stopping ∧ s.su.admissionOpen = false := by
  unfold Quiet Rested; decide
/-- Two slots to retire. -/
def retiringTwo : State := retiring [readySlot, { readySlot with number := 1, sequence := 1#32, address := 0x3000#64 }]

theorem witness_StripRetired_next :
    let s := retiringTwo
    Quiet s ∧ Rested s ∧ s.fu.table.head? = some readySlot ∧ s.fu.doneNotice = none ∧ s.fu.abandoned = false ∧
      s.fu.table.tail.head?.map Slot.state = some .retireReady ∧
        s.fu.table.tail.head?.bind Slot.outcome = some .cut ∧ s.bp.fu = none := by unfold Quiet Rested; decide
/-- A RUNNING program whose FETCHING unit retires the head of this table, the next header at 3000h. -/
def retiringOn (t : List Slot) : State :=
  inFlight (.retireWrite aRetireWord) 0x1018#64
    { playing [] [] with fu := { (playing [] []).fu with
        table := t, nextAddress := some 0x3000#64, nextSequence := BitVec.ofNat 32 t.length } }

theorem witness_StripRetired_goes_on :
    (∀ t ∈ [[], [{ strip with state := .fetched, number := 1, sequence := 1#32, outstanding := 1 }]],
      let s := retiringOn (readySlot :: t)
      Quiet s ∧ Rested s ∧ s.fu.table = readySlot :: t ∧ s.fu.doneNotice = none ∧ s.fu.abandoned = false ∧
        s.fu.state = .fetching ∧ s.fu.nextAddress = some 0x3000#64 ∧ s.bp.fu = none ∧
          (t ≠ [] → ∀ x ∈ s.fu.newest, x.state ≠ .fetching) ∧
            answers (.retireWriteComplete .ok) s (fun u => decide (u.fu.table = t ∧ u.bp.inFlight =
              some (Flight.start (asked (.stripHeaderRead (BitVec.ofNat 32 (t.length + 1))) 0x3000#64)))) = true) ∧
      (let s := retiringOn [readySlot, { strip with number := 1, sequence := 1#32 }]
       Quiet s ∧ Rested s ∧ s.bp.fu = none ∧ answers (.retireWriteComplete .ok) s (fun u => decide (u.bp.inFlight =
         some (Flight.start (asked (.stepRead true) 0x1020#64)))) = true) ∧
        let s := { retiringBehind with fu := { retiringBehind.fu with rereadWanted := true } }
        Quiet s ∧ Rested s ∧ s.bp.fu = none ∧ s.fu.state = .watching ∧ s.fu.rereadWanted = true ∧
          answers (.retireWriteComplete .ok) s (fun u => decide (u.bp.inFlight =
            some (Flight.start (asked .linkRead 0x1000#64)))) = true := by
  unfold Quiet Rested; decide +kernel
theorem witness_StripRetired_inFlight :
    inFlightIs retiringBehind (.retireWrite aRetireWord) 0x1018#64 ∧
      inFlightIs (retiring [readySlot]) (.retireWrite aRetireWord) 0x1018#64 ∧
        inProgressIs stopCode (retiring [readySlot]) = false ∧
          inProgressIs stopCode (busy 4#8 2#16 (retiring [readySlot])) = true ∧
            (staged (retiring [readySlot])).cp.staged.isSome = true :=
  ⟨⟨_, rfl, rfl, rfl⟩, ⟨_, rfl, rfl, rfl⟩, by decide, by decide, by decide⟩

theorem witness_SheetHeaderArrives :
    ((seeking .seeking).jw.fifo = [] ∧ (bytes 16 [])[0] = 0#8 ∧ (bytes 16 [(0, 1#8)])[0] ≠ 0#8 ∧
      (seeking .blocked).jw.rereadWanted = false ∧ inProgressIs flushCode (seeking .blocked) = false) ∧
      ((holding 2).bp.jw = none ∧ (holding 2).jw.state = .seeking ∧ (holding 2).jw.fifo = [aRecord 0, aRecord 0]) ∧
        inFlightIs (seeking .seeking) .sheetHeaderRead 0x2000#64 ∧
          inFlightIs (seeking .blocked) .sheetHeaderRead 0x2000#64 ∧ inFlightIs (holding 2) .sheetHeaderRead 0x2000#64 :=
  ⟨by decide, by decide, ⟨_, rfl, rfl, rfl⟩, ⟨_, rfl, rfl, rfl⟩, ⟨_, rfl, rfl, rfl⟩⟩
/-- A close that waits for a header read, with this many records held. -/
def closingRead (n : Nat) (discard : Bool) : State :=
  let s := busy 11#8 0#16 (withJournal .closing loaded)
  { s with
    jw := { s.jw with fifo := List.replicate n (aRecord 0) }
    bp := { BusPort.reset with inFlight := some { Flight.start (asked .sheetHeaderRead 0x2000#64) with
      transfer := { asked .sheetHeaderRead 0x2000#64 with discard := discard } } } }

theorem witness_SheetHeaderArrives_closing :
    (closingRead 2 false).jw.state = .closing ∧ (closingRead 2 false).jw.fifo = [aRecord 0, aRecord 0] ∧
      (closingRead 2 false).bp.jw = none ∧ inFlightIs (closingRead 2 false) .sheetHeaderRead 0x2000#64 ∧
        (closingRead 0 true).jw.state = .closing ∧ (closingRead 0 true).jw.sheet = none ∧
          (closingRead 0 true).bp.inFlight.map (fun f => (f.orphan, f.transfer)) =
            some (false, { kind := .sheetHeaderRead, address := 0x2000#64, discard := true }) :=
  ⟨by decide, by decide, by decide, ⟨_, rfl, rfl, rfl⟩, by decide, by decide, by decide⟩

/-- A re-read that a close taken in BLOCKED has left in flight, the journal OFF or open again. -/
def leftReread (st : JournalState) : State :=
  let s := closingRead 0 true
  { s with jw := { s.jw with state := st }, cp := loaded.cp }

/-- Left by the close: an OK changes nothing but the seek's own read, an ERROR faults the journal. -/
theorem witness_SheetHeaderArrives_left :
    ∀ st ∈ [JournalState.off, .seeking],
      let s := leftReread st
      s.jw.state = st ∧ s.bp.jw = none ∧ inProgressIs flushCode s = false ∧
        s.bp.inFlight.map (fun f => (f.orphan, f.transfer)) =
            some (false, { kind := .sheetHeaderRead, address := 0x2000#64, discard := true }) ∧
          answers (.sheetHeaderReadComplete (.ok (bytes 16 []))) s (fun t => decide (t.jw = s.jw ∧
            t.bp.outstanding .jw = (st == .seeking))) = true ∧
            answers (.sheetHeaderReadComplete .error) s (fun t => decide (t.jw.state = .faulted ∧
              t.bp.outstanding .jw = false ∧ t.ev.tallies[15] = 1#32)) = true := by decide +kernel

/-- A close that writes the header of its last sheet. -/
def closingSheet : State :=
  let s := busy 11#8 0#16 (announcing .closed)
  { s with jw := { s.jw with state := .closing } }

theorem witness_SheetWritesEnd :
    (∀ s ∈ [writing [aRecord 0], announcing .full, announcing .flush], s.jw.state = .opened ∧ s.bp.jw = none) ∧
      inProgressIs flushCode (announcing .full) = false ∧
        inProgressIs flushCode (busy 10#8 0#16 (announcing .flush)) = true ∧
          (announcing .full).jw.readyCount + 1 < (announcing .full).jw.batch ∧ (aHeader .flush).reason ≠ .full ∧
            closingSheet.jw.state = .closing ∧ closingSheet.jw.fifo = [] ∧
              let s := { announcing .full with jw := { (announcing .full).jw with readyCount := 1 } }
              s.jw.state = .opened ∧ s.jw.batch ≤ s.jw.readyCount + 1 := by decide
theorem witness_SheetWritesEnd_inFlight :
    inFlightIs (writing [aRecord 0]) (.recordWrite (aRecord 0)) 0x2010#64 ∧
      inFlightIs (announcing .full) (.sheetHeaderWrite (aHeader .full)) 0x2000#64 ∧
        inFlightIs (announcing .flush) (.sheetHeaderWrite (aHeader .flush)) 0x2000#64 ∧
          inFlightIs closingSheet (.sheetHeaderWrite (aHeader .closed)) 0x2000#64 :=
  ⟨⟨_, rfl, rfl, rfl⟩, ⟨_, rfl, rfl, rfl⟩, ⟨_, rfl, rfl, rfl⟩, ⟨_, rfl, rfl, rfl⟩⟩
/-- An OPEN journal that writes a record, with this many places allotted and this reason if the sheet is sealed. -/
def writingAt (places : Nat) (c : Option CloseReason) (fifo : List Record) : State :=
  let s := writing fifo
  { s with jw := { s.jw with sheet := some { OpenSheet.fresh 0 with allotted := places, sealed := c } } }

theorem witness_SheetWritesEnd_open :
    ∀ c ∈ [(1, none, [aRecord 0]), (30, none, [aRecord 0, aRecord 1]), (31, some CloseReason.full, [aRecord 0, aRecord 1])],
      let s := writingAt c.1 c.2.1 c.2.2
      s.jw.state = .opened ∧ s.jw.sheet = some { OpenSheet.fresh 0 with allotted := c.1, sealed := c.2.1 } ∧
        0 < c.1 ∧ s.bp.jw = none ∧ answers (.recordWriteComplete .ok) s
          (fun t => decide (t.jw.sheet.map (fun h => (h.allotted, h.written, h.sealed)) =
            if c.1 = 1 then some (1, 1, none) else some (31, 1, some .full))) = true := by decide
/-- A close that writes a record, with these held. -/
def closingRecord (fifo : List Record) : State :=
  let s := busy 11#8 0#16 (writing fifo)
  { s with jw := { s.jw with state := .closing } }

/-- A close whose sheet is full while a record is held. -/
def closingFull : State :=
  let s := busy 11#8 0#16 (announcing .full)
  { s with jw := { s.jw with state := .closing, fifo := [aRecord 1] } }

theorem witness_SheetWritesEnd_closing :
    (∀ l ∈ [[aRecord 0], [aRecord 0, aRecord 1]],
      let s := closingRecord l
      s.jw.state = .closing ∧ s.jw.sheet = some { OpenSheet.fresh 0 with allotted := 1 } ∧ s.bp.jw = none ∧
        s.jw.fifo = l) ∧
      (closingFull.jw.state = .closing ∧ closingFull.jw.fifo ≠ [] ∧ closingFull.bp.jw = none) ∧
        (writing [aRecord 0]).jw.sheet = some { OpenSheet.fresh 0 with allotted := 1 } ∧
          inFlightIs (closingRecord [aRecord 0, aRecord 1]) (.recordWrite (aRecord 0)) 0x2010#64 ∧
            inFlightIs closingFull (.sheetHeaderWrite (aHeader .full)) 0x2000#64 :=
  ⟨by decide, by decide, by decide, ⟨_, rfl, rfl, rfl⟩, ⟨_, rfl, rfl, rfl⟩⟩

/-- A header written in CLOSING spends its marks and counts; a FULL one raises SHEETS_READY at the batch, not below it. -/
theorem witness_SheetWritesEnd_closing_announced :
    ∀ c ∈ [(closingFull, 0, false), (closingFull, 1, true), (closingSheet, 0, true)],
      let s := { c.1 with jw := { c.1.jw with readyCount := c.2.1, openedMark := true, loadedMark := true } }
      s.jw.state = .closing ∧ s.bp.jw = none ∧ s.jw.batch = 2 ∧ answers (.sheetHeaderWriteComplete .ok) s
        (fun t => decide (t.jw.openedMark = false ∧ t.jw.loadedMark = false ∧ t.ev.tallies[12] = 1#32 ∧
          t.ev.tallies[9] = 3#32 ∧ t.jw.readyCount = (if c.2.2 then 0 else 1) ∧
            pendingCause .sheetsReady t = c.2.2)) = true := by decide +kernel

theorem witness_DcbReadsEnd :
    (((loading 128).cp.shadow ++ dcbRest.toList).length < 256 ∧
      256 ≤ ((loading 192).cp.shadow ++ dcbRest.toList).length ∧
        dcbValid ((loading 192).cp.shadow ++ dcbRest.toList) = true ∧
          dcbValid ((loading 192).cp.shadow ++ (bytes 64 []).toList) = false) ∧
      inFlightIs (loading 128) .dcbRead 0x40#64 ∧ inFlightIs (loading 192) .dcbRead 0x40#64 :=
  ⟨by decide +kernel, ⟨_, rfl, rfl, rfl⟩, ⟨_, rfl, rfl, rfl⟩⟩
set_option synthInstance.maxSize 1000 in
theorem witness_DcbReadsEnd_points :
    ¬DcbRefused ((loading 192).cp.shadow ++ dcbRest.toList) ∧
      DcbRefused ((loading 192).cp.shadow ++ (bytes 64 []).toList) := by
  unfold DcbRefused badFilter; dsimp only; decide +kernel

theorem witness_LimitsReadEnds :
    (Quiet (staging loaded) ∧ Rested (staging loaded) ∧ (staging loaded).su.program = .idle ∧
      (bytes 48 [(0, 1#8)])[0] = 1#8 ∧ (bytes 48 [])[0] ≠ 1#8 ∧
        let s := staging (closedIn .draining .drained [entryAt .set 3#48])
        Quiet s ∧ Rested s ∧ s.su.program ≠ .idle) ∧
      inFlightIs (staging loaded) .limitsRead 0x40#64 :=
  ⟨by unfold Quiet Rested; decide, ⟨_, rfl, rfl, rfl⟩⟩
/-- An IDLE part at TL 4 with a rise of OUT0 deferred after the fall of OUT1 at 2. -/
def deferring : State :=
  let s := staging (atTl 4#48 (withPairs 5#16 (withLines (lineAt .low .low) loaded)))
  let rise := { lineAt .high .low with deferred := some 7#48 }
  let fallen := { lineAt .low .low with lastFall := some 2#48 }
  { s with os := { s.os with lines := (s.os.lines.set 0 rise).set 1 fallen } }

theorem witness_LimitsReadEnds_deferred :
    (Quiet deferring ∧ Rested deferring ∧ deferring.su.program = .idle ∧
      (∀ n : Fin 4, deferring.gu.inputs[n].state ≠ .active) ∧ deferring.os.resolve deferring.tb.tl = deferring.os ∧
        deferring.os.lines[(0 : Fin 16)].deferred ≠ none ∧ deferring.os.lines[(1 : Fin 16)].deferred = none ∧
          deferring.os.pairs[pairOf 0].enabled = true ∧ deferring.os.lines[partner 0].lastFall = some 2#48 ∧
            (limitsOf (bytes 48 [(0, 1#8)]).toList 0).deadTimes[pairOf 0].toNat ≤ (deferring.tb.tl - 2#48).toNat ∧
              (deferring.tb.tl - 2#48).toNat <
                (limitsOf (bytes 48 [(0, 1#8), (8, 9#8)]).toList 0).deadTimes[pairOf 0].toNat) ∧
      inFlightIs deferring .limitsRead 0x40#64 :=
  ⟨by unfold Quiet Rested; decide +kernel, ⟨_, rfl, rfl, rfl⟩⟩

theorem witness_TallyWritesEnd :
    inFlightIs (dumping (.tallyWriteLow aSnapshot)) (.tallyWriteLow aSnapshot) 0x40#64 ∧
      inFlightIs (dumping (.tallyWriteHigh aSnapshot)) (.tallyWriteHigh aSnapshot) 0x40#64 :=
  ⟨⟨_, rfl, rfl, rfl⟩, ⟨_, rfl, rfl, rfl⟩⟩

/-- A journal that writes a record while a request of the FU waits, with this draw. -/
def contended (draw : Nat) : State :=
  let s := writing [aRecord 0, aRecord 1]
  { s with bp := { s.bp with fu := some (asked .linkRead 0x1000#64) }, oracle := draw }

theorem witness_GrantOrderIsFree :
    (∀ n ∈ [0, 1], let s := contended n
      s.bp.jw = none ∧ s.bp.fu = some (asked .linkRead 0x1000#64) ∧ TransferKind.linkRead.owner = .fu ∧
        s.jw.state = .opened ∧ s.jw.sheet = some { OpenSheet.fresh 0 with allotted := 1 } ∧
          s.jw.fifo = aRecord 0 :: aRecord 1 :: [] ∧ s.oracle % 2 = n) ∧
      inFlightIs (contended 0) (.recordWrite (aRecord 0)) 0x2010#64 ∧
        inFlightIs (contended 1) (.recordWrite (aRecord 0)) 0x2010#64 :=
  ⟨by decide, ⟨_, rfl, rfl, rfl⟩, ⟨_, rfl, rfl, rfl⟩⟩

/-- A RUNNING program with every pair enabled, an entry in its agenda and a step in its queue. -/
def inService : State := withPairs 5#16 (playing [entryAt .set 3#48] [queued 1#8])

theorem witness_PairSafetyKept :
    inService.os.Safe ∧ inService.os.pairs[(0 : Fin 8)].enabled = true ∧
      stepAnswers { inService with pending := [.tick] } (fun _ => true) = true := by
  unfold OutputStage.Safe Line.driveOk OutputStage.pairKept; decide +kernel
theorem witness_PairNeverBothHigh :
    let s := withLines (lineAt .high .high) loaded
    s.os.Safe ∧ s.os.lines[(0 : Fin 16)].driven = .high := by
  unfold OutputStage.Safe Line.driveOk OutputStage.pairKept; decide +kernel
theorem witness_ProgramShapeKept : inService.su.Shaped ∧ inService.su.program = .running := by
  unfold ScheduleUnit.Shaped; decide
theorem witness_TripGateKept :
    TripGated inService ∧ TripGated (tripped (inputAt .active .trip true)) := by unfold TripGated; decide
/-- The states of the witnesses of every statement with the premise that each waiting request is filed. -/
def filedStates : List State :=
  [headerBehind 30, headerBehind 31, headerBehind 32, headerBeforeRetire, lastBehindRetire 0#64, lastBehindRetire 96#64,
    rereadingTail 0 1, rereadingTail 1 1, rereadingTail 1 8, retiringOn [readySlot],
    retiringOn [readySlot, { strip with state := .fetched, number := 1, sequence := 1#32, outstanding := 1 }],
    retiringOn [readySlot, { strip with number := 1, sequence := 1#32 }], writingAt 1 none [aRecord 0],
    writingAt 30 none [aRecord 0, aRecord 1], writingAt 31 (some .full) [aRecord 0, aRecord 1],
    playing [] [], fetchingHeader, firstStrip [], queueFull, lastStep 0#64, lastStep 31#64, lastStep 96#64, watching,
    rereading, retiringBehind, retiringTwo, retiring [readySlot], busy 4#8 2#16 (retiring [readySlot]),
    staged (retiring [readySlot]), seeking .seeking, seeking .blocked, holding 2, closingRead 2 false,
    closingRead 0 true, writing [aRecord 0], announcing .full, announcing .flush, closingSheet, closingFull,
    closingRecord [aRecord 0], closingRecord [aRecord 0, aRecord 1], staging loaded, deferring,
    staging (closedIn .draining .drained [entryAt .set 3#48]),
    discarding .linkRead (closedIn .draining .drained [entryAt .set 9#48]), leftReread .off, leftReread .seeking,
    inService]

theorem witness_Filed : ∀ s ∈ filedStates, s.bp.Filed := by
  have h : ∀ s ∈ filedStates, s.bp.jw = none ∧ s.bp.fu = none ∧ s.bp.cp = none := by decide
  exact fun s hs => .of_none (h s hs)

theorem witness_CapacitiesKept : WithinCapacity State.reset ∧ WithinCapacity inService := by
  refine ⟨⟨by decide, by decide, by decide, nofun, nofun, reset_filed⟩, by decide, by decide, by decide, ?_, ?_, ?_⟩
  · intro f h; cases h; decide
  · intro f h; cases h; decide
  · exact .of_none (by decide)
theorem witness_BetweenEventsKept : Quiet inService ∧ Rested inService := by unfold Quiet Rested; decide

end Sys2Proof.Machine
end

/-! PAUSE and RESUME (section 5.6, R100 and R101), over what a CMD write and a tick do. -/
section
namespace Sys2Proof.Machine

/-! ## A CMD write (R169, R171) -/

/-- A port that takes commands hands a CMD write to the command's owner (R169). -/
theorem cmdWrite_of_ready {s : State} (h : Ready s) (code : Byte) (op : Half) (owner : State → State) :
    cmdWrite code op owner s = owner { s with cp := s.cp.take code op } := by
  obtain ⟨hreset, hidle⟩ := h
  simp [cmdWrite, hreset, hidle]

/-- Completing a command in the event that took it leaves the state `answered`: `complete` after `take`. -/
theorem complete_take (code : Byte) (op : Half) (r : Result) (s : State) :
    complete r { s with cp := s.cp.take code op } = answered code op r s := rfl

/-- A CMD write keeps of the Timebase Unit whatever the command's owner keeps. -/
theorem cmdWrite_keeps_tb {β : Type} (g : Timebase → β) (code : Byte) (op : Half) (owner : State → State)
    (h : ∀ s, g (owner s).tb = g s.tb) (s : State) : g (cmdWrite code op owner s).tb = g s.tb := by
  unfold cmdWrite
  split
  · rfl
  · split
    · rw [(raise_frame .cmdRefused s).1]
    · exact h _

/-! ## The program is held (R9, R10) -/

theorem held_of_hostPause {s : State} (h : s.tb.hostPause = true) : held s = true := by simp [held, h]

theorem held_without_hostPause {s : State} (h : s.tb.hostPause = false) : held s = (s.tb.guardHolds != 0#4) := by
  simp [held, h]

/-- STATUS.HELD is bit 10 of STATUS (12.2). -/
theorem statusWord_bit10_of_held {s : State} (h : held s = true) : (statusWord s).getLsbD 10 = true := by
  have hbit : (fieldAt 10 (held s).toNat).getLsbD 10 = true := by rw [h]; decide
  simp [statusWord, hbit]

theorem readRegister_status {s : State} (h : s.resetAsserted = false) :
    readRegister s 0x14 .bits32 = some (statusWord s) := by simp [readRegister, h]

/-! ## A tick while the program is paused (R4, R6) -/

/-- The events due at the present tick keep of the Timebase Unit what the ones that touch it keep: the other ones leave
it alone. -/
theorem takeDue_keeps_tb {β : Type} (g : Timebase → β) (hrange : ∀ s, g (takeTimeRange s).tb = g s.tb)
    (happly : ∀ s, g (takeApplication s).tb = g s.tb) (hwait : ∀ s, g (takeWaitTimeout s).tb = g s.tb)
    (hblank : ∀ n s, g (takeBlankEnd n s).tb = g s.tb) (hescalate : ∀ n s, g (takeEscalation n s).tb = g s.tb)
    (s : State) : g (takeDue s).tb = g s.tb := by
  unfold takeDue
  simp only [takeFlushAge_frame, takeSheetRecheck_frame, takeLinkWatch_frame]
  rw [fold_each (fun s => g s.tb) takeEscalation hescalate, fold_each (fun s => g s.tb) takeBlankEnd hblank,
    fold_each (fun s => g s.tb) takeLastFallDiscard (by simp), fold_each (fun s => g s.tb) takeDeferredRise (by simp),
    hwait, happly, hrange]

@[simp] theorem takeDue_pt (s : State) : (takeDue s).tb.pt = s.tb.pt :=
  takeDue_keeps_tb (·.pt) (by simp) (by simp) (by simp) (by simp) (by simp) s

@[simp] theorem takeDue_hostPause (s : State) : (takeDue s).tb.hostPause = s.tb.hostPause :=
  takeDue_keeps_tb (·.hostPause) (by simp) (by simp) (by simp) (by simp) (by simp) s

@[simp] theorem sourceTicked_pt (s : State) : (sourceTicked s).tb.pt = s.tb.pt := by
  unfold sourceTicked; split <;> rfl

@[simp] theorem sourceTicked_hostPause (s : State) : (sourceTicked s).tb.hostPause = s.tb.hostPause := by
  unfold sourceTicked; split <;> rfl

/-- PT stands at a tick that finds the program held (R6). -/
theorem advance_pt_of_held {s : State} (h : held s = true) : (advance s).tb.pt = s.tb.pt := by
  simp [advance, ptAdvances, h, Timebase.tick]

/-- PT stands at a TICK while HOST_PAUSE is in the set: no event that the tick finds due removes it. -/
theorem takeTick_pt_of_hostPause {s : State} (h : s.tb.hostPause = true) : (takeTick s).tb.pt = s.tb.pt := by
  unfold takeTick
  split
  · rfl
  · have hheld : held (sourceTicked (takeDue s)) = true := held_of_hostPause (by simp [h])
    rw [advance_pt_of_held hheld, sourceTicked_pt, takeDue_pt]

/-! ## START_PROGRAM leaves the hold-cause set alone (R86) -/

@[simp] theorem startAt_hostPause (a : Addr) (s : State) : (startAt a s).tb.hostPause = s.tb.hostPause := by
  simp [startAt]

@[simp] theorem takeStart_hostPause (s : State) : (takeStart s).tb.hostPause = s.tb.hostPause := by
  unfold takeStart; (repeat' split) <;> simp

/-! ## The commands as the queue gives them -/

theorem exec_pause (op : Half) (s : State) : exec (.pause op) s = .next (cmdWrite 5#8 op takePause s) := rfl

theorem exec_resume (op : Half) (s : State) : exec (.resume op) s = .next (cmdWrite 6#8 op takeResume s) := rfl

theorem exec_startProgram (op : Half) (s : State) :
    exec (.startProgram op) s = .next (cmdWrite 3#8 op takeStart s) := rfl

theorem exec_tick (s : State) : exec .tick s = .next (takeTick s) := rfl

/-- PAUSE at a port that takes it (R100). -/
theorem exec_pause_of_ready {s : State} (h : Ready s) (op : Half) :
    exec (.pause op) s = .next (answered 5#8 op .ok { s with tb := { s.tb with hostPause := true } }) := by
  rw [exec_pause, cmdWrite_of_ready h, takePause, ← complete_take]

/-- RESUME with HOST_PAUSE in the set (R101). -/
theorem exec_resume_of_paused {s : State} (h : Ready s) (hp : s.tb.hostPause = true) (op : Half) :
    exec (.resume op) s = .next (answered 6#8 op .ok { s with tb := { s.tb with hostPause := false } }) := by
  rw [exec_resume, cmdWrite_of_ready h, takeResume, if_pos hp, ← complete_take]

/-- RESUME without it is refused (R101). -/
theorem exec_resume_of_not_paused {s : State} (h : Ready s) (hp : s.tb.hostPause = false) (op : Half) :
    exec (.resume op) s = .next (answered 6#8 op .notPaused s) := by
  rw [exec_resume, cmdWrite_of_ready h, takeResume, if_neg (by simp [hp]), complete_take]

/-- START_PROGRAM, taken or refused, leaves HOST_PAUSE as it was. -/
theorem exec_startProgram_hostPause {op : Half} {s u : State} (h : exec (.startProgram op) s = .next u) :
    u.tb.hostPause = s.tb.hostPause := by
  rw [exec_startProgram] at h
  cases h
  exact cmdWrite_keeps_tb (·.hostPause) 3#8 op takeStart takeStart_hostPause s

/-! ## The obligations -/

/-- Settles O13: the paused state is `answered` with HOST_PAUSE set, and HOST_PAUSE alone makes it held, shows in STATUS,
stops PT and outlives a START_PROGRAM. -/
theorem pauseHolds : Obligations.PauseHolds := by
  intro op s hs
  have hpaused : (answered 5#8 op .ok { s with tb := { s.tb with hostPause := true } }).tb.hostPause = true := rfl
  have hheld := held_of_hostPause hpaused
  have ⟨hreset, _⟩ := hs
  refine ⟨_, exec_pause_of_ready hs op, rfl, hheld, ?_, ?_, ?_⟩
  · exact ⟨_, readRegister_status hreset, statusWord_bit10_of_held hheld⟩
  · exact ⟨_, exec_tick _, takeTick_pt_of_hostPause hpaused⟩
  · exact fun o u hu => (exec_startProgram_hostPause hu).trans hpaused

/-- Settles O14, by whether HOST_PAUSE is in the set. -/
theorem resumeReleases : Obligations.ResumeReleases := by
  intro op s hs
  refine ⟨fun hp => ⟨exec_resume_of_paused hs hp op, ?_⟩, fun hp => exec_resume_of_not_paused hs hp op⟩
  exact held_without_hostPause rfl

end Sys2Proof.Machine
end

/-! Output lines (chapter 6): what a safe line is driven by (R111), and FORCE_LINES (R118), over the line lemmas of
Laws/Output. -/
section
namespace Sys2Proof.Machine

/-! ## A line driven HIGH (R108, R111) -/

/-- The two ways resolution calls for HIGH (R108). -/
theorem Line.target_eq_high {l : Line} (h : l.target = .high) :
    (l.forced = false ∧ l.requested = .high) ∨ (l.forced = true ∧ l.safe = .high) := by
  unfold Line.target at h
  split at h
  next => contradiction
  next =>
    cases hforced : l.forced with
    | false => exact .inl ⟨rfl, by simpa [hforced] using h⟩
    | true => exact .inr ⟨rfl, by simpa [hforced] using h⟩

/-- A line whose drive follows its target is driven HIGH by its request or by its safe level. -/
theorem Line.driveOk.driven_high {l : Line} (h : l.driveOk) (hdriven : l.driven = .high) :
    (l.forced = false ∧ l.requested = .high) ∨ (l.forced = true ∧ l.safe = .high) :=
  Line.target_eq_high (h (.inl hdriven))

/-- Without safe level HIGH only its request drives a line HIGH. -/
theorem Line.driveOk.requested_high {l : Line} (h : l.driveOk) (hsafe : l.safe ≠ .high) (hdriven : l.driven = .high) :
    l.requested = .high := by
  obtain ⟨_, hreq⟩ | ⟨_, hhigh⟩ := h.driven_high hdriven
  · exact hreq
  · exact absurd hhigh hsafe

/-! ## The requests a FORCE_LINES makes -/

theorem Line.ask_of_sequenced {l : Line} (h : l.role = .sequenced) (v : Level) :
    l.ask v = { l with requested := v, await := false } := if_pos h

theorem force_line_of_mask {mask : Half} {o : OutputStage} {n : Fin 16} (levels : Half) (release : Bool)
    (hmask : mask.getLsbD n.val = true) (hrole : o.lines[n].role = .sequenced) :
    (o.force mask levels release).lines[n] =
      { o.lines[n] with requested := forcedLevel release levels n, await := false } := by
  rw [OutputStage.force, mapLines_line, if_pos hmask, Line.ask_of_sequenced hrole]

theorem force_line_of_not_mask {mask : Half} {n : Fin 16} (levels : Half) (release : Bool) (o : OutputStage)
    (hmask : mask.getLsbD n.val = false) : (o.force mask levels release).lines[n] = o.lines[n] := by
  rw [OutputStage.force, mapLines_line, if_neg (ne_true_of_eq_false hmask)]

/-- Resolution leaves a line's request as the changes of its event made it. -/
@[simp] theorem resolve_requested (t : Time) (o : OutputStage) (n : Fin 16) :
    (o.resolve t).lines[n].requested = o.lines[n].requested := by
  obtain ⟨_, _, hrequested, _⟩ := resolve_same t o n
  exact hrequested

/-- Resolution leaves a line's await flag as the changes of its event made it. -/
@[simp] theorem resolve_await (t : Time) (o : OutputStage) (n : Fin 16) :
    (o.resolve t).lines[n].await = o.lines[n].await := by
  obtain ⟨_, _, _, _, hawait, _⟩ := resolve_same t o n
  exact hawait

/-! ## What the checks say -/

theorem masksUnused_iff (mask : Half) (o : OutputStage) :
    masksUnused mask o = true ↔ ∃ n : Fin 16, mask.getLsbD n.val = true ∧ o.lines[n].role = .unused := by
  simp [masksUnused]

theorem forcesPair_iff (mask levels : Half) (o : OutputStage) :
    forcesPair mask levels o = true ↔ ∃ k : Fin 8,
      (mask.getLsbD (lowerLine k).val = true ∨ mask.getLsbD (upperLine k).val = true) ∧
        (o.force mask levels false).bothHigh k = true := by
  simp [forcesPair]

/-- A mask that passes the first check names SEQUENCED lines only (R104). -/
theorem sequenced_of_masked {mask : Half} {o : OutputStage} (h : masksUnused mask o = false) {n : Fin 16}
    (hmask : mask.getLsbD n.val = true) : o.lines[n].role = .sequenced := by
  cases hrole : o.lines[n].role with
  | sequenced => rfl
  | unused => exact absurd ((masksUnused_iff mask o).mpr ⟨n, hmask, hrole⟩) (ne_true_of_eq_false h)

/-! ## The accepted event -/

theorem forceLinesNow_of_mask_zero {s : State} (h : forceMask s = 0#16) : forceLinesNow s = s := if_pos h

theorem forceLinesNow_of_mask_ne_zero {s : State} (h : forceMask s ≠ 0#16) :
    forceLinesNow s = osEvent (OutputStage.force (forceMask s) (forceLevels s) (forceRelease s)) s := if_neg h

theorem forceLinesNow_os {s : State} (h : forceMask s ≠ 0#16) :
    (forceLinesNow s).os = (s.os.force (forceMask s) (forceLevels s) (forceRelease s)).resolve s.tb.tl := by
  rw [forceLinesNow_of_mask_ne_zero h, osEvent, osResolve_os]

/-- The event raises nothing; resolution only counts the rises it defers (R109). -/
@[simp] theorem forceLinesNow_events (s : State) : (forceLinesNow s).ev.events = s.ev.events := by
  unfold forceLinesNow; split <;> rfl

/-- The GU takes edge notices alone from the event: the trip latch, its mask and its sources stand. -/
@[simp] theorem forceLinesNow_latch (s : State) : (forceLinesNow s).gu.latch = s.gu.latch ∧
    (forceLinesNow s).gu.mask = s.gu.mask ∧ (forceLinesNow s).gu.sources = s.gu.sources := by
  unfold forceLinesNow; split <;> exact ⟨rfl, rfl, rfl⟩

theorem forceLinesNow_masked {s : State} (h : masksUnused (forceMask s) s.os = false) {n : Fin 16}
    (hmask : (forceMask s).getLsbD n.val = true) : (forceLinesNow s).os.lines[n].await = false ∧
      (forceLinesNow s).os.lines[n].requested = forcedLevel (forceRelease s) (forceLevels s) n := by
  have hne : forceMask s ≠ 0#16 := fun hzero => by simp [hzero] at hmask
  rw [forceLinesNow_os hne, resolve_requested, resolve_await,
    force_line_of_mask _ _ hmask (sequenced_of_masked h hmask)]
  exact ⟨rfl, rfl⟩

theorem forceLinesNow_not_masked {s : State} {n : Fin 16} (hmask : (forceMask s).getLsbD n.val = false) :
    (forceLinesNow s).os.lines[n].requested = s.os.lines[n].requested ∧
      (forceLinesNow s).os.lines[n].await = s.os.lines[n].await := by
  by_cases hzero : forceMask s = 0#16
  · rw [forceLinesNow_of_mask_zero hzero]
    exact ⟨rfl, rfl⟩
  · rw [forceLinesNow_os hzero, resolve_requested, resolve_await,
      force_line_of_not_mask _ _ _ hmask]
    exact ⟨rfl, rfl⟩

/-! ## The four answers, in the order of the checks (R118) -/

theorem takeForceLines_of_not_idle {s : State} (h : s.su.program ≠ .idle) : takeForceLines s = complete .state s :=
  if_pos h

theorem takeForceLines_of_unused {s : State} (hidle : s.su.program = .idle)
    (h : masksUnused (forceMask s) s.os = true) : takeForceLines s = complete .badArgument s := by
  simp [takeForceLines, hidle, h]

theorem takeForceLines_of_pair {s : State} (hidle : s.su.program = .idle)
    (hused : masksUnused (forceMask s) s.os = false) (hrelease : forceRelease s = false)
    (h : forcesPair (forceMask s) (forceLevels s) s.os = true) : takeForceLines s = complete .badArgument s := by
  simp [takeForceLines, hidle, hused, hrelease, h]

theorem takeForceLines_accepted {s : State} (hidle : s.su.program = .idle)
    (hused : masksUnused (forceMask s) s.os = false)
    (h : ¬(forceRelease s = false ∧ forcesPair (forceMask s) (forceLevels s) s.os = true)) :
    takeForceLines s = complete .ok (forceLinesNow s) := by
  rw [takeForceLines, if_neg (not_not_intro hidle), if_neg (by simp [hused]), if_neg h]

/-! ## The arguments of a command just taken (R118, R170) -/

/-- The state in which the OS finds a FORCE_LINES that the port has just taken. -/
def forceTaken (op : Half) (s : State) : State := { s with cp := s.cp.take 7#8 op }

theorem complete_forceTaken (op : Half) (r : Result) (s : State) : complete r (forceTaken op s) = answered 7#8 op r s :=
  complete_take 7#8 op r s

theorem argument_forceTaken (op : Half) (s : State) : argument (forceTaken op s) = s.cp.argHi ++ s.cp.argLo := rfl

theorem forceMask_forceTaken (op : Half) (s : State) :
    forceMask (forceTaken op s) = s.cp.argLo.extractLsb' 0 16 := by
  rw [forceMask, argument_forceTaken]
  exact BitVec.extractLsb'_append_eq_of_add_le (by decide)

theorem forceLevels_forceTaken (op : Half) (s : State) :
    forceLevels (forceTaken op s) = s.cp.argLo.extractLsb' 16 16 := by
  rw [forceLevels, argument_forceTaken]
  exact BitVec.extractLsb'_append_eq_of_add_le (by decide)

theorem forceRelease_forceTaken (op : Half) (s : State) : forceRelease (forceTaken op s) = s.cp.argHi.getLsbD 0 := by
  rw [forceRelease, argument_forceTaken, BitVec.getLsbD_append]
  rfl

theorem exec_forceLines_of_ready {s : State} (h : Ready s) (op : Half) :
    exec (.forceLines op) s = .next (takeForceLines (forceTaken op s)) :=
  congrArg _ (cmdWrite_of_ready h 7#8 op takeForceLines)

/-! ## The obligations -/

/-- Settles O55: a safe line is driven HIGH by its request or its safe level, an enabled pair has no safe level HIGH, so
both lines driven HIGH would both be requested HIGH. -/
theorem pairNeverBothHigh : Obligations.PairNeverBothHigh := by
  intro s ⟨hdrive, hpairs⟩
  refine ⟨fun k henabled => ?_, fun n hdriven => (hdrive n).driven_high hdriven⟩
  obtain ⟨_, _, hlower, hupper, hrequests⟩ := hpairs k henabled
  refine ⟨fun ⟨hl, hu⟩ => hrequests ⟨?_, ?_⟩, hrequests, hlower, hupper⟩
  · exact (hdrive _).requested_high hlower hl
  · exact (hdrive _).requested_high hupper hu

/-- Settles O21, by the four answers of `takeForceLines` at the state the port hands over; the accepted one is the event
of `forceLinesNow`, completed. -/
theorem forceLines : Obligations.ForceLines := by
  intro op s hready
  dsimp only
  rw [exec_forceLines_of_ready hready, ← masksUnused_iff, ← forcesPair_iff, ← forceMask_forceTaken op,
    ← forceLevels_forceTaken op, ← forceRelease_forceTaken op]
  simp only [← complete_forceTaken, Bool.not_eq_true]
  refine ⟨fun h => ?_, fun hidle hunused => ?_, fun hidle hused hrelease hpair => ?_, fun hidle hused hpair => ?_⟩
  · exact congrArg _ (takeForceLines_of_not_idle (s := forceTaken op s) h)
  · exact congrArg _ (takeForceLines_of_unused (s := forceTaken op s) hidle hunused)
  · exact congrArg _ (takeForceLines_of_pair (s := forceTaken op s) hidle hused hrelease hpair)
  · have hchecked : ¬(forceRelease (forceTaken op s) = false ∧
        forcesPair (forceMask (forceTaken op s)) (forceLevels (forceTaken op s)) s.os = true) := by
      simpa [or_iff_not_imp_left] using hpair
    have haccepted := takeForceLines_accepted (s := forceTaken op s) hidle hused hchecked
    refine ⟨_, congrArg _ haccepted, ?_, ?_, ?_, ?_, ?_, ?_, ?_⟩
    · simp
    · exact fun hne => forceLinesNow_os hne
    · exact fun hzero => by rw [forceLinesNow_of_mask_zero hzero]
    · exact fun n hmask => forceLinesNow_masked hused hmask
    · exact fun n hmask => forceLinesNow_not_masked hmask
    · simp [EventUnit.raise, forceTaken]
    · simp [forceTaken]

end Sys2Proof.Machine
end

/-! JOURNAL_OPEN (R163) and STAMP (R166): the request the JW makes at the end of the event, then the two commands. -/
section
namespace Sys2Proof.Machine

/-! ## The journal takes records (9.3) -/

theorem takes_iff (j : JournalState) : j.takes = true ↔ j = .seeking ∨ j = .opened ∨ j = .blocked := by
  cases j <;> simp [JournalState.takes]

theorem not_takes_iff (j : JournalState) : ¬j.takes = true ↔ j = .off ∨ j = .closing ∨ j = .faulted := by
  cases j <;> simp [JournalState.takes]

/-! ## The request of the JW (R155, R158, R159) -/

/-- What the JW's request leaves as it is in a journal that takes records: the port, the events and tallies, the journal
state, the held records and the lost count. The open sheet it may change: a place is allotted (R158). -/
structure RecordsKept (s t : State) : Prop where
  cp : t.cp = s.cp
  ev : t.ev = s.ev
  state : t.jw.state = s.jw.state
  fifo : t.jw.fifo = s.jw.fifo
  lostCount : t.jw.lostCount = s.jw.lostCount

theorem RecordsKept.refl (s : State) : RecordsKept s s := ⟨rfl, rfl, rfl, rfl, rfl⟩

theorem requestSheetHeader_kept (s : State) : RecordsKept s (requestSheetHeader s) := ⟨rfl, rfl, rfl, rfl, rfl⟩

theorem requestHeaderWrite_kept (h : OpenSheet) (r : CloseReason) (s : State) :
    RecordsKept s (requestHeaderWrite h r s) := ⟨rfl, rfl, rfl, rfl, rfl⟩

theorem allotPlace_kept (h : OpenSheet) (r : Record) (s : State) : RecordsKept s (allotPlace h r s) :=
  ⟨rfl, rfl, rfl, rfl, rfl⟩

/-- Outside a close the next write completes no command and changes no journal state. -/
theorem writeNext_kept (h : OpenSheet) {s : State} (hs : s.jw.state ≠ .closing) : RecordsKept s (writeNext h s) := by
  unfold writeNext
  split
  next r _ => exact requestHeaderWrite_kept h r s
  next r _ _ _ => exact allotPlace_kept h r s
  next =>
    rw [if_neg hs]
    exact .refl s

theorem jwPump_kept {s : State} (hs : s.jw.state.takes = true) : RecordsKept s (jwPump s) := by
  unfold jwPump
  split
  · exact .refl s
  · obtain hseeking | hopened | hblocked := (takes_iff _).mp hs
    · simp only [hseeking]
      exact requestSheetHeader_kept s
    · cases hsheet : s.jw.sheet with
      | none =>
        simp only [hopened]
        exact .refl s
      | some h =>
        simp only [hopened]
        exact writeNext_kept h (by simp [hopened])
    · simp only [hblocked]
      split
      · exact ⟨rfl, rfl, hblocked.symm, rfl, rfl⟩
      · exact .refl s

theorem jwRun_kept {s : State} (hs : s.jw.state.takes = true) : RecordsKept s (jwRun s) :=
  have h := jwPump_kept hs
  ⟨h.cp, h.ev, h.state, h.fifo, h.lostCount⟩

/-- A SEEKING journal asks for the next sheet's header, once (R155). -/
theorem jwPump_of_seeking {s : State} (h : s.jw.state = .seeking) :
    jwPump s = if s.bp.outstanding .jw then s else requestSheetHeader s := by
  simp [jwPump, h]

/-- The request of a SEEKING journal changes nothing of the JW: the position stands. -/
theorem jwRun_jw_of_seeking {s : State} (h : s.jw.state = .seeking) : (jwRun s).jw = s.jw := by
  rw [jwRun, jwPump_of_seeking h]
  split <;> rfl

theorem jwRun_holds_of_seeking {s : State} (h : s.jw.state = .seeking) (hfree : s.bp.outstanding .jw = false) :
    (jwRun s).bp.holds (asked .sheetHeaderRead (s.jw.sheetAddress s.jw.nextIndex)) := by
  rw [jwRun, jwPump_of_seeking h, hfree]
  exact request_holds _ _ s

/-! ## The offer of one record (R153) -/

theorem JournalWriter.offer_fifo_of_room {j : JournalWriter} (r : Record) (hs : j.state.takes = true)
    (hroom : j.fifo.length < 16) : (j.offer r).fifo = j.fifo ++ [r] := by
  simp [JournalWriter.offer, hs, hroom, Config.fifoCapacity]

theorem JournalWriter.offer_fifo_of_full {j : JournalWriter} (r : Record) (hs : j.state.takes = true)
    (hfull : 16 ≤ j.fifo.length) : (j.offer r).fifo = j.fifo := by
  simp [JournalWriter.offer, JournalWriter.lose, hs, Nat.not_lt.mpr hfull, Config.fifoCapacity]

@[simp] theorem JournalWriter.offer_state (r : Record) (j : JournalWriter) : (j.offer r).state = j.state := by
  unfold JournalWriter.offer
  (repeat' split) <;> rfl

/-- The one record that a full FIFO loses shows in the lost count and in RECORDS_LOST. -/
theorem OffersCounted.lost_of_full {s t : State} (h : OffersCounted 1 s t)
    (htaken : s.jw.state = .seeking ∨ s.jw.state = .opened ∨ s.jw.state = .blocked)
    (hfull : 16 ≤ s.jw.fifo.length) :
    t.jw.lostCount = satAdd s.jw.lostCount 1 ∧ pendingCause .recordsLost t = true := by
  obtain ⟨_, _, hcount, hcause⟩ := h
  have hroom : 16 - s.jw.fifo.length = 0 := Nat.sub_eq_zero_of_le hfull
  simp only [htaken, if_true, hroom] at hcount hcause
  exact ⟨hcount, by simp [hcause]⟩

/-! ## The causes pending when a command completes (R171, R183) -/

theorem complete_pendingCause_cmdDone (r : Result) (s : State) : pendingCause .cmdDone (complete r s) = true := by
  simp [pendingCause, EventUnit.raise, Cause.bit]

/-- CMD_DONE is the only cause that a completion raises. -/
theorem complete_pendingCause_of_ne (r : Result) (s : State) {c : Cause} (h : c ≠ .cmdDone) :
    pendingCause c (complete r s) = pendingCause c s := by
  have hbit : (1#13).getLsbD c.bit = false := by
    cases c with
    | cmdDone => exact absurd rfl h
    | _ => rfl
  simp [pendingCause, EventUnit.raise, BitVec.getLsbD_or, show Cause.cmdDone.bit = 0 from rfl, hbit]

/-- The completion of the command adds nothing to what its event's offers count. -/
theorem OffersCounted.complete {n : Nat} {s t : State} (h : OffersCounted n s t) (r : Result) :
    OffersCounted n s (complete r t) := by
  obtain ⟨hlost, hunjournaled, hcount, hcause⟩ := h
  exact ⟨hlost, hunjournaled, hcount, (complete_pendingCause_of_ne r t (by decide)).trans hcause⟩

/-- The JW's request adds nothing to what the offers before it count. -/
theorem OffersCounted.of_kept {n : Nat} {s t u : State} (h : OffersCounted n s t) (hk : RecordsKept t u) :
    OffersCounted n s u := by
  unfold OffersCounted pendingCause
  rw [hk.ev, hk.lostCount]
  exact h

/-! ## The state a command's owner finds (R169) -/

/-- The port has just taken a command, and its owner has not answered yet. -/
def portTaken (code : Byte) (op : Half) (s : State) : State := { s with cp := s.cp.take code op }

theorem complete_portTaken (code : Byte) (op : Half) (r : Result) (s : State) :
    complete r (portTaken code op s) = answered code op r s := complete_take code op r s

/-! ## JOURNAL_OPEN, in the order of its checks (R163) -/

theorem exec_journalOpen_of_ready {s : State} (h : Ready s) (op : Half) :
    exec (.journalOpen op) s = .next (takeJournalOpen (portTaken 9#8 op s)) :=
  congrArg _ (cmdWrite_of_ready h 9#8 op takeJournalOpen)

theorem takeJournalOpen_of_no_context {s : State} (h : s.cp.contextLoaded = false) :
    takeJournalOpen s = complete .noContext s := if_pos h

theorem takeJournalOpen_of_not_off {s : State} (hloaded : s.cp.contextLoaded = true) (h : s.jw.state ≠ .off) :
    takeJournalOpen s = complete .state s := by
  rw [takeJournalOpen, if_neg (by simp [hloaded]), if_pos h]

/-- The state that an accepted JOURNAL_OPEN hands to the JW's request: SEEKING, with the OPENED flag marked. -/
def journalOpened (s : State) : State :=
  complete .ok { s with jw := { s.jw with state := .seeking, openedMark := true } }

theorem takeJournalOpen_accepted {s : State} (hloaded : s.cp.contextLoaded = true) (h : s.jw.state = .off) :
    takeJournalOpen s = jwRun (journalOpened s) := by
  rw [takeJournalOpen, if_neg (by simp [hloaded]), if_neg (not_not_intro h), journalOpened]

/-! ## STAMP (R166) -/

theorem exec_stamp_of_ready {s : State} (h : Ready s) (op : Half) :
    exec (.stamp op) s = .next (takeStamp (portTaken 12#8 op s)) :=
  congrArg _ (cmdWrite_of_ready h 12#8 op takeStamp)

theorem takeStamp_refused {s : State} (h : ¬s.jw.state.takes = true) : takeStamp s = complete .state s := if_neg h

/-- The state that an accepted STAMP hands to the JW's request: its record offered, the command complete. -/
def stampOffered (s : State) : State := complete .ok (offer (stampRecord s) s)

theorem takeStamp_accepted {s : State} (h : s.jw.state.takes = true) : takeStamp s = jwRun (stampOffered s) := if_pos h

theorem stampOffered_kept {s : State} (h : s.jw.state.takes = true) :
    RecordsKept (stampOffered s) (jwRun (stampOffered s)) :=
  jwRun_kept (by simpa [stampOffered] using h)

/-! ## The obligations -/

/-- Settles O23, by the three answers of `takeJournalOpen`; the accepted one is the request of a SEEKING journal. -/
theorem journalOpen : Obligations.JournalOpen := by
  intro op s hready
  rw [exec_journalOpen_of_ready hready]
  refine ⟨fun h => ?_, fun hloaded h => ?_, fun hloaded hoff => ?_⟩
  · rw [takeJournalOpen_of_no_context (s := portTaken 9#8 op s) h, complete_portTaken]
  · rw [takeJournalOpen_of_not_off (s := portTaken 9#8 op s) hloaded h, complete_portTaken]
  · have haccepted := takeJournalOpen_accepted (s := portTaken 9#8 op s) hloaded hoff
    have hseeking : (journalOpened (portTaken 9#8 op s)).jw.state = .seeking := rfl
    have hkept := jwRun_kept ((takes_iff _).mpr (.inl hseeking))
    have hjw := jwRun_jw_of_seeking hseeking
    refine ⟨_, congrArg _ haccepted, hkept.cp, hjw, ?_, fun hfree => ?_, hkept.ev, ?_⟩
    · rw [hjw]
      rfl
    · exact jwRun_holds_of_seeking hseeking hfree
    · simp [journalOpened, portTaken]

/-- Settles O26, by whether the journal takes records; what the offer does to the FIFO and the counts outlasts the
completion and the JW's request. -/
theorem stampRecorded : Obligations.StampRecorded := by
  intro op s hready
  rw [exec_stamp_of_ready hready]
  refine ⟨fun h => ?_, fun htaken => ?_⟩
  · rw [takeStamp_refused (s := portTaken 12#8 op s) ((not_takes_iff _).mpr h), complete_portTaken]
  · have htakes : s.jw.state.takes = true := (takes_iff _).mpr htaken
    have hkept := stampOffered_kept (s := portTaken 12#8 op s) htakes
    have hcounted : OffersCounted 1 s (jwRun (stampOffered (portTaken 12#8 op s))) :=
      ((offer_counted _ (portTaken 12#8 op s)).complete .ok).of_kept hkept
    refine ⟨_, congrArg _ (takeStamp_accepted (s := portTaken 12#8 op s) htakes), hkept.cp, ?_,
      fun hroom => ?_, fun hfull => ⟨?_, hcounted.lost_of_full htaken hfull⟩, hcounted, ?_, ?_⟩
    · rw [pendingCause, hkept.ev]
      exact complete_pendingCause_cmdDone _ _
    · exact hkept.fifo.trans (JournalWriter.offer_fifo_of_room _ htakes hroom)
    · exact hkept.fifo.trans (JournalWriter.offer_fifo_of_full _ htakes hfull)
    · exact hkept.state.trans (JournalWriter.offer_state _ _)
    · simp [stampOffered, portTaken]

end Sys2Proof.Machine
end

/-! The IRQ line (section 11.4) and the three register writes that set its inputs (R184, R185): a cause is a bit of EVENTS
and of EVENT_MASK, so the line is asserted by a cause whose two bits are both 1. -/
section
namespace Sys2Proof.Machine

/-! ## The thirteen causes are the thirteen bits (12.4) -/

theorem Cause.exists_bit_eq : ∀ {i : Nat}, i < 13 → ∃ c : Cause, c.bit = i
  | 0, _ => ⟨.cmdDone, rfl⟩
  | 1, _ => ⟨.cmdRefused, rfl⟩
  | 2, _ => ⟨.programEnd, rfl⟩
  | 3, _ => ⟨.mark, rfl⟩
  | 4, _ => ⟨.stripRetired, rfl⟩
  | 5, _ => ⟨.starved, rfl⟩
  | 6, _ => ⟨.late, rfl⟩
  | 7, _ => ⟨.sheetsReady, rfl⟩
  | 8, _ => ⟨.journalBlocked, rfl⟩
  | 9, _ => ⟨.recordsLost, rfl⟩
  | 10, _ => ⟨.guard, rfl⟩
  | 11, _ => ⟨.trip, rfl⟩
  | 12, _ => ⟨.busError, rfl⟩

/-- Some bit is set exactly when the bit of some cause is. -/
theorem ne_zero_iff_exists_cause (x : BitVec 13) : x ≠ 0#13 ↔ ∃ c : Cause, x.getLsbD c.bit = true := by
  constructor
  · intro hx
    have hset := BitVec.getLsbD_true_ctz_of_ne_zero hx
    obtain ⟨c, hc⟩ := Cause.exists_bit_eq (BitVec.lt_of_getLsbD hset)
    exact ⟨c, hc ▸ hset⟩
  · rintro ⟨c, hc⟩ rfl
    simp at hc

/-! ## The line is a level (R184, R193) -/

theorem irqLine_iff (s : State) : irqLine s = true ↔ s.resetAsserted = false ∧ s.ev.irqEnable = true ∧
    ∃ c : Cause, pendingCause c s = true ∧ s.ev.mask.getLsbD c.bit = true := by
  have hcause : (s.ev.events &&& s.ev.mask) ≠ 0#13 ↔
      ∃ c : Cause, pendingCause c s = true ∧ s.ev.mask.getLsbD c.bit = true := by
    simp only [ne_zero_iff_exists_cause, BitVec.getLsbD_and, Bool.and_eq_true, pendingCause]
  simp only [irqLine, Bool.and_eq_true, Bool.not_eq_true', bne_iff_ne, hcause, and_assoc]

/-! ## Register writes with RESET# released (R181) -/

theorem registerAccess_of_released {s : State} (h : s.resetAsserted = false) (f : State → State) :
    registerAccess f s = f s := if_neg (ne_true_of_eq_false h)

theorem exec_eventMask_of_released {s : State} (h : s.resetAsserted = false) (v : Word) :
    exec (.eventMask v) s = .next (writeEventMask v s) := congrArg _ (registerAccess_of_released h _)

theorem exec_eventsClear_of_released {s : State} (h : s.resetAsserted = false) (v : Word) :
    exec (.eventsClear v) s = .next (writeEvents v s) := congrArg _ (registerAccess_of_released h _)

theorem writeControl_of_not_softReset {v : Word} (h : v.getLsbD 0 = false) (s : State) :
    writeControl v s = setIrqEnable v s := if_neg (ne_true_of_eq_false h)

theorem exec_irqEnable_of_released {s : State} (h : s.resetAsserted = false) {v : Word} (hv : v.getLsbD 0 = false) :
    exec (.irqEnable v) s = .next (setIrqEnable v s) :=
  congrArg _ ((registerAccess_of_released h _).trans (writeControl_of_not_softReset hv s))

/-! ## EVENTS and EVENT_MASK as they read (12.2) -/

theorem readRegister_events {s : State} (h : s.resetAsserted = false) :
    readRegister s 0x18 .bits32 = some (s.ev.events.setWidth 32) := by simp [readRegister, h]

theorem readRegister_eventMask {s : State} (h : s.resetAsserted = false) :
    readRegister s 0x1C .bits32 = some (s.ev.mask.setWidth 32) := by simp [readRegister, h]

/-- A read that the window answers is one with RESET# released. -/
theorem released_of_readRegister {s : State} {off : Nat} {size : AccessSize} {w : Word}
    (h : readRegister s off size = some w) : s.resetAsserted = false := by
  cases hr : s.resetAsserted with
  | false => rfl
  | true => simp [readRegister, hr] at h

/-- A word that thirteen bits were read into has no other bit set. -/
theorem setWidth_getLsbD_of_ge (x : BitVec 13) {i : Nat} (h : 13 ≤ i) :
    (x.setWidth 32 : Word).getLsbD i = false := by
  rw [BitVec.getLsbD_setWidth, BitVec.getLsbD_of_ge x i h, Bool.and_false]

/-! ## The obligation -/

/-- Settles O5: the line by `irqLine_iff`, its three inputs by the write of each, and the bits beyond the causes by the
width of the two registers. -/
theorem irqLineIsALevel : Obligations.IrqLineIsALevel := by
  intro s
  refine ⟨irqLine_iff s, fun hreleased v => ⟨?_, ?_, fun hv => ?_⟩, fun off w hoff hread i hi => ?_⟩
  · exact exec_eventMask_of_released hreleased v
  · exact exec_eventsClear_of_released hreleased v
  · exact exec_irqEnable_of_released hreleased hv
  · have hreleased := released_of_readRegister hread
    obtain rfl | rfl := hoff
    · rw [readRegister_events hreleased] at hread
      cases hread
      exact setWidth_getLsbD_of_ge _ hi
    · rw [readRegister_eventMask hreleased] at hread
      cases hread
      exact setWidth_getLsbD_of_ge _ hi

end Sys2Proof.Machine
end

/-! What every step keeps: the induction over commands, time events and REFCLK periods, packaged once for the
invariants of Safety.lean. -/
section
namespace Sys2Proof.Machine

/-- `f` keeps the property `P`. -/
def Keeps (P : State → Prop) (f : State → State) : Prop := ∀ s, P s → P (f s)

/-- An event that leaves a part of the state as it is keeps whatever is said of that part. -/
theorem Keeps.of_eq {α : Type} (g : State → α) {Q : α → Prop} {f : State → State} (h : ∀ s, g (f s) = g s) :
    Keeps (fun s => Q (g s)) f := fun s hs => by
  dsimp only
  rw [h s]
  exact hs

/-- The events that a step is made of keep the property `P`, one field for each. -/
structure StepKeeps (P : State → Prop) : Prop where
  queue : ∀ q, Keeps P fun s => { s with pending := q }
  hardReset : Keeps P hardReset
  softReset : Keeps P softReset
  release : Keeps P fun s => { s with resetAsserted := false }
  irqEnable : ∀ v, Keeps P (setIrqEnable v)
  eventMask : ∀ v, Keeps P (writeEventMask v)
  events : ∀ v, Keeps P (writeEvents v)
  wake : Keeps P writeWake
  argLo : ∀ v, Keeps P (writeArgLo v)
  argHi : ∀ v, Keeps P (writeArgHi v)
  refuse : Keeps P (raise .cmdRefused)
  take : ∀ code op, Keeps P (portTaken code op)
  loadContext : Keeps P takeLoadContext
  stageLimits : Keeps P takeStageLimits
  start : Keeps P takeStart
  stop : ∀ op, Keeps P (takeStop op)
  stopAtOnce : Keeps P takeStopAtOnce
  pause : Keeps P takePause
  resume : Keeps P takeResume
  forceLines : Keeps P takeForceLines
  clearTrip : Keeps P takeClearTrip
  journalOpen : Keeps P takeJournalOpen
  journalFlush : Keeps P takeJournalFlush
  journalClose : Keeps P takeJournalClose
  stamp : Keeps P takeStamp
  dumpTallies : ∀ op, Keeps P (takeDumpTallies op)
  unknown : Keeps P takeUnknown
  timeRange : Keeps P takeTimeRange
  application : Keeps P takeApplication
  waitTimeout : Keeps P takeWaitTimeout
  deferredRise : ∀ n, Keeps P (takeDeferredRise n)
  lastFall : ∀ n, Keeps P (takeLastFallDiscard n)
  blankEnd : ∀ n, Keeps P (takeBlankEnd n)
  escalation : ∀ n, Keeps P (takeEscalation n)
  linkWatch : Keeps P takeLinkWatch
  sheetRecheck : Keeps P takeSheetRecheck
  flushAge : Keeps P takeFlushAge
  ticked : Keeps P sourceTicked
  advance : Keeps P advance
  assertion : ∀ n, Keeps P (takeAssertion n)
  deassertion : ∀ n, Keeps P (takeDeassertion n)
  edge : ∀ n e, Keeps P (takeEdge n e)
  admission : Keeps P takeStepAdmission
  faultRun : ∀ r n, Keeps P (setFaultRun r n)
  inputRun : ∀ r n, Keeps P (setInputRun r n)
  busAges : Keeps P fun s => { s with bp := s.bp.period }
  sourceAges : Keeps P fun s => { s with tb := s.tb.period s.pins.tbin }
  headerRead : ∀ r, Keeps P (endTransfer TransferKind.isHeaderRead (headerEnd r))
  stepRead : ∀ r, Keeps P (endTransfer TransferKind.isStepRead (stepsEnd r))
  linkRead : ∀ r, Keeps P (endTransfer (· == .linkRead) (linkEnd r))
  retireWrite : ∀ r, Keeps P (endTransfer TransferKind.isRetireWrite fun _ => retireEnd r)
  sheetRead : ∀ r, Keeps P (endTransfer (· == .sheetHeaderRead) (sheetReadEnd r))
  recordWrite : ∀ r, Keeps P (endTransfer TransferKind.isRecordWrite fun _ => recordEnd r)
  sheetWrite : ∀ r, Keeps P (endTransfer TransferKind.isSheetWrite (sheetWriteEnd r))
  dcbRead : ∀ r p, Keeps P (endTransfer (· == .dcbRead) fun _ => dcbEnd r p)
  limitsRead : ∀ r, Keeps P (endTransfer (· == .limitsRead) fun _ => limitsEnd r)
  tallyWrite : ∀ r, Keeps P (endTransfer TransferKind.isTallyWrite (tallyEnd r))

/-! ## The end of a transfer -/

/-- The three things that an end can be: no event, the end of an orphan, the requester's event. -/
theorem endTransfer_cases (p : TransferKind → Bool) (act : Transfer → State → State) (s : State) :
    endTransfer p act s = s ∨
      ∃ f, s.bp.inFlight = some f ∧ p f.transfer.kind = true ∧
        ((f.orphan = true ∧ endTransfer p act s = grant (freeBus s)) ∨
          (f.orphan = false ∧ endTransfer p act s = act f.transfer (grantFirst (freeBus s)))) := by
  unfold endTransfer
  cases hf : s.bp.inFlight with
  | none => exact .inl rfl
  | some f =>
    cases hp : p f.transfer.kind with
    | false => simp [hp]
    | true => cases ho : f.orphan <;> simp [hp, ho]

/-- An end keeps `P` if freeing the Bus Port and the requester's event do. -/
theorem Keeps.endTransfer {P : State → Prop} {p : TransferKind → Bool} {act : Transfer → State → State}
    (hfree : Keeps P freeBus) (hgrant : Keeps P grant) (hdraw : Keeps P afterDraw) (h : ∀ t, Keeps P (act t)) :
    Keeps P (endTransfer p act) := by
  intro s hs
  have hfirst : P (grantFirst (freeBus s)) := by
    unfold grantFirst
    split
    · exact hgrant _ (hdraw _ (hfree s hs))
    · exact hdraw _ (hfree s hs)
  obtain e | ⟨f, _, _, ⟨_, e⟩ | ⟨_, e⟩⟩ := endTransfer_cases p act s <;> rw [e]
  · exact hs
  · exact hgrant _ (hfree s hs)
  · exact h f.transfer _ hfirst

/-- An end keeps what is said of a part of the state that the Bus Port and the free orders are not in. -/
theorem Keeps.endTransfer_of_eq {α : Type} (g : State → α) {Q : α → Prop} {p : TransferKind → Bool}
    {act : Transfer → State → State} (h : ∀ t, Keeps (fun s => Q (g s)) (act t))
    (hfree : ∀ s, g (freeBus s) = g s := by simp) (hgrant : ∀ s, g (grant s) = g s := by simp)
    (hdraw : ∀ s, g (afterDraw s) = g s := by simp) : Keeps (fun s => Q (g s)) (Machine.endTransfer p act) :=
  .endTransfer (.of_eq g hfree) (.of_eq g hgrant) (.of_eq g hdraw) h

/-- Two ends of the transfer in flight agree if their events do. -/
theorem endTransfer_congr {p q : TransferKind → Bool} {act other : Transfer → State → State} {s : State}
    (h : ∀ f, s.bp.inFlight = some f → p f.transfer.kind = q f.transfer.kind ∧ act f.transfer = other f.transfer) :
    endTransfer p act s = endTransfer q other s := by
  unfold endTransfer
  cases hf : s.bp.inFlight with
  | none => rfl
  | some f =>
    obtain ⟨hp, ha⟩ := h f hf
    simp only [hp, ha]

theorem StepKeeps.responseTimeout {P : State → Prop} (h : StepKeeps P) : Keeps P takeResponseTimeout := by
  intro s hs
  cases hf : s.bp.inFlight with
  | none => simpa [takeResponseTimeout, endTransfer, hf] using hs
  | some f =>
    have as {q : TransferKind → Bool} {other : Transfer → State → State} (hq : q f.transfer.kind = true)
        (ha : transferError f.transfer = other f.transfer) (hk : Keeps P (endTransfer q other)) :
        P (takeResponseTimeout s) := by
      have e : takeResponseTimeout s = endTransfer q other s := endTransfer_congr fun g hg => by
        obtain rfl : f = g := Option.some.inj (hf.symm.trans hg)
        exact ⟨hq.symm, ha⟩
      rw [e]
      exact hk s hs
    cases hk : f.transfer.kind with
    | stripHeaderRead q => exact as (by rw [hk]; rfl) (by funext; simp [transferError, hk]) (h.headerRead .error)
    | stepRead two => exact as (by rw [hk]; rfl) (by funext; simp [transferError, hk]) (h.stepRead .error)
    | linkRead => exact as (by rw [hk]; rfl) (by funext; simp [transferError, hk]) (h.linkRead .error)
    | retireWrite w => exact as (by rw [hk]; rfl) (by funext; simp [transferError, hk]) (h.retireWrite .error)
    | sheetHeaderRead => exact as (by rw [hk]; rfl) (by funext; simp [transferError, hk]) (h.sheetRead .error)
    | recordWrite r => exact as (by rw [hk]; rfl) (by funext; simp [transferError, hk]) (h.recordWrite .error)
    | sheetHeaderWrite d => exact as (by rw [hk]; rfl) (by funext; simp [transferError, hk]) (h.sheetWrite .error)
    | dcbRead =>
      exact as (by rw [hk]; rfl) (by funext; simp [transferError, hk, dcbEnd]) (h.dcbRead .error s.pins)
    | limitsRead => exact as (by rw [hk]; rfl) (by funext; simp [transferError, hk, limitsEnd]) (h.limitsRead .error)
    | tallyWriteLow t => exact as (by rw [hk]; rfl) (by funext; simp [transferError, hk, tallyEnd]) (h.tallyWrite .error)
    | tallyWriteHigh t => exact as (by rw [hk]; rfl) (by funext; simp [transferError, hk, tallyEnd]) (h.tallyWrite .error)

/-! ## Register writes and commands -/

theorem Keeps.registerAccess {P : State → Prop} {f : State → State} (h : Keeps P f) : Keeps P (registerAccess f) := by
  intro s hs
  unfold Machine.registerAccess
  split
  · exact hs
  · exact h s hs

theorem StepKeeps.cmdWrite {P : State → Prop} (h : StepKeeps P) (code : Byte) (op : Half) {owner : State → State}
    (ho : Keeps P owner) : Keeps P (cmdWrite code op owner) := by
  intro s hs
  unfold Machine.cmdWrite
  split
  · exact hs
  · split
    · exact h.refuse s hs
    · exact ho _ (h.take code op s hs)

theorem StepKeeps.ownerOf {P : State → Prop} (h : StepKeeps P) (code : Byte) (op : Half) :
    Keeps P (ownerOf code op) := by
  intro s hs
  unfold Machine.ownerOf
  split
  · exact h.loadContext s hs
  · exact h.stageLimits s hs
  · exact h.start s hs
  · exact h.stop op s hs
  · exact h.pause s hs
  · exact h.resume s hs
  · exact h.forceLines s hs
  · exact h.clearTrip s hs
  · exact h.journalOpen s hs
  · exact h.journalFlush s hs
  · exact h.journalClose s hs
  · exact h.stamp s hs
  · exact h.dumpTallies op s hs
  · exact h.unknown s hs

theorem StepKeeps.control {P : State → Prop} (h : StepKeeps P) (v : Word) : Keeps P (writeControl v) := by
  intro s hs
  unfold writeControl
  split
  · exact h.softReset s hs
  · exact h.irqEnable v s hs

theorem StepKeeps.register {P : State → Prop} (h : StepKeeps P) (off : Nat) (size : AccessSize) (v : Word) :
    Keeps P (writeRegister off size v) := by
  intro s hs
  unfold writeRegister
  split
  · exact hs
  · split
    · exact h.control v s hs
    · exact h.cmdWrite _ _ (h.ownerOf _ _) s hs
    · exact h.argLo v s hs
    · exact h.argHi v s hs
    · exact h.events v s hs
    · exact h.eventMask v s hs
    · exact h.wake s hs
    · exact hs

/-! ## Ticks and REFCLK periods -/

theorem Keeps.foldl {α : Type} {P : State → Prop} {f : State → α → State} (h : ∀ a, Keeps P fun s => f s a)
    (l : List α) : Keeps P fun s => l.foldl f s := fun s hs => foldl_inv P f (fun s a => h a s) l s hs

theorem StepKeeps.due {P : State → Prop} (h : StepKeeps P) : Keeps P takeDue := by
  intro s hs
  unfold takeDue
  refine h.flushAge _ (h.sheetRecheck _ (h.linkWatch _ ?_))
  refine Keeps.foldl h.escalation _ _ (Keeps.foldl h.blankEnd _ _ ?_)
  refine Keeps.foldl h.lastFall _ _ (Keeps.foldl h.deferredRise _ _ ?_)
  exact h.waitTimeout _ (h.application _ (h.timeRange _ hs))

theorem StepKeeps.tick {P : State → Prop} (h : StepKeeps P) : Keeps P takeTick := by
  intro s hs
  unfold takeTick
  split
  · exact hs
  · exact h.advance _ (h.ticked _ (h.due _ hs))

theorem StepKeeps.faultSampled {P : State → Prop} (h : StepKeeps P) (n : Fin 4) : Keeps P fun s => sampleFault s n := by
  intro s hs
  dsimp only
  unfold sampleFault
  split
  · exact hs
  · split
    · exact h.faultRun 0 n s hs
    · split
      · split
        · exact h.assertion n s hs
        · exact h.deassertion n s hs
      · exact h.faultRun _ n s hs

theorem StepKeeps.inputSampled {P : State → Prop} (h : StepKeeps P) (n : Fin 16) :
    Keeps P fun s => sampleInput s n := by
  intro s hs
  dsimp only
  unfold sampleInput
  split
  · exact hs
  · split
    · exact h.inputRun 0 n s hs
    · split
      · exact h.edge n _ s hs
      · exact h.inputRun _ n s hs

theorem StepKeeps.busPeriod {P : State → Prop} (h : StepKeeps P) : Keeps P busPeriod := by
  intro s hs
  have hages := h.busAges s hs
  unfold Machine.busPeriod
  dsimp only
  split
  · exact h.responseTimeout _ hages
  · exact hages

theorem StepKeeps.timebasePeriod {P : State → Prop} (h : StepKeeps P) : Keeps P timebasePeriod := by
  intro s hs
  have hages := h.sourceAges s hs
  unfold Machine.timebasePeriod
  dsimp only
  split
  · exact h.advance _ hages
  · exact hages

theorem StepKeeps.idle {P : State → Prop} (h : StepKeeps P) : Keeps P idle := by
  intro s hs
  unfold Machine.idle
  split
  · exact h.busPeriod s hs
  · have hadmitted : P (admitAll (takeDue s)) := Keeps.foldl (fun _ => h.admission) _ _ (h.due s hs)
    refine h.timebasePeriod _ (Keeps.foldl h.inputSampled _ _ (Keeps.foldl h.faultSampled _ _ ?_))
    exact h.busPeriod _ hadmitted

/-! ## Every command, and every step -/

theorem StepKeeps.exec {P : State → Prop} (h : StepKeeps P) {c : Instr} {s t : State} (hs : P s)
    (e : exec c s = .next t) : P t := by
  cases c <;> cases e
  case hardwareReset => exact h.hardReset s hs
  case softReset v => exact (h.control v).registerAccess s hs
  case irqEnable v => exact (h.control v).registerAccess s hs
  case eventMask v => exact (h.eventMask v).registerAccess s hs
  case eventsClear v => exact (h.events v).registerAccess s hs
  case wake v => exact h.wake.registerAccess s hs
  case registerWrite off size v => exact (h.register off size v).registerAccess s hs
  case loadContext op => exact h.cmdWrite _ _ h.loadContext s hs
  case stageLimits op => exact h.cmdWrite _ _ h.stageLimits s hs
  case startProgram op => exact h.cmdWrite _ _ h.start s hs
  case stopProgramDrain op => exact h.cmdWrite _ _ (h.stop op) s hs
  case stopProgramAtOnce => exact h.cmdWrite _ _ h.stopAtOnce s hs
  case pause op => exact h.cmdWrite _ _ h.pause s hs
  case resume op => exact h.cmdWrite _ _ h.resume s hs
  case forceLines op => exact h.cmdWrite _ _ h.forceLines s hs
  case clearTrip op => exact h.cmdWrite _ _ h.clearTrip s hs
  case journalOpen op => exact h.cmdWrite _ _ h.journalOpen s hs
  case journalFlush op => exact h.cmdWrite _ _ h.journalFlush s hs
  case journalClose op => exact h.cmdWrite _ _ h.journalClose s hs
  case stamp op => exact h.cmdWrite _ _ h.stamp s hs
  case dumpTallies op => exact h.cmdWrite _ _ (h.dumpTallies op) s hs
  case unknownCommand code op => exact h.cmdWrite _ _ (h.ownerOf code op) s hs
  case tick => exact h.tick s hs
  case timeRange => exact h.timeRange s hs
  case application => exact h.application s hs
  case deferredRiseExpiry n => exact h.deferredRise n s hs
  case lastFallDiscard n => exact h.lastFall n s hs
  case blankEnd n => exact h.blankEnd n s hs
  case holdEscalation n => exact h.escalation n s hs
  case linkWatchInterval => exact h.linkWatch s hs
  case sheetRecheckInterval => exact h.sheetRecheck s hs
  case flushAge => exact h.flushAge s hs
  case waitTimeout => exact h.waitTimeout s hs
  case busResponseTimeout => exact h.responseTimeout s hs
  case candidateAssertion n => exact h.assertion n s hs
  case deassertion n => exact h.deassertion n s hs
  case recognizedEdge n e => exact h.edge n e s hs
  case stepAdmission => exact h.admission s hs
  case stripHeaderReadComplete r => exact h.headerRead r s hs
  case stepReadComplete r => exact h.stepRead r s hs
  case linkRereadComplete r => exact h.linkRead r s hs
  case retireWriteComplete r => exact h.retireWrite r s hs
  case sheetHeaderReadComplete r => exact h.sheetRead r s hs
  case recordWriteComplete r => exact h.recordWrite r s hs
  case sheetHeaderWriteComplete r => exact h.sheetWrite r s hs
  case dcbReadComplete r p => exact h.dcbRead r p s hs
  case limitsReadComplete r => exact h.limitsRead r s hs
  case tallyWriteComplete r => exact h.tallyWrite r s hs
  case resetRelease => exact h.release s hs

/-- What the events of a step keep, every step keeps. -/
theorem StepKeeps.step {P : State → Prop} (h : StepKeeps P) {s t : State} (hs : P s) (e : step s = .next t) : P t := by
  unfold Machine.step at e
  split at e
  next c rest _ => exact h.exec (h.queue rest s hs) e
  next =>
    cases e
    exact h.idle s hs

end Sys2Proof.Machine
end

/-! The Output Stage stays safe (R111): Laws/Safe gathered over the events of a step. -/
section
namespace Sys2Proof.Machine

theorem safe_stepKeeps : StepKeeps fun s => s.os.Safe where
  queue _ := .of_eq (·.os) fun _ => rfl
  hardReset := hardReset_safe
  softReset := softReset_safe
  release := .of_eq (·.os) fun _ => rfl
  irqEnable v := setIrqEnable_safe v
  eventMask v := writeEventMask_safe v
  events v := writeEvents_safe v
  wake := writeWake_safe
  argLo v := writeArgLo_safe v
  argHi v := writeArgHi_safe v
  refuse := .of_eq (·.os) fun s => by simp
  take _ _ := .of_eq (·.os) fun _ => rfl
  loadContext := takeLoadContext_safe
  stageLimits := takeStageLimits_safe
  start := takeStart_safe
  stop op := takeStop_safe op
  stopAtOnce := takeStopAtOnce_safe
  pause := takePause_safe
  resume := takeResume_safe
  forceLines := takeForceLines_safe
  clearTrip := takeClearTrip_safe
  journalOpen := .of_eq (·.os) fun s => by simp
  journalFlush := .of_eq (·.os) fun s => by simp
  journalClose := .of_eq (·.os) fun s => by simp
  stamp := takeStamp_safe
  dumpTallies op := takeDumpTallies_safe op
  unknown := takeUnknown_safe
  timeRange := takeTimeRange_safe
  application := takeApplication_safe
  waitTimeout := takeWaitTimeout_safe
  deferredRise n := takeDeferredRise_safe n
  lastFall n := takeLastFallDiscard_safe n
  blankEnd n := takeBlankEnd_safe n
  escalation n := takeEscalation_safe n
  linkWatch := .of_eq (·.os) fun s => by simp
  sheetRecheck := .of_eq (·.os) fun s => by simp
  flushAge := .of_eq (·.os) fun s => by simp
  ticked := .of_eq (·.os) fun s => by simp
  advance := .of_eq (·.os) fun s => by simp
  assertion n := takeAssertion_safe n
  deassertion n := takeDeassertion_safe n
  edge n e := takeEdge_safe n e
  admission := takeStepAdmission_safe
  faultRun r n := .of_eq (·.os) fun s => by simp
  inputRun r n := .of_eq (·.os) fun s => by simp
  busAges := .of_eq (·.os) fun _ => rfl
  sourceAges := .of_eq (·.os) fun _ => rfl
  headerRead r := .endTransfer_of_eq (·.os) (headerEnd_safe r)
  stepRead r := .endTransfer_of_eq (·.os) (stepsEnd_safe r)
  linkRead r := .endTransfer_of_eq (·.os) (linkEnd_safe r)
  retireWrite r := .endTransfer_of_eq (·.os) fun _ => retireEnd_safe r
  sheetRead r := .endTransfer_of_eq (·.os) (sheetReadEnd_safe r)
  recordWrite r := .endTransfer_of_eq (·.os) fun _ => recordEnd_safe r
  sheetWrite r := .endTransfer_of_eq (·.os) (sheetWriteEnd_safe r)
  dcbRead r p := .endTransfer_of_eq (·.os) fun _ => dcbEnd_safe r p
  limitsRead r := .endTransfer_of_eq (·.os) fun _ => limitsEnd_safe r
  tallyWrite r := .endTransfer_of_eq (·.os) (tallyEnd_safe r)

/-- Settles O54: each event of a step keeps the records safe, by the lemmas of Laws/Safe. -/
theorem pairSafetyKept : Obligations.PairSafetyKept := fun _ _ hs e => safe_stepKeeps.step hs e

end Sys2Proof.Machine
end

/-! The shape of the program state (R63, R78, R82): what the events of the SU leave of it, and that every step keeps it. -/
section
namespace Sys2Proof.Machine

/-! ## Entry into STOPPING (R94) -/

/-- What entry into STOPPING makes of the SU. -/
@[simp] theorem enterStopping_su (o : ProgramOutcome) (r : Reason) (s : State) :
    (enterStopping o r s).su = { s.su.stop o r with agenda := [] } := by
  unfold enterStopping discardAgenda
  dsimp only
  split <;> simp

theorem ScheduleUnit.stop_shaped (o : ProgramOutcome) (r : Reason) (u : ScheduleUnit) :
    ({ u.stop o r with agenda := [] } : ScheduleUnit).Shaped := by
  simp [ScheduleUnit.Shaped, ScheduleUnit.stop]

/-- An abort enters STOPPING, or finds no active program and does nothing. -/
theorem suFault_su (r : Reason) (s : State) :
    (suFault r s).su = if s.su.program.active then { s.su.stop .faulted r with agenda := [] } else s.su := by
  unfold suFault
  split <;> simp

theorem takeTripAbort_su (s : State) :
    (takeTripAbort s).su = if s.su.program.active then { s.su.stop .tripped .none with agenda := [] } else s.su := by
  unfold takeTripAbort
  split <;> simp

theorem suFault_shaped (r : Reason) : Keeps (fun s => s.su.Shaped) (suFault r) := by
  intro s hs
  rw [suFault_su]
  split
  · exact ScheduleUnit.stop_shaped _ _ _
  · exact hs

theorem takeTripAbort_shaped : Keeps (fun s => s.su.Shaped) takeTripAbort := by
  intro s hs
  rw [takeTripAbort_su]
  split
  · exact ScheduleUnit.stop_shaped _ _ _
  · exact hs

/-- Of the SU the delivery of a trip changes what its abort changes. -/
theorem deliverTrip_su (s : State) :
    (deliverTrip s).su = if s.gu.tripNotice.isSome then (takeTripAbort s).su else s.su := by
  unfold deliverTrip
  cases htrip : s.gu.tripNotice with
  | none => rfl
  | some mask =>
    dsimp only
    split <;> simp [takeTripAbort_su]

theorem deliverTrip_shaped : Keeps (fun s => s.su.Shaped) deliverTrip := by
  intro s hs
  rw [deliverTrip_su]
  split
  · exact takeTripAbort_shaped s hs
  · exact hs

/-! ## The end of the program and of an event (R95) -/

@[simp] theorem programEnd_su (b : Bool) (s : State) :
    (programEnd b s).su = { s.su with program := .idle, retireIncomplete := b } := by
  unfold programEnd
  dsimp only
  split <;> simp

theorem takeRetirementDone_shaped : Keeps (fun s => s.su.Shaped) takeRetirementDone := by
  intro s hs
  unfold takeRetirementDone
  split
  next incomplete _ =>
    split
    next hstopping =>
      obtain ⟨hopen, hclosed, hend, hempty, _⟩ := hs
      have hshut : s.su.admissionOpen ≠ true := fun h => by simp [hopen h] at hstopping
      rw [programEnd_su]
      exact ⟨fun h => absurd h hshut, hclosed, hend, fun _ => hempty (.inr hstopping), nofun⟩
    next => exact hs
  next => exact hs

theorem takeNotices_shaped : Keeps (fun s => s.su.Shaped) takeNotices := by
  intro s hs
  have h := deliverTrip_shaped _ (takeRetirementDone_shaped (fuEvaluate (deliverTrip s))
    (by simpa using deliverTrip_shaped s hs))
  simpa [takeNotices] using h

theorem settle_shaped : Keeps (fun s => s.su.Shaped) settle := fun s hs => by
  simpa [settle] using takeNotices_shaped s hs

/-! ## Applications (R67, R78) -/

/-- The first four parts of `Shaped`: a DRAINING program's agenda may have run out in the event at hand (R78). -/
def ScheduleUnit.ShapedOrDrained (u : ScheduleUnit) : Prop :=
  (u.admissionOpen = true → u.program = .running) ∧ (u.admissionOpen = false → u.queue = [] ∧ u.waiter = none) ∧
    (u.admissionOpen = true → ∀ e ∈ u.agenda, e.kind ≠ .endProgram) ∧
      (u.program = .idle ∨ u.program = .stopping → u.agenda = [])

theorem ScheduleUnit.Shaped.orDrained {u : ScheduleUnit} (h : u.Shaped) : u.ShapedOrDrained := by
  obtain ⟨hopen, hclosed, hend, hempty, _⟩ := h
  exact ⟨hopen, hclosed, hend, hempty⟩

/-- The end of a drain closes the gap. -/
theorem drainEnd_shaped {s : State} (h : s.su.ShapedOrDrained) : (drainEnd s).su.Shaped := by
  unfold drainEnd
  split
  · rw [enterStopping_su]
    exact ScheduleUnit.stop_shaped _ _ _
  next hdrained =>
    obtain ⟨hopen, hclosed, hend, hempty⟩ := h
    exact ⟨hopen, hclosed, hend, hempty, fun hd he => hdrained ⟨hd, he⟩⟩

/-- Of the SU one application changes what an END changes. -/
theorem applyEntry_su (s : State) (e : Entry) :
    (applyEntry s e).su = if e.kind = .endProgram then s.su.applyEnd else s.su := by
  unfold applyEntry
  cases hk : e.kind <;> simp [applyKind, hk, applyMark, applyLimitsEntry] <;> split <;> simp

@[simp] theorem ScheduleUnit.applyEnd_idem (u : ScheduleUnit) : u.applyEnd.applyEnd = u.applyEnd := by
  unfold ScheduleUnit.applyEnd
  by_cases h : u.program = .running <;> simp [h]

/-- Of the SU the applications of a batch change what an END among them changes. -/
theorem foldl_applyEntry_su (l : List Entry) (s : State) :
    (l.foldl applyEntry s).su = if ∃ e ∈ l, e.kind = .endProgram then s.su.applyEnd else s.su := by
  induction l generalizing s with
  | nil => simp
  | cons e l ih =>
    rw [List.foldl_cons, ih, applyEntry_su]
    by_cases he : e.kind = .endProgram <;> simp [he]

/-- No phase of an entry that is no END makes it one (R69 to R77). -/
theorem Entry.afterApplication_kind {pt : Time} {e e' : Entry} (h : e.afterApplication pt = some e')
    (hk : e.kind ≠ .endProgram) : e'.kind ≠ .endProgram := by
  unfold Entry.afterApplication Entry.rekeyed at h
  split at h
  · split at h <;> try cases h
    · exact nofun
    · exact nofun
    · split at h <;> cases h
      exact nofun
  · cases h
    exact hk

/-- The agenda after the applications of this PT. -/
def appliedAgenda (s : State) : List Entry := s.su.agenda.filterMap (Entry.afterApplication s.tb.pt)

/-- The SU after the applications of this PT, before a drain ends. -/
theorem applyEntries_eq (s : State) :
    applyEntries s = drainEnd ((dueEntries s).foldl applyEntry { s with su := { s.su with agenda := appliedAgenda s } }) :=
  rfl

theorem appliedAgenda_no_end {s : State} (h : ∀ e ∈ s.su.agenda, e.kind ≠ .endProgram) :
    ∀ e ∈ appliedAgenda s, e.kind ≠ .endProgram := by
  intro e he
  obtain ⟨x, hx, hxe⟩ := List.mem_filterMap.mp he
  exact Entry.afterApplication_kind hxe (h x hx)

theorem ScheduleUnit.ShapedOrDrained.withAgenda {u : ScheduleUnit} (h : u.ShapedOrDrained) {a : List Entry}
    (hend : (∀ e ∈ u.agenda, e.kind ≠ .endProgram) → ∀ e ∈ a, e.kind ≠ .endProgram) (hempty : u.agenda = [] → a = []) :
    ({ u with agenda := a } : ScheduleUnit).ShapedOrDrained := by
  obtain ⟨hopen, hclosed, hnone, hidle⟩ := h
  exact ⟨hopen, hclosed, fun ho => hend (hnone ho), fun hp => hempty (hidle hp)⟩

theorem ScheduleUnit.ShapedOrDrained.applyEnd {u : ScheduleUnit} (h : u.ShapedOrDrained)
    (hshut : u.admissionOpen = false) : u.applyEnd.ShapedOrDrained := by
  unfold ScheduleUnit.applyEnd
  split
  · obtain ⟨_, hclosed, _, _⟩ := h
    exact ⟨by simp [hshut], hclosed, by simp [hshut], nofun⟩
  · exact h

theorem applyEntries_shaped : Keeps (fun s => s.su.Shaped) applyEntries := by
  intro s hs
  rw [applyEntries_eq]
  apply drainEnd_shaped
  have hagenda : ({ s.su with agenda := appliedAgenda s } : ScheduleUnit).ShapedOrDrained :=
    hs.orDrained.withAgenda appliedAgenda_no_end fun h => by simp [appliedAgenda, h]
  rw [foldl_applyEntry_su]
  split
  next hend =>
    obtain ⟨e, he, hk⟩ := hend
    refine hagenda.applyEnd ?_
    obtain ⟨_, _, hnone, _⟩ := hs
    by_contra hopen
    exact hnone (by simpa using hopen) e (List.mem_filter.mp he).1 hk
  next => exact hagenda

theorem applyDue_shaped : Keeps (fun s => s.su.Shaped) applyDue := by
  intro s hs
  unfold applyDue
  split
  · simpa using applyEntries_shaped s hs
  · exact hs

theorem takeApplication_shaped : Keeps (fun s => s.su.Shaped) takeApplication := by
  intro s hs
  unfold takeApplication
  split
  · exact settle_shaped _ (applyDue_shaped s hs)
  · exact hs

/-! ## Admissions (R48 to R58) -/

/-- Admission is open in a shaped RUNNING program. -/
structure Admitting (s : State) : Prop where
  shaped : s.su.Shaped
  running : s.su.program = .running
  openNow : s.su.admissionOpen = true

theorem Admitting.of_mayAdmit {q : QueuedStep} {s : State} (hs : s.su.Shaped) (h : mayAdmit q s = true) :
    Admitting s := by
  simp only [mayAdmit, Bool.and_eq_true, beq_iff_eq] at h
  obtain ⟨⟨⟨hrunning, hopen⟩, _⟩, _⟩ := h
  exact ⟨hs, hrunning, hopen⟩

theorem Admitting.of_su {s t : State} (h : Admitting s) (e : t.su = s.su) : Admitting t :=
  ⟨e ▸ h.shaped, e ▸ h.running, e ▸ h.openNow⟩

@[simp] theorem numberStep_su (q : QueuedStep) (e : Option Entry) (isEnd : Bool) (s : State) :
    (numberStep q e isEnd s).su =
      { s.su with
        queue := s.su.queue.tail, admissionCount := s.su.admissionCount + 1#32, agenda := s.su.agenda ++ e.toList } := by
  simp [numberStep]

@[simp] theorem setCursor_su (t : Nat) (s : State) :
    (setCursor t s).su = { s.su with cursor := BitVec.ofNat 48 t } := rfl

@[simp] theorem closeAdmission_su (s : State) :
    (closeAdmission s).su = { s.su with admissionOpen := false, queue := [], waiter := none } := by
  simp [closeAdmission]

theorem admitAnchor_shaped (q : QueuedStep) {s : State} (h : Admitting s) : (admitAnchor q s).su.Shaped := by
  obtain ⟨⟨_, _, hend, _, _⟩, hrunning, hopen⟩ := h
  simp [admitAnchor, ScheduleUnit.Shaped, hrunning, hopen]
  exact hend hopen

theorem admitWait_shaped (q : QueuedStep) (w : Waiter) {s : State} (h : Admitting s) :
    (admitWait q w s).su.Shaped := by
  obtain ⟨⟨_, _, hend, _, _⟩, hrunning, hopen⟩ := h
  simp [admitWait, ScheduleUnit.Shaped, hrunning, hopen]
  exact hend hopen

theorem admitDropped_shaped (q : QueuedStep) (k : StepKind) {s : State} (h : Admitting s) :
    (admitDropped q k s).su.Shaped := by
  obtain ⟨⟨_, _, hend, _, _⟩, hrunning, hopen⟩ := h
  simp [admitDropped, ScheduleUnit.Shaped, hrunning, hopen]
  exact hend hopen

/-- The state in which an admitted timed step leaves the agenda to the applications of the present PT. -/
def entryAdmitted (q : QueuedStep) (k : StepKind) (ek : EntryKind) (due : Time) (s : State) : State :=
  let n := setCursor (dueOf s q.step + cursorStep k q.step)
    (numberStep q (some (entryOf q ek due s)) (k == .endProgram) s)
  if k = .endProgram then closeAdmission n else n

theorem admitEntry_eq (q : QueuedStep) (k : StepKind) (ek : EntryKind) (due : Time) (s : State) :
    admitEntry q k ek due s =
      if due = s.tb.pt then applyDue (entryAdmitted q k ek due s) else entryAdmitted q k ek due s := rfl

theorem StepKind.entryKind_eq_endProgram {k : StepKind} {ek : EntryKind} (h : k.entryKind = some ek) :
    ek = .endProgram ↔ k = .endProgram := by
  cases k <;> simp [StepKind.entryKind] at h <;> simp [← h]

theorem entryAdmitted_shaped (q : QueuedStep) {k : StepKind} {ek : EntryKind} (hk : k.entryKind = some ek)
    (due : Time) {s : State} (h : Admitting s) : (entryAdmitted q k ek due s).su.Shaped := by
  obtain ⟨⟨_, _, hend, _, _⟩, hrunning, hopen⟩ := h
  unfold entryAdmitted
  dsimp only
  split
  · simp [ScheduleUnit.Shaped, hrunning]
  next hne =>
    have hek : ek ≠ .endProgram := fun h => hne ((StepKind.entryKind_eq_endProgram hk).mp h)
    simp only [ScheduleUnit.Shaped, setCursor_su, numberStep_su, hrunning, hopen]
    refine ⟨by simp, by simp, fun _ e he => ?_, by simp, by simp⟩
    simp only [Option.toList_some, List.mem_append, List.mem_singleton] at he
    obtain he | rfl := he
    · exact hend hopen e he
    · exact hek

theorem admitEntry_shaped (q : QueuedStep) {k : StepKind} {ek : EntryKind} (hk : k.entryKind = some ek)
    (due : Time) {s : State} (h : Admitting s) : (admitEntry q k ek due s).su.Shaped := by
  have hadmitted := entryAdmitted_shaped q hk due h
  rw [admitEntry_eq]
  split
  · exact applyDue_shaped _ hadmitted
  · exact hadmitted

theorem admitLate_shaped (q : QueuedStep) {k : StepKind} {ek : EntryKind} (hk : k.entryKind = some ek) {s : State}
    (h : Admitting s) : (admitLate q k ek s).su.Shaped := by
  unfold admitLate
  split
  · exact admitEntry_shaped q hk _ (h.of_su (by simp))
  · exact admitDropped_shaped q k (h.of_su (by simp))
  · exact suFault_shaped _ _ (by simpa using h.shaped)

theorem admitValid_shaped (q : QueuedStep) (k : StepKind) {s : State} (h : Admitting s) :
    (admitValid q k s).su.Shaped := by
  unfold admitValid
  split
  next ek hk =>
    unfold admitTimed
    split
    · exact admitLate_shaped q hk h
    · exact admitEntry_shaped q hk _ h
  next => exact admitAnchor_shaped q h

theorem admitStep_shaped (q : QueuedStep) {s : State} (h : Admitting s) : (admitStep q s).su.Shaped := by
  unfold admitStep admitWaitStep admitChecked
  split
  · exact suFault_shaped _ s h.shaped
  · split
    · exact admitWait_shaped q _ h
    · exact suFault_shaped _ s h.shaped
  · split
    · exact admitValid_shaped q _ h
    · exact suFault_shaped _ s h.shaped

theorem takeStepAdmission_shaped : Keeps (fun s => s.su.Shaped) takeStepAdmission := by
  intro s hs
  have happlied := takeApplication_shaped s hs
  unfold takeStepAdmission admitHead
  split
  next q _ _ =>
    split
    next hmay => exact settle_shaped _ (admitStep_shaped q (.of_mayAdmit happlied hmay))
    next => exact happlied
  next => exact happlied

/-! ## The waiter and the time range (R8, R59, R60) -/

theorem ScheduleUnit.Shaped.disarmed {u : ScheduleUnit} (h : u.Shaped) :
    ({ u with waiter := none } : ScheduleUnit).Shaped := by
  obtain ⟨hopen, hclosed, hend, hempty, hdraining⟩ := h
  exact ⟨hopen, fun hc => ⟨(hclosed hc).1, rfl⟩, hend, hempty, hdraining⟩

theorem ScheduleUnit.Shaped.waitEnded {u : ScheduleUnit} (h : u.Shaped) (pt : Time) : (u.waitEnded pt).Shaped :=
  h.disarmed

theorem suEdgeNotice_shaped (ch : Fin 16) (e : Edge) : Keeps (fun s => s.su.Shaped) (suEdgeNotice ch e) := by
  intro s hs
  unfold suEdgeNotice
  split
  · simpa using hs.waitEnded s.tb.pt
  · exact hs

theorem takeWaitTimeout_shaped : Keeps (fun s => s.su.Shaped) takeWaitTimeout := by
  intro s hs
  unfold takeWaitTimeout
  split
  · split
    · apply settle_shaped
      unfold endWait
      dsimp only
      split
      · exact suFault_shaped _ _ (by simpa using hs.disarmed)
      · simpa using hs.waitEnded s.tb.pt
    · exact hs
  · exact hs

theorem takeTimeRange_shaped : Keeps (fun s => s.su.Shaped) takeTimeRange := by
  intro s hs
  unfold takeTimeRange
  split
  · exact settle_shaped _ (suFault_shaped _ _ hs)
  · exact hs

theorem takeEdge_shaped (n : Fin 16) (e : Edge) : Keeps (fun s => s.su.Shaped) (takeEdge n e) := by
  intro s hs
  unfold takeEdge
  split
  · apply settle_shaped
    have hwait := takeWaitTimeout_shaped s hs
    unfold recognizeEdge noticeEdge
    split
    · exact suEdgeNotice_shaped n e _ (by simpa using hwait)
    · simpa using suEdgeNotice_shaped n e _ (by simpa using hwait)
  · exact hs

/-! ## Commands and ends of transfers -/

theorem takeStart_shaped : Keeps (fun s => s.su.Shaped) takeStart := by
  intro s hs
  unfold takeStart
  repeat' split
  · simpa using hs
  · simpa using hs
  · simpa using hs
  · simpa using hs
  · exact settle_shaped _ (by simp [ScheduleUnit.start, ScheduleUnit.Shaped])

theorem takeDrain_shaped : Keeps (fun s => s.su.Shaped) takeDrain := by
  intro s hs
  unfold takeDrain
  split
  · simpa using hs
  · simpa using hs
  · simpa using hs
  · exact settle_shaped _ (drainEnd_shaped (by simp [ScheduleUnit.ShapedOrDrained]))

theorem takeStopAtOnce_shaped : Keeps (fun s => s.su.Shaped) takeStopAtOnce := by
  intro s hs
  have hstop : (enterStopping .stopped .none s).su.Shaped := by
    rw [enterStopping_su]
    exact ScheduleUnit.stop_shaped _ _ _
  unfold takeStopAtOnce
  split
  · simpa using hs
  · simpa using hs
  · exact settle_shaped _ hstop
  · exact settle_shaped _ hstop

theorem takeStop_shaped (op : Half) : Keeps (fun s => s.su.Shaped) (takeStop op) := by
  intro s hs
  unfold takeStop
  repeat' split
  · exact takeDrain_shaped s hs
  · exact takeStopAtOnce_shaped s hs
  · simpa using hs

theorem fetchError_shaped : Keeps (fun s => s.su.Shaped) fetchError := fun s hs =>
  suFault_shaped _ _ (by simpa using hs)

theorem discardedRead_shaped (b : Bool) : Keeps (fun s => s.su.Shaped) (discardedRead b) :=
  .of_eq (·.su) fun s => by simp

theorem takeHeader_shaped (a : Addr) (q : Word) (h : StripHeader) : Keeps (fun s => s.su.Shaped) (takeHeader a q h) := by
  intro s hs
  unfold takeHeader
  dsimp only
  split
  · exact suFault_shaped _ _ hs
  · exact hs

theorem headerEnd_shaped (r : ReadResult 32) (t : Transfer) : Keeps (fun s => s.su.Shaped) (headerEnd r t) := by
  intro s hs
  refine settle_shaped _ ?_
  unfold headerTaken
  split
  · exact takeHeader_shaped _ _ _ s hs
  · exact discardedRead_shaped _ s hs
  · exact fetchError_shaped s hs
  · exact discardedRead_shaped _ s hs

theorem takeLink_shaped : Keeps (fun s => s.su.Shaped) takeLink := by
  intro s hs
  unfold takeLink
  repeat' split
  · exact hs
  · exact suFault_shaped _ _ hs
  · exact hs

theorem enqueueSteps_shaped (ps : List Step) (n : Fin 8) {u : ScheduleUnit} (h : u.Shaped) :
    (enqueueSteps ps n u).Shaped := by
  unfold enqueueSteps
  split
  next ho =>
    obtain ⟨hopen, _, hend, hempty, hdraining⟩ := h
    exact ⟨hopen, fun hc => by simp [ho] at hc, hend, hempty, hdraining⟩
  next => exact h

theorem takeSteps_shaped (two : Bool) (d : List Byte) : Keeps (fun s => s.su.Shaped) (takeSteps two d) := by
  intro s hs
  unfold takeSteps
  dsimp only
  split
  · split
    · exact takeLink_shaped _ (enqueueSteps_shaped _ _ hs)
    · exact enqueueSteps_shaped _ _ hs
  · exact hs

theorem stepsEnd_shaped (r : ReadResult 64) (t : Transfer) : Keeps (fun s => s.su.Shaped) (stepsEnd r t) := by
  intro s hs
  refine settle_shaped _ ?_
  unfold stepsTaken
  split
  · exact takeSteps_shaped _ _ s hs
  · exact discardedRead_shaped _ s hs
  · exact fetchError_shaped s hs
  · exact discardedRead_shaped _ s hs

theorem linkEnd_shaped (r : ReadResult 8) (t : Transfer) : Keeps (fun s => s.su.Shaped) (linkEnd r t) := by
  intro s hs
  refine settle_shaped _ ?_
  unfold linkTaken takeReread
  split
  · repeat' split
    · exact hs
    · exact suFault_shaped _ _ hs
    · exact hs
  · exact discardedRead_shaped _ s hs
  · exact fetchError_shaped s hs
  · exact discardedRead_shaped _ s hs

theorem retireEnd_shaped (r : WriteResult) : Keeps (fun s => s.su.Shaped) (retireEnd r) := by
  intro s hs
  refine settle_shaped _ ?_
  unfold retireTaken takeRetired retireError
  split
  · split
    · dsimp only
      split <;> simpa using hs
    · exact hs
  · exact suFault_shaped _ _ (by simpa using hs)

/-- A context commit changes the late policy of the SU alone. -/
theorem dcbEnd_su (r : ReadResult 64) (p : Pins) (s : State) :
    ∃ policy, (dcbEnd r p s).su = { s.su with latePolicy := policy } := by
  have same : ∀ t : State, t.su = s.su → ∃ policy, t.su = { s.su with latePolicy := policy } :=
    fun t h => ⟨s.su.latePolicy, h⟩
  unfold dcbEnd
  split
  · unfold takeDcb judgeShadow commitContext commitOutputs commitLines commitGuards commitQuiet
    dsimp only
    split
    · exact same _ (by simp)
    · split
      · exact ⟨_, by split <;> simp <;> rfl⟩
      · exact same _ (by simp)
  · exact same _ (by simp)

theorem dcbEnd_shaped (r : ReadResult 64) (p : Pins) : Keeps (fun s => s.su.Shaped) (dcbEnd r p) := by
  intro s hs
  obtain ⟨policy, h⟩ := dcbEnd_su r p s
  rw [h]
  exact hs

theorem limitsEnd_shaped (r : ReadResult 48) : Keeps (fun s => s.su.Shaped) (limitsEnd r) := by
  intro s hs
  unfold limitsEnd takeLimits stageLimits
  split
  · apply settle_shaped
    repeat' split
    · simpa [makeActive] using hs
    · simpa using hs
    · simpa using hs
  · simpa using hs

/-! ## Events of the other blocks that end with the notices -/

/-- An event that leaves the SU alone and then takes the notices keeps the shape. -/
theorem settle_shaped_of_su {f : State → State} (h : ∀ s, (f s).su = s.su) :
    Keeps (fun s => s.su.Shaped) fun s => settle (f s) := fun s hs =>
  settle_shaped _ (by simpa only [h] using hs)

theorem takeBlankEnd_shaped (n : Fin 4) : Keeps (fun s => s.su.Shaped) (takeBlankEnd n) := by
  intro s hs
  unfold takeBlankEnd
  split
  · exact settle_shaped_of_su (f := endBlank n) (by simp) s hs
  · exact hs

theorem takeEscalation_shaped (n : Fin 4) : Keeps (fun s => s.su.Shaped) (takeEscalation n) := by
  intro s hs
  unfold takeEscalation
  split
  · exact settle_shaped_of_su (f := escalate n) (by simp) s hs
  · exact hs

theorem takeAssertion_shaped (n : Fin 4) : Keeps (fun s => s.su.Shaped) (takeAssertion n) := by
  intro s hs
  unfold takeAssertion
  split
  · exact settle_shaped_of_su (f := fun s => recognizeAssertion n (levelAsserted n s)) (by simp) s hs
  · exact hs

/-! ## Every step -/

theorem reset_shaped : ScheduleUnit.reset.Shaped := by simp [ScheduleUnit.Shaped, ScheduleUnit.reset]

theorem shaped_stepKeeps : StepKeeps fun s => s.su.Shaped where
  queue _ := .of_eq (·.su) fun _ => rfl
  hardReset _ _ := reset_shaped
  softReset _ _ := reset_shaped
  release := .of_eq (·.su) fun _ => rfl
  irqEnable _ := .of_eq (·.su) fun _ => rfl
  eventMask _ := .of_eq (·.su) fun _ => rfl
  events _ := .of_eq (·.su) fun _ => rfl
  wake := .of_eq (·.su) fun s => by simp
  argLo _ := .of_eq (·.su) fun _ => rfl
  argHi _ := .of_eq (·.su) fun _ => rfl
  refuse := .of_eq (·.su) fun s => by simp
  take _ _ := .of_eq (·.su) fun _ => rfl
  loadContext := .of_eq (·.su) fun s => by simp
  stageLimits := .of_eq (·.su) fun s => by simp
  start := takeStart_shaped
  stop := takeStop_shaped
  stopAtOnce := takeStopAtOnce_shaped
  pause := .of_eq (·.su) fun s => by simp
  resume := .of_eq (·.su) fun s => by simp
  forceLines := .of_eq (·.su) fun s => by simp
  clearTrip := .of_eq (·.su) fun s => by simp
  journalOpen := .of_eq (·.su) fun s => by simp
  journalFlush := .of_eq (·.su) fun s => by simp
  journalClose := .of_eq (·.su) fun s => by simp
  stamp := .of_eq (·.su) fun s => by simp
  dumpTallies _ := .of_eq (·.su) fun s => by simp
  unknown := .of_eq (·.su) fun s => by simp
  timeRange := takeTimeRange_shaped
  application := takeApplication_shaped
  waitTimeout := takeWaitTimeout_shaped
  deferredRise _ := .of_eq (·.su) fun s => by simp
  lastFall _ := .of_eq (·.su) fun s => by simp
  blankEnd := takeBlankEnd_shaped
  escalation := takeEscalation_shaped
  linkWatch := .of_eq (·.su) fun s => by simp
  sheetRecheck := .of_eq (·.su) fun s => by simp
  flushAge := .of_eq (·.su) fun s => by simp
  ticked := .of_eq (·.su) fun s => by simp
  advance := .of_eq (·.su) fun s => by simp
  assertion := takeAssertion_shaped
  deassertion _ := .of_eq (·.su) fun s => by simp
  edge := takeEdge_shaped
  admission := takeStepAdmission_shaped
  faultRun _ _ := .of_eq (·.su) fun s => by simp
  inputRun _ _ := .of_eq (·.su) fun s => by simp
  busAges := .of_eq (·.su) fun _ => rfl
  sourceAges := .of_eq (·.su) fun _ => rfl
  headerRead r := .endTransfer_of_eq (·.su) (headerEnd_shaped r)
  stepRead r := .endTransfer_of_eq (·.su) (stepsEnd_shaped r)
  linkRead r := .endTransfer_of_eq (·.su) (linkEnd_shaped r)
  retireWrite r := .endTransfer_of_eq (·.su) fun _ => retireEnd_shaped r
  sheetRead r := .endTransfer_of_eq (·.su) fun t => .of_eq (·.su) fun s => by simp
  recordWrite r := .endTransfer_of_eq (·.su) fun _ => .of_eq (·.su) fun s => by simp
  sheetWrite r := .endTransfer_of_eq (·.su) fun t => .of_eq (·.su) fun s => by simp
  dcbRead r p := .endTransfer_of_eq (·.su) fun _ => dcbEnd_shaped r p
  limitsRead r := .endTransfer_of_eq (·.su) fun _ => limitsEnd_shaped r
  tallyWrite r := .endTransfer_of_eq (·.su) fun t => .of_eq (·.su) fun s => by cases r <;> simp [tallyEnd]

/-- Settles O56: each event of a step keeps the shape. -/
theorem programShapeKept : Obligations.ProgramShapeKept := fun _ _ hs e => shaped_stepKeeps.step hs e

end Sys2Proof.Machine
end

/-! The trip latch's hold on the program (R92, R128): inside an event a trip may be out, and the notices that end the event
take it. -/
section
namespace Sys2Proof.Machine

/-! ## A set latch, inside an event -/

/-- While the latch is set, the program is not active or a trip is out that will end it. -/
def TripGate (s : State) : Prop := s.gu.latch = true → s.su.program.active = true → s.gu.tripNotice ≠ none

theorem active_eq_false_iff (p : ProgramState) : p.active = false ↔ p = .idle ∨ p = .stopping := by
  cases p <;> simp [ProgramState.active]

theorem tripGated_iff (s : State) : TripGated s ↔ s.gu.tripNotice = none ∧ TripGate s := by
  unfold TripGated TripGate
  rw [← active_eq_false_iff]
  constructor
  · exact fun ⟨hnone, hgate⟩ => ⟨hnone, fun hlatch hactive => by simp [hgate hlatch] at hactive⟩
  · refine fun ⟨hnone, hgate⟩ => ⟨hnone, fun hlatch => ?_⟩
    by_contra hactive
    exact hgate hlatch (by simpa using hactive) hnone

theorem TripGated.gate {s : State} (h : TripGated s) : TripGate s := ((tripGated_iff s).mp h).2

/-- An event keeps the gate that leaves the latch and the notice alone and makes no program active. -/
theorem TripGate.of_same {s t : State} (h : TripGate s)
    (htrip : t.gu.tripNotice = s.gu.tripNotice ∧ t.gu.latch = s.gu.latch)
    (hactive : t.su.program.active = true → s.su.program.active = true) : TripGate t := fun hl ha => by
  obtain ⟨hnotice, hlatch⟩ := htrip
  rw [hnotice]
  exact h (hlatch ▸ hl) (hactive ha)

theorem TripGate.of_gu_su {s t : State} (h : TripGate s) (hgu : t.gu = s.gu) (hsu : t.su = s.su) : TripGate t :=
  h.of_same (by simp [hgu]) (by simp [hsu])

theorem TripGate.of_inactive {s : State} (h : s.su.program.active = false) : TripGate s := fun _ ha => by simp [h] at ha

theorem TripGate.of_notice {s : State} (h : s.gu.tripNotice ≠ none) : TripGate s := fun _ _ => h

/-- An event that leaves the latch, the notice and the SU alone keeps the gate. -/
theorem Keeps.gated_of_same {f : State → State}
    (htrip : ∀ s, (f s).gu.tripNotice = s.gu.tripNotice ∧ (f s).gu.latch = s.gu.latch)
    (hsu : ∀ s, (f s).su = s.su) : Keeps TripGated f := by
  intro s hs
  unfold TripGated
  rw [(htrip s).1, (htrip s).2, hsu s]
  exact hs

/-- The same with the whole Guard Unit. -/
theorem Keeps.gated_of_gu_su {f : State → State} (hgu : ∀ s, (f s).gu = s.gu) (hsu : ∀ s, (f s).su = s.su) :
    Keeps TripGated f := .gated_of_same (fun s => by simp [hgu]) hsu

theorem complete_gated (r : Result) : Keeps TripGated (complete r) := .gated_of_gu_su (by simp) (by simp)

/-! ## Aborts -/

theorem enterStopping_inactive (o : ProgramOutcome) (r : Reason) (s : State) :
    (enterStopping o r s).su.program.active = false := by simp [ScheduleUnit.stop, ProgramState.active]

theorem suFault_inactive (r : Reason) (s : State) : (suFault r s).su.program.active = false := by
  rw [suFault_su]
  split
  · rfl
  next h => simpa using h

theorem takeTripAbort_active (s : State) : (takeTripAbort s).su.program.active = false := by
  rw [takeTripAbort_su]
  split
  · rfl
  next h => simpa using h

/-- A trip that is taken leaves no program active. -/
theorem deliverTrip_gated {s : State} (h : TripGate s) : TripGated (deliverTrip s) := by
  refine (tripGated_iff _).mpr ⟨(deliverTrip_trip s).1, ?_⟩
  cases hnotice : s.gu.tripNotice with
  | none => rw [deliverTrip_none hnotice]; exact h
  | some mask =>
    refine .of_inactive ?_
    rw [deliverTrip_su, hnotice]
    exact takeTripAbort_active s

/-! ## The end of an event -/

theorem takeRetirementDone_gate {s : State} (h : TripGate s) : TripGate (takeRetirementDone s) := by
  unfold takeRetirementDone
  split
  · split
    · exact .of_inactive (by simp [ProgramState.active])
    · exact h
  · exact h

/-- Whatever an event has done, the gate is kept once its notices are taken. -/
theorem settle_gated {s : State} (h : TripGate s) : TripGated (settle s) := by
  have hjudged : TripGate (fuEvaluate (deliverTrip s)) := (deliverTrip_gated h).gate.of_gu_su (by simp) (by simp)
  have hdone := deliverTrip_gated (takeRetirementDone_gate hjudged)
  exact Keeps.gated_of_gu_su (f := fun s => pump (reportStarved s)) (by simp) (by simp) _ hdone

/-! ## Trips: escalations, activations, new Limits -/

theorem escalate_notice (n : Fin 4) (s : State) : (escalate n s).gu.tripNotice ≠ none := by
  simp [escalate, escalateTrip, takeTripAction, GuardUnit.takeTrip]

theorem judgeHold_gate {s : State} (h : TripGate s) (n : Fin 4) : TripGate (judgeHold s n) := by
  unfold judgeHold
  split
  · exact .of_notice (escalate_notice n s)
  · exact h

theorem guNewLimits_gate {s : State} (h : TripGate s) (m : Limits) : TripGate (guNewLimits m s) :=
  foldl_inv TripGate judgeHold (fun _ n hs => judgeHold_gate hs n) _ _ (h.of_same ⟨rfl, rfl⟩ fun ha => ha)

theorem osNewDeadTimes_gate {s : State} (h : TripGate s) (m : Limits) : TripGate (osNewDeadTimes m s) :=
  h.of_same (osEvent_trip _ s) (by simp)

theorem afterDraw_gate {s : State} (h : TripGate s) : TripGate (afterDraw s) := h

theorem deliverLimits_gate {s : State} (h : TripGate s) (m : Limits) : TripGate (deliverLimits m s) := by
  unfold deliverLimits
  split
  · exact osNewDeadTimes_gate (guNewLimits_gate (afterDraw_gate h) m) m
  · exact guNewLimits_gate (osNewDeadTimes_gate (afterDraw_gate h) m) m

@[simp] theorem notifyActivation_trip (n : Fin 4) (s : State) :
    (notifyActivation n s).gu.tripNotice = s.gu.tripNotice ∧ (notifyActivation n s).gu.latch = s.gu.latch := by
  unfold notifyActivation clampOn
  split <;> simp

theorem tripIfTrip_gate {s : State} (h : TripGate s) (n : Fin 4) : TripGate (tripIfTrip n s) := by
  unfold tripIfTrip
  split
  · exact .of_notice (by simp [takeTripAction, GuardUnit.takeTrip])
  · exact h

theorem activate_gate {s : State} (h : TripGate s) (n : Fin 4) : TripGate (activate n s) := by
  have hinput : TripGate (activateInput n s) := h.of_same ⟨rfl, rfl⟩ fun ha => ha
  refine (tripIfTrip_gate hinput n).of_same ?_ (by simp [activate])
  simp [activate]

/-! ## Applications and admissions -/

@[simp] theorem foldl_makeChange_trip (cs : List Change) (s : State) :
    (cs.foldl makeChange s).gu = s.gu := foldl_keeps _ (·.gu) (fun s c => by simp) _ _

@[simp] theorem osBatch_trip (cs : List Change) (s : State) :
    (osBatch cs s).gu.tripNotice = s.gu.tripNotice ∧ (osBatch cs s).gu.latch = s.gu.latch := by
  unfold osBatch
  split <;> simp

theorem osBatch_gate {s : State} (h : TripGate s) (cs : List Change) : TripGate (osBatch cs s) :=
  h.of_same (osBatch_trip cs s) (by simp)

theorem deliverTaken_gate {s : State} (h : TripGate s) (taken : Bool) : TripGate (deliverTaken taken s) := by
  unfold deliverTaken
  split
  · exact deliverLimits_gate h _
  · exact h

theorem deliverBatch_gate {s : State} (h : TripGate s) (cs : List Change) (taken : Bool) :
    TripGate (deliverBatch cs taken s) := by
  unfold deliverBatch
  split
  · exact osBatch_gate (deliverTaken_gate (afterDraw_gate h) taken) cs
  · refine deliverTaken_gate (osBatch_gate ?_ cs) taken
    split
    · exact afterDraw_gate h
    · exact h

@[simp] theorem drainEnd_trip (s : State) :
    (drainEnd s).gu.tripNotice = s.gu.tripNotice ∧ (drainEnd s).gu.latch = s.gu.latch := by
  unfold drainEnd
  split <;> simp

@[simp] theorem foldl_applyEntry_gu (l : List Entry) (s : State) : (l.foldl applyEntry s).gu = s.gu :=
  foldl_keeps _ (·.gu) (fun s e => by simp) _ _

@[simp] theorem applyEntries_trip (s : State) :
    (applyEntries s).gu.tripNotice = s.gu.tripNotice ∧ (applyEntries s).gu.latch = s.gu.latch := by
  simp [applyEntries_eq]

theorem applyDue_gate {s : State} (h : TripGate s) : TripGate (applyDue s) := by
  unfold applyDue
  split
  next hdue =>
    have hactive : s.su.program.active = true := by
      simp only [applicationDue, Bool.and_eq_true] at hdue
      exact hdue.1
    exact deliverBatch_gate (h.of_same (applyEntries_trip s) fun _ => hactive) _ _
  next => exact h

theorem takeApplication_gated : Keeps TripGated takeApplication := by
  intro s hs
  unfold takeApplication
  split
  · exact settle_gated (applyDue_gate hs.gate)
  · exact hs

@[simp] theorem suFault_trip (r : Reason) (s : State) :
    (suFault r s).gu.tripNotice = s.gu.tripNotice ∧ (suFault r s).gu.latch = s.gu.latch := by
  unfold suFault
  split <;> simp

theorem suFault_gate (r : Reason) (s : State) : TripGate (suFault r s) := .of_inactive (suFault_inactive r s)

/-- Where the program runs and the gate stands, an event that leaves the latch and the notice alone keeps it. -/
theorem TripGate.of_running {s t : State} (h : TripGate s) (hrunning : s.su.program = .running)
    (hgu : t.gu = s.gu) : TripGate t :=
  h.of_same (by simp [hgu]) fun _ => by simp [hrunning, ProgramState.active]

@[simp] theorem entryAdmitted_gu (q : QueuedStep) (k : StepKind) (ek : EntryKind) (due : Time) (s : State) :
    (entryAdmitted q k ek due s).gu = s.gu := by
  unfold entryAdmitted
  dsimp only
  split <;> simp

theorem admitEntry_gate {s : State} (h : TripGate s) (hrunning : s.su.program = .running) (q : QueuedStep)
    (k : StepKind) (ek : EntryKind) (due : Time) : TripGate (admitEntry q k ek due s) := by
  have hadmitted : TripGate (entryAdmitted q k ek due s) := h.of_running hrunning (by simp)
  rw [admitEntry_eq]
  split
  · exact applyDue_gate hadmitted
  · exact hadmitted

theorem admitLate_gate {s : State} (h : TripGate s) (hrunning : s.su.program = .running) (q : QueuedStep)
    (k : StepKind) (ek : EntryKind) : TripGate (admitLate q k ek s) := by
  unfold admitLate
  split
  · exact admitEntry_gate (h.of_gu_su (by simp) (by simp)) (by simpa using hrunning) q k ek _
  · exact h.of_running hrunning (by simp)
  · exact suFault_gate _ _

theorem admitStep_gate {s : State} (h : TripGate s) (hrunning : s.su.program = .running) (q : QueuedStep) :
    TripGate (admitStep q s) := by
  unfold admitStep admitWaitStep admitChecked admitValid admitTimed
  split
  · exact suFault_gate _ _
  · split
    · exact h.of_running hrunning (by simp)
    · exact suFault_gate _ _
  · split
    · split
      · split
        · exact admitLate_gate h hrunning q _ _
        · exact admitEntry_gate h hrunning q _ _ _
      · exact h.of_running hrunning (by simp)
    · exact suFault_gate _ _

theorem takeStepAdmission_gated : Keeps TripGated takeStepAdmission := by
  intro s hs
  have happlied := takeApplication_gated s hs
  unfold takeStepAdmission admitHead
  split
  next q _ _ =>
    split
    next hmay =>
      have hrunning : (takeApplication s).su.program = .running := by
        simp only [mayAdmit, Bool.and_eq_true, beq_iff_eq] at hmay
        exact hmay.1.1.1
      exact settle_gated (admitStep_gate happlied.gate hrunning q)
    next => exact happlied
  next => exact happlied

/-! ## The waiter, the time range, edges -/

theorem endWait_gate {s : State} (h : TripGate s) (w : Waiter) : TripGate (endWait w s) := by
  unfold endWait
  dsimp only
  split
  · exact suFault_gate _ _
  · exact h.of_same (by simp) (by simp [ScheduleUnit.waitEnded])

theorem takeWaitTimeout_gated : Keeps TripGated takeWaitTimeout := by
  intro s hs
  unfold takeWaitTimeout
  split
  · split
    · exact settle_gated (endWait_gate hs.gate _)
    · exact hs
  · exact hs

theorem takeTimeRange_gated : Keeps TripGated takeTimeRange := by
  intro s hs
  unfold takeTimeRange
  split
  · exact settle_gated (suFault_gate _ _)
  · exact hs

theorem suEdgeNotice_program (ch : Fin 16) (e : Edge) (s : State) :
    (suEdgeNotice ch e s).su.program = s.su.program := by
  unfold suEdgeNotice
  split <;> simp [ScheduleUnit.waitEnded]

theorem recognizeEdge_program (n : Fin 16) (e : Edge) (s : State) :
    (recognizeEdge n e s).su.program = s.su.program := by
  unfold recognizeEdge noticeEdge
  split <;> simp [suEdgeNotice_program]

theorem takeEdge_gated (n : Fin 16) (e : Edge) : Keeps TripGated (takeEdge n e) := by
  intro s hs
  unfold takeEdge
  split
  · have hwait := (takeWaitTimeout_gated s hs).gate
    exact settle_gated (hwait.of_same (by simp) (by simp [recognizeEdge_program]))
  · exact hs

/-! ## Fault inputs -/

theorem takeBlankEnd_gated (n : Fin 4) : Keeps TripGated (takeBlankEnd n) := by
  intro s hs
  have hclear : TripGate (clearBlank n s) := hs.gate.of_same ⟨rfl, rfl⟩ fun ha => ha
  unfold takeBlankEnd endBlank judgeBlanked
  split
  · split
    · exact settle_gated (activate_gate hclear n)
    · exact settle_gated hclear
  · exact hs

theorem takeEscalation_gated (n : Fin 4) : Keeps TripGated (takeEscalation n) := by
  intro s hs
  unfold takeEscalation
  split
  · exact settle_gated (.of_notice (escalate_notice n s))
  · exact hs

theorem takeAssertion_gated (n : Fin 4) : Keeps TripGated (takeAssertion n) := by
  intro s hs
  have hlevel : TripGate (levelAsserted n s) := hs.gate.of_same ⟨rfl, rfl⟩ fun ha => ha
  unfold takeAssertion recognizeAssertion
  split
  · split
    · exact settle_gated (activate_gate hlevel n)
    · exact settle_gated hlevel
  · exact hs

@[simp] theorem release_trip (n : Fin 4) (s : State) :
    (release n s).gu.tripNotice = s.gu.tripNotice ∧ (release n s).gu.latch = s.gu.latch := by
  unfold release notifyRelease clampOff
  split <;> simp [releaseInput, GuardUnit.setInput]

@[simp] theorem takeDeassertion_trip (n : Fin 4) (s : State) :
    (takeDeassertion n s).gu.tripNotice = s.gu.tripNotice ∧ (takeDeassertion n s).gu.latch = s.gu.latch := by
  unfold takeDeassertion recognizeDeassertion
  split
  · split <;> simp [levelDeasserted, GuardUnit.setInput]
  · simp

/-! ## Commands -/

theorem takeStart_gated : Keeps TripGated takeStart := by
  intro s hs
  unfold takeStart
  repeat' split
  · exact complete_gated _ s hs
  · exact complete_gated _ s hs
  · exact complete_gated _ s hs
  · exact complete_gated _ s hs
  next hlatch _ => exact settle_gated fun h => absurd (by simpa using h) hlatch

theorem takeDrain_gated : Keeps TripGated takeDrain := by
  intro s hs
  unfold takeDrain
  split
  · exact complete_gated _ s hs
  · exact complete_gated _ s hs
  · exact complete_gated _ s hs
  next hrunning =>
    exact settle_gated (hs.gate.of_same (by simp) fun _ => by simp [hrunning, ProgramState.active])

theorem takeStopAtOnce_gated : Keeps TripGated takeStopAtOnce := by
  intro s hs
  unfold takeStopAtOnce
  split
  · exact complete_gated _ s hs
  · exact complete_gated _ s hs
  · exact settle_gated (.of_inactive (enterStopping_inactive _ _ _))
  · exact settle_gated (.of_inactive (enterStopping_inactive _ _ _))

theorem takeStop_gated (op : Half) : Keeps TripGated (takeStop op) := by
  intro s hs
  unfold takeStop
  repeat' split
  · exact takeDrain_gated s hs
  · exact takeStopAtOnce_gated s hs
  · exact complete_gated _ s hs

@[simp] theorem forceLinesNow_trip (s : State) :
    (forceLinesNow s).gu.tripNotice = s.gu.tripNotice ∧ (forceLinesNow s).gu.latch = s.gu.latch := by
  unfold forceLinesNow
  split <;> simp

theorem takeForceLines_trip (s : State) :
    (takeForceLines s).gu.tripNotice = s.gu.tripNotice ∧ (takeForceLines s).gu.latch = s.gu.latch := by
  unfold takeForceLines
  repeat' split
  all_goals simp

theorem takeClearTrip_gated : Keeps TripGated takeClearTrip := by
  intro s hs
  unfold takeClearTrip
  repeat' split
  · exact complete_gated _ s hs
  · exact complete_gated _ s hs
  · have hcleared : (clearLatch s).gu.tripNotice = s.gu.tripNotice ∧ (clearLatch s).gu.latch = false := by
      simp [clearLatch, GuardUnit.clearTrip]
    exact ⟨by simpa [hcleared] using hs.1, by simp [hcleared]⟩

/-! ## Ends of transfers -/

theorem takeHeader_gate {s : State} (h : TripGate s) (a : Addr) (q : Word) (hd : StripHeader) :
    TripGate (takeHeader a q hd s) := by
  unfold takeHeader
  dsimp only
  split
  · exact suFault_gate _ _
  · exact h

theorem discardedRead_gate {s : State} (h : TripGate s) (ok : Bool) : TripGate (discardedRead ok s) :=
  h.of_gu_su (by simp) (by simp)

theorem headerEnd_gated (r : ReadResult 32) (t : Transfer) : Keeps TripGated (headerEnd r t) := by
  intro s hs
  refine settle_gated ?_
  unfold headerTaken
  split
  · exact takeHeader_gate hs.gate _ _ _
  · exact discardedRead_gate hs.gate _
  · exact suFault_gate _ _
  · exact discardedRead_gate hs.gate _

@[simp] theorem enqueueSteps_program (ps : List Step) (n : Fin 8) (u : ScheduleUnit) :
    (enqueueSteps ps n u).program = u.program := by
  unfold enqueueSteps
  split <;> rfl

theorem takeSteps_gate {s : State} (h : TripGate s) (two : Bool) (d : List Byte) : TripGate (takeSteps two d s) := by
  unfold takeSteps takeLink
  split
  next sl _ =>
    have hqueued : TripGate { s with
        fu := s.fu.onNewest (Slot.stepsArrived (readSteps two d).length)
        su := enqueueSteps (readSteps two d) sl.number s.su } := h.of_same ⟨rfl, rfl⟩ (by simp)
    dsimp only
    repeat' split
    · exact hqueued
    · exact suFault_gate _ _
    · exact hqueued
    · exact hqueued
  next => exact h

theorem stepsEnd_gated (r : ReadResult 64) (t : Transfer) : Keeps TripGated (stepsEnd r t) := by
  intro s hs
  refine settle_gated ?_
  unfold stepsTaken
  split
  · exact takeSteps_gate hs.gate _ _
  · exact discardedRead_gate hs.gate _
  · exact suFault_gate _ _
  · exact discardedRead_gate hs.gate _

theorem takeReread_gate {s : State} (h : TripGate s) (a : Addr) : TripGate (takeReread a s) := by
  unfold takeReread
  repeat' split
  · exact h
  · exact suFault_gate _ _
  · exact h

theorem linkEnd_gated (r : ReadResult 8) (t : Transfer) : Keeps TripGated (linkEnd r t) := by
  intro s hs
  refine settle_gated ?_
  unfold linkTaken
  split
  · exact takeReread_gate hs.gate _
  · exact discardedRead_gate hs.gate _
  · exact suFault_gate _ _
  · exact discardedRead_gate hs.gate _

theorem retireEnd_gated (r : WriteResult) : Keeps TripGated (retireEnd r) := by
  intro s hs
  refine settle_gated ?_
  unfold retireTaken takeRetired retireError
  split
  · split
    · dsimp only
      split <;> exact hs.gate
    · exact hs.gate
  · exact suFault_gate _ _

/-- A context commit leaves the latch and the notice alone. -/
theorem dcbEnd_trip (r : ReadResult 64) (p : Pins) (s : State) :
    (dcbEnd r p s).gu.tripNotice = s.gu.tripNotice ∧ (dcbEnd r p s).gu.latch = s.gu.latch := by
  unfold dcbEnd takeDcb judgeShadow commitContext commitOutputs commitLines commitGuards commitQuiet
  dsimp only
  repeat' split
  all_goals simp [GuardUnit.commit]

theorem dcbEnd_gated (r : ReadResult 64) (p : Pins) : Keeps TripGated (dcbEnd r p) := by
  intro s hs
  obtain ⟨policy, hsu⟩ := dcbEnd_su r p s
  have htrip := dcbEnd_trip r p s
  unfold TripGated
  rw [htrip.1, htrip.2, hsu]
  exact hs

theorem takeLimits_gate {s : State} (h : TripGate s) (d : List Byte) : TripGate (takeLimits d s) := by
  unfold takeLimits stageLimits makeActive
  repeat' split
  · exact deliverLimits_gate (h.of_gu_su (by simp) (by simp)) _
  · exact h.of_gu_su (by simp) (by simp)
  · exact h.of_gu_su (by simp) (by simp)

theorem limitsEnd_gated (r : ReadResult 48) : Keeps TripGated (limitsEnd r) := by
  intro s hs
  unfold limitsEnd
  split
  · exact settle_gated (takeLimits_gate hs.gate _)
  · exact Keeps.gated_of_gu_su (f := fun s => grant (commandError s)) (by simp) (by simp) s hs

theorem Keeps.gated_endTransfer {p : TransferKind → Bool} {act : Transfer → State → State}
    (h : ∀ t, Keeps TripGated (act t)) : Keeps TripGated (Machine.endTransfer p act) :=
  .endTransfer (.gated_of_gu_su (by simp) (by simp)) (.gated_of_gu_su (by simp) (by simp))
    (.gated_of_gu_su (by simp) (by simp)) h

/-! ## Every step -/

theorem tripGated_stepKeeps : StepKeeps TripGated where
  queue _ _ hs := hs
  hardReset _ _ := ⟨rfl, fun _ => .inl rfl⟩
  softReset _ _ := ⟨rfl, fun _ => .inl rfl⟩
  release _ hs := hs
  irqEnable _ _ hs := hs
  eventMask _ _ hs := hs
  events _ _ hs := hs
  wake := .gated_of_gu_su (by simp) (by simp)
  argLo _ _ hs := hs
  argHi _ _ hs := hs
  refuse := .gated_of_gu_su (by simp) (by simp)
  take _ _ _ hs := hs
  loadContext := .gated_of_gu_su (by simp) (by simp)
  stageLimits := .gated_of_gu_su (by simp) (by simp)
  start := takeStart_gated
  stop := takeStop_gated
  stopAtOnce := takeStopAtOnce_gated
  pause := .gated_of_gu_su (by simp) (by simp)
  resume := .gated_of_gu_su (by simp) (by simp)
  forceLines := .gated_of_same takeForceLines_trip (by simp)
  clearTrip := takeClearTrip_gated
  journalOpen := .gated_of_gu_su (by simp) (by simp)
  journalFlush := .gated_of_gu_su (by simp) (by simp)
  journalClose := .gated_of_gu_su (by simp) (by simp)
  stamp := .gated_of_gu_su (by simp) (by simp)
  dumpTallies _ := .gated_of_gu_su (by simp) (by simp)
  unknown := .gated_of_gu_su (by simp) (by simp)
  timeRange := takeTimeRange_gated
  application := takeApplication_gated
  waitTimeout := takeWaitTimeout_gated
  deferredRise n := .gated_of_same (fun s => by unfold takeDeferredRise; split <;> simp) (by simp)
  lastFall _ := .gated_of_gu_su (by simp) (by simp)
  blankEnd := takeBlankEnd_gated
  escalation := takeEscalation_gated
  linkWatch := .gated_of_gu_su (by simp) (by simp)
  sheetRecheck := .gated_of_gu_su (by simp) (by simp)
  flushAge := .gated_of_gu_su (by simp) (by simp)
  ticked := .gated_of_gu_su (by simp) (by simp)
  advance := .gated_of_gu_su (by simp) (by simp)
  assertion := takeAssertion_gated
  deassertion n := .gated_of_same (takeDeassertion_trip n) (by simp)
  edge := takeEdge_gated
  admission := takeStepAdmission_gated
  faultRun _ _ _ hs := hs
  inputRun _ _ _ hs := hs
  busAges _ hs := hs
  sourceAges _ hs := hs
  headerRead r := .gated_endTransfer (headerEnd_gated r)
  stepRead r := .gated_endTransfer (stepsEnd_gated r)
  linkRead r := .gated_endTransfer (linkEnd_gated r)
  retireWrite r := .gated_endTransfer fun _ => retireEnd_gated r
  sheetRead r := .gated_endTransfer fun _ => .gated_of_gu_su (by simp) (by simp)
  recordWrite r := .gated_endTransfer fun _ => .gated_of_gu_su (by simp) (by simp)
  sheetWrite r := .gated_endTransfer fun _ => .gated_of_gu_su (by simp) (by simp)
  dcbRead r p := .gated_endTransfer fun _ => dcbEnd_gated r p
  limitsRead r := .gated_endTransfer fun _ => limitsEnd_gated r
  tallyWrite r := .gated_endTransfer fun _ =>
    .gated_of_gu_su (by cases r <;> simp [tallyEnd]) (by cases r <;> simp [tallyEnd])

/-- Settles O57: each event of a step keeps the gate, a trip of it being taken before it ends. -/
theorem tripGateKept : Obligations.TripGateKept := fun _ _ hs e => tripGated_stepKeeps.step hs e

end Sys2Proof.Machine
end

/-! The capacities (R47, R66, R153) and the one transfer of each requester (R33, R158): the Bus Port first, then what
events add to the FIFO, the agenda and the queue, then the requests that end an event. -/
section
namespace Sys2Proof.Machine

/-! ## The requests and the transfer of a Bus Port -/

/-- Two Bus Ports hold the same transfers, but for their addresses, their discard marks and the periods gone by. -/
def BusPort.Alike (b c : BusPort) : Prop :=
  (∀ o, (c.waiting o).map Transfer.kind = (b.waiting o).map Transfer.kind) ∧
    c.inFlight.map (fun f => (f.orphan, f.transfer.kind)) = b.inFlight.map fun f => (f.orphan, f.transfer.kind)

theorem BusPort.Alike.refl (b : BusPort) : b.Alike b := ⟨fun _ => rfl, rfl⟩

theorem BusPort.Alike.trans {a b c : BusPort} (h : a.Alike b) (k : b.Alike c) : a.Alike c :=
  ⟨fun o => (k.1 o).trans (h.1 o), k.2.trans h.2⟩

theorem BusPort.Alike.symm {b c : BusPort} (h : b.Alike c) : c.Alike b := ⟨fun o => (h.1 o).symm, h.2.symm⟩

theorem BusPort.discardIf_alike (p : TransferKind → Bool) (b : BusPort) : b.Alike (b.discardIf p) := by
  refine ⟨fun o => ?_, ?_⟩
  · cases o <;> simp [BusPort.discardIf, BusPort.waiting] <;> rfl
  · simp [BusPort.discardIf]
    rfl

theorem BusPort.period_alike (b : BusPort) : b.Alike b.period := by
  refine ⟨fun o => by cases o <;> rfl, ?_⟩
  simp [BusPort.period]
  rfl

/-- What is in flight in one is in flight in the other. -/
theorem BusPort.Alike.inFlight {b c : BusPort} (h : b.Alike c) {f : Flight} (hf : c.inFlight = some f) :
    ∃ g, b.inFlight = some g ∧ g.orphan = f.orphan ∧ g.transfer.kind = f.transfer.kind := by
  have e := h.2
  rw [hf] at e
  obtain ⟨g, hg, he⟩ := Option.map_eq_some_iff.mp e.symm
  simp only [Prod.mk.injEq] at he
  exact ⟨g, hg, he.1, he.2⟩

theorem BusPort.Alike.waiting_none {b c : BusPort} (h : b.Alike c) (o : Requester) :
    c.waiting o = none ↔ b.waiting o = none := by
  have e := h.1 o
  constructor <;> intro hn <;> simpa [hn] using e

theorem BusPort.Alike.filed {b c : BusPort} (h : b.Alike c) (hb : b.Filed) : c.Filed := by
  intro o t ht
  have e := h.1 o
  rw [ht] at e
  obtain ⟨u, hu, he⟩ := Option.map_eq_some_iff.mp e.symm
  rw [← he]
  exact hb o u hu

theorem BusPort.Alike.single {b c : BusPort} (h : b.Alike c) {o : Requester} (hb : b.single o) : c.single o := by
  intro f hf ho hk
  obtain ⟨g, hg, hgo, hgk⟩ := h.inFlight hf
  exact (h.waiting_none o).mpr (hb g hg (hgo.trans ho) (by rw [hgk]; exact hk))

theorem BusPort.Alike.outstanding {b c : BusPort} (h : b.Alike c) (o : Requester) :
    c.outstanding o = b.outstanding o := by
  have hw : (c.waiting o).isSome = (b.waiting o).isSome := by
    have e := congrArg Option.isSome (h.1 o)
    simpa using e
  have hf := h.2
  unfold BusPort.outstanding
  rw [hw]
  cases hb : b.inFlight <;> cases hc : c.inFlight <;> simp_all

/-- The steps awaited, by the kinds alone. -/
theorem stepsAwaited_eq (b : BusPort) :
    stepsAwaited b = ((b.waiting .fu).map Transfer.kind).elim 0 TransferKind.steps +
      (b.inFlight.map fun f => (f.orphan, f.transfer.kind)).elim 0 fun p => if p.1 then 0 else p.2.steps := by
  unfold stepsAwaited BusPort.waiting
  cases b.fu <;> cases b.inFlight <;> rfl

theorem BusPort.Alike.awaited {b c : BusPort} (h : b.Alike c) : stepsAwaited c = stepsAwaited b := by
  rw [stepsAwaited_eq, stepsAwaited_eq, h.1, h.2]

/-! ## Grants, requests, ends -/

/-- Only the FU awaits steps. -/
theorem TransferKind.steps_of_owner {k : TransferKind} (h : k.owner ≠ .fu) : k.steps = 0 := by
  cases k <;> simp_all [TransferKind.owner, TransferKind.steps]

/-- The three requests that an idle Bus Port may grant, or none. -/
theorem BusPort.grant_cases (b : BusPort) :
    b.grant = b ∨ (b.inFlight = none ∧
      ((∃ t, b.jw = some t ∧ b.grant = { b with inFlight := some (Flight.start t), jw := none }) ∨
        (∃ t, b.fu = some t ∧ b.grant = { b with inFlight := some (Flight.start t), fu := none }) ∨
          ∃ t, b.cp = some t ∧ b.grant = { b with inFlight := some (Flight.start t), cp := none })) := by
  unfold BusPort.grant
  split <;> simp_all

theorem BusPort.Filed.grant_awaited {b : BusPort} (h : b.Filed) : stepsAwaited b.grant = stepsAwaited b := by
  obtain e | ⟨hf, ⟨t, ht, e⟩ | ⟨t, ht, e⟩ | ⟨t, ht, e⟩⟩ := b.grant_cases <;> rw [e]
  · have hk : t.kind.steps = 0 := TransferKind.steps_of_owner (by rw [h .jw t ht]; nofun)
    simp [stepsAwaited, hf, Flight.start, hk]
  · simp [stepsAwaited, hf, ht, Flight.start]
  · have hk : t.kind.steps = 0 := TransferKind.steps_of_owner (by rw [h .cp t ht]; nofun)
    simp [stepsAwaited, hf, Flight.start, hk]

theorem BusPort.Filed.grant_single {b : BusPort} (h : b.Filed) {o : Requester} (hs : b.single o) :
    b.grant.single o := by
  obtain e | ⟨hf, ⟨t, ht, e⟩ | ⟨t, ht, e⟩ | ⟨t, ht, e⟩⟩ := b.grant_cases <;> rw [e]
  · exact hs
  · rintro f ⟨⟩ _ hk
    obtain rfl : o = .jw := hk.symm.trans (h .jw t ht)
    rfl
  · rintro f ⟨⟩ _ hk
    obtain rfl : o = .fu := hk.symm.trans (h .fu t ht)
    rfl
  · rintro f ⟨⟩ _ hk
    obtain rfl : o = .cp := hk.symm.trans (h .cp t ht)
    rfl

/-- A request changes the place of its own requester alone. -/
theorem BusPort.request_waiting (t : Transfer) (b : BusPort) (o : Requester) :
    (b.request t).waiting o = if o = t.kind.owner then some t else b.waiting o := by
  unfold BusPort.request
  cases t.kind.owner <;> cases o <;> rfl

@[simp] theorem BusPort.request_inFlight (t : Transfer) (b : BusPort) : (b.request t).inFlight = b.inFlight := by
  unfold BusPort.request
  cases t.kind.owner <;> rfl

/-- Nothing of a requester is outstanding: nothing of it waits, and what is in flight is not its own. -/
theorem BusPort.outstanding_eq_false {o : Requester} {b : BusPort} (h : b.outstanding o = false) :
    b.waiting o = none ∧ ∀ f, b.inFlight = some f → f.orphan = false → f.transfer.kind.owner ≠ o := by
  unfold BusPort.outstanding at h
  simp only [Bool.or_eq_false_iff] at h
  obtain ⟨hw, hf⟩ := h
  refine ⟨by simpa using hw, fun f hb ho hk => ?_⟩
  simp [hb, ho, hk] at hf

theorem BusPort.request_single {o : Requester} {t : Transfer} {b : BusPort} (hs : b.single o)
    (h : t.kind.owner = o → b.outstanding o = false) : (b.request t).single o := by
  intro f hf ho hk
  rw [Option.mem_def, BusPort.request_inFlight] at hf
  rw [BusPort.request_waiting]
  split
  next howner =>
    obtain ⟨_, hidle⟩ := BusPort.outstanding_eq_false (h howner.symm)
    exact absurd hk (hidle f hf ho)
  next => exact hs f hf ho hk

/-- With nothing of the FU outstanding no step is awaited. -/
theorem stepsAwaited_of_not_outstanding {b : BusPort} (h : b.outstanding .fu = false) : stepsAwaited b = 0 := by
  obtain ⟨hw, hf⟩ := BusPort.outstanding_eq_false h
  have hwaits : b.fu = none := hw
  unfold stepsAwaited
  cases hb : b.inFlight with
  | none => simp [hwaits]
  | some f =>
    cases ho : f.orphan with
    | true => simp [hwaits, ho]
    | false => simp [hwaits, ho, TransferKind.steps_of_owner (hf f hb ho)]

theorem request_awaited_of_owner {t : Transfer} (b : BusPort) (h : t.kind.owner ≠ .fu) :
    stepsAwaited (b.request t) = stepsAwaited b := by
  rw [stepsAwaited_eq, stepsAwaited_eq, BusPort.request_waiting, if_neg (Ne.symm h), BusPort.request_inFlight]

theorem request_awaited_of_fu {t : Transfer} {b : BusPort} (h : b.outstanding .fu = false) (ht : t.kind.owner = .fu) :
    stepsAwaited (b.request t) = t.kind.steps := by
  obtain ⟨hw, _⟩ := BusPort.outstanding_eq_false h
  have h0 := stepsAwaited_of_not_outstanding h
  rw [stepsAwaited_eq, hw] at h0
  rw [stepsAwaited_eq, BusPort.request_waiting, if_pos ht.symm, BusPort.request_inFlight]
  simp at h0 ⊢
  exact h0

/-! ## What an event adds -/

/-- From `s` to `t` nothing is added: the FIFO stays within its capacity, the agenda and the queue are no longer than
they were, and the Bus Port holds the same transfers. -/
structure NoMore (s t : State) : Prop where
  fifo : s.jw.fifo.length ≤ Config.fifoCapacity → t.jw.fifo.length ≤ Config.fifoCapacity
  agenda : t.su.agenda.length ≤ s.su.agenda.length
  queue : t.su.queue.length ≤ s.su.queue.length
  bus : s.bp.Alike t.bp

theorem NoMore.refl (s : State) : NoMore s s := ⟨id, le_rfl, le_rfl, .refl _⟩

theorem NoMore.trans {s t u : State} (h : NoMore s t) (k : NoMore t u) : NoMore s u :=
  ⟨k.fifo ∘ h.fifo, k.agenda.trans h.agenda, k.queue.trans h.queue, h.bus.trans k.bus⟩

/-- The last part first, where only the end of the chain is written. -/
theorem NoMore.after {s t u : State} (k : NoMore t u) (h : NoMore s t) : NoMore s u := h.trans k

theorem NoMore.of_eq {s t : State} (hjw : t.jw.fifo = s.jw.fifo) (hsu : t.su = s.su) (hbp : t.bp = s.bp) :
    NoMore s t := ⟨by rw [hjw]; exact id, by rw [hsu], by rw [hsu], by rw [hbp]; exact .refl _⟩

theorem WithinCapacity.of_noMore {s t : State} (hs : WithinCapacity s) (h : NoMore s t) : WithinCapacity t := by
  obtain ⟨hfifo, hagenda, hqueue, hjw, hfu, hfiled⟩ := hs
  refine ⟨h.fifo hfifo, h.agenda.trans hagenda, ?_, h.bus.single hjw, h.bus.single hfu, h.bus.filed hfiled⟩
  rw [h.bus.awaited]
  exact (Nat.add_le_add_right h.queue _).trans hqueue

/-- An event that adds nothing keeps the capacities. -/
theorem Keeps.of_noMore {f : State → State} (h : ∀ s, NoMore s (f s)) : Keeps WithinCapacity f :=
  fun s hs => hs.of_noMore (h s)

/-- The same before the notices or the requests that end an event. -/
theorem NoMore.foldl {α : Type} {f : State → α → State} (h : ∀ s a, NoMore s (f s a)) (l : List α) (s : State) :
    NoMore s (l.foldl f s) :=
  foldl_inv (NoMore s) f (fun t a ht => ht.trans (h t a)) l s (.refl s)

/-! ## Offers and losses (R153) -/

theorem JournalWriter.offer_within (r : Record) {j : JournalWriter} (h : j.fifo.length ≤ Config.fifoCapacity) :
    (j.offer r).fifo.length ≤ Config.fifoCapacity := by
  unfold JournalWriter.offer
  repeat' split
  next hroom =>
    simp only [List.length_append, List.length_singleton]
    exact hroom
  · exact h
  · exact h

theorem offer_noMore (r : Record) (s : State) : NoMore s (offer r s) :=
  ⟨JournalWriter.offer_within r, by simp, by simp, by simpa using .refl _⟩

theorem raise_noMore (c : Cause) (s : State) : NoMore s (raise c s) := .of_eq (by simp) (by simp) (by simp)

theorem count_noMore (c : Tally) (n : Nat) (s : State) : NoMore s (count c n s) := .of_eq (by simp) (by simp) (by simp)

theorem complete_noMore (r : Result) (s : State) : NoMore s (complete r s) := .of_eq (by simp) (by simp) (by simp)

theorem afterDraw_noMore (s : State) : NoMore s (afterDraw s) := .of_eq rfl rfl rfl

/-- The held records may be given up. -/
theorem NoMore.of_emptied {s t : State} (hjw : t.jw.fifo = []) (hsu : t.su = s.su) (hbp : t.bp = s.bp) :
    NoMore s t := ⟨by simp [hjw], by rw [hsu], by rw [hsu], by rw [hbp]; exact .refl _⟩

/-- The oldest record may leave. -/
theorem NoMore.of_written {s t : State} (hjw : t.jw.fifo = s.jw.fifo.tail) (hsu : t.su = s.su) (hbp : t.bp = s.bp) :
    NoMore s t := by
  refine ⟨fun h => ?_, by rw [hsu], by rw [hsu], by rw [hbp]; exact .refl _⟩
  rw [hjw, List.length_tail]
  omega

/-! ## The Output Stage -/

theorem suppressShoot_noMore (s : State) : NoMore s (suppressShoot s) := by
  have hstart : NoMore s { s with os := s.os.suppress, ev := s.ev.count .shootThroughs s.os.shootPairs.length } :=
    .of_eq rfl rfl rfl
  exact hstart.trans (.foldl (fun s k => offer_noMore _ s) _ _)

theorem osResolve_noMore (s : State) : NoMore s (osResolve s) := .of_eq rfl rfl rfl

theorem osEvent_noMore (f : OutputStage → OutputStage) (s : State) : NoMore s (osEvent f s) := .of_eq rfl rfl rfl

theorem makeChange_noMore (s : State) (c : Change) : NoMore s (makeChange s c) :=
  (suppressShoot_noMore { s with os := s.os.change c }).after (.of_eq rfl rfl rfl)

theorem osBatch_noMore (cs : List Change) (s : State) : NoMore s (osBatch cs s) := by
  unfold osBatch
  split
  · exact .refl s
  · exact (NoMore.foldl makeChange_noMore cs s).trans (osResolve_noMore _)

theorem osEndLevels_noMore (s : State) : NoMore s (osEndLevels s) := by
  have hstart : NoMore s { s with os := s.os.endLevels } := .of_eq rfl rfl rfl
  exact (osResolve_noMore _).after ((suppressShoot_noMore _).after hstart)

/-! ## Aborts and program ends -/

theorem fuAdmissionClosed_noMore (s : State) : NoMore s (fuAdmissionClosed s) :=
  ⟨id, le_rfl, le_rfl, BusPort.discardIf_alike _ _⟩

theorem noticeClosed_noMore (s : State) : NoMore s (noticeClosed s) := by
  unfold noticeClosed
  split
  · exact fuAdmissionClosed_noMore s
  · exact .refl s

theorem enterStopping_noMore (o : ProgramOutcome) (r : Reason) (s : State) : NoMore s (enterStopping o r s) := by
  have hstop : NoMore s (discardAgenda { noticeClosed s with su := (noticeClosed s).su.stop o r }) :=
    ⟨by simp, by simp [discardAgenda], by simp [discardAgenda, ScheduleUnit.stop],
      by simpa [discardAgenda] using (noticeClosed_noMore s).bus⟩
  unfold enterStopping
  dsimp only
  split
  · exact hstop.trans (osEndLevels_noMore _)
  · exact hstop

theorem suFault_noMore (r : Reason) (s : State) : NoMore s (suFault r s) := by
  unfold suFault
  split
  · exact enterStopping_noMore _ _ s
  · exact .refl s

theorem takeTripAbort_noMore (s : State) : NoMore s (takeTripAbort s) := by
  unfold takeTripAbort
  split
  · exact enterStopping_noMore _ _ s
  · exact .refl s

theorem coverLines_noMore (m : Half) (s : State) : NoMore s (coverLines m s) := osEvent_noMore _ s

theorem deliverTrip_noMore (s : State) : NoMore s (deliverTrip s) := by
  unfold deliverTrip
  split
  · exact .refl s
  · have hdrawn : NoMore s (afterDraw { s with gu := { s.gu with tripNotice := none } }) := .of_eq rfl rfl rfl
    dsimp only
    split
    · exact hdrawn.trans ((takeTripAbort_noMore _).trans (coverLines_noMore _ _))
    · exact hdrawn.trans ((coverLines_noMore _ _).trans (takeTripAbort_noMore _))

theorem escalateTrip_noMore (n : Fin 4) (s : State) : NoMore s (escalateTrip n s) :=
  .of_eq (by simp) (by simp) (by simp)

theorem escalate_noMore (n : Fin 4) (s : State) : NoMore s (escalate n s) := by
  unfold escalate reportEscalation
  exact (count_noMore _ _ _).after ((raise_noMore _ _).after ((raise_noMore _ _).after ((count_noMore _ _ _).after
    ((offer_noMore _ _).after (escalateTrip_noMore n s)))))

theorem judgeHold_noMore (s : State) (n : Fin 4) : NoMore s (judgeHold s n) := by
  unfold judgeHold
  split
  · exact escalate_noMore n s
  · exact .refl s

theorem guNewLimits_noMore (m : Limits) (s : State) : NoMore s (guNewLimits m s) := by
  have hset : NoMore s { s with gu := s.gu.setLimits m } := .of_eq rfl rfl rfl
  exact hset.trans (.foldl judgeHold_noMore (List.finRange 4) _)

theorem deliverLimits_noMore (m : Limits) (s : State) : NoMore s (deliverLimits m s) := by
  unfold deliverLimits osNewDeadTimes
  split
  · exact (osEvent_noMore _ _).after ((guNewLimits_noMore m _).after (afterDraw_noMore s))
  · exact (guNewLimits_noMore m _).after ((osEvent_noMore _ _).after (afterDraw_noMore s))

theorem applyStaged_noMore (s : State) : NoMore s (applyStaged s) := by
  unfold applyStaged
  split
  · exact (offer_noMore _ _).after (.of_eq rfl rfl rfl)
  · exact .refl s

theorem completeStop_noMore (b : Bool) (s : State) : NoMore s (completeStop b s) :=
  .of_eq (by simp) (by simp) (by simp)

theorem programEnd_noMore (b : Bool) (s : State) : NoMore s (programEnd b s) := by
  have hidle : NoMore s { s with su := { s.su with program := .idle, retireIncomplete := b } } :=
    ⟨id, le_rfl, le_rfl, .refl _⟩
  have happlied := (applyStaged_noMore _).after hidle
  unfold programEnd
  dsimp only
  split
  · exact (deliverLimits_noMore _ _).after ((completeStop_noMore b _).after
      ((raise_noMore .programEnd _).after ((offer_noMore _ _).after happlied)))
  · exact (completeStop_noMore b _).after ((raise_noMore .programEnd _).after ((offer_noMore _ _).after happlied))

theorem takeRetirementDone_noMore (s : State) : NoMore s (takeRetirementDone s) := by
  unfold takeRetirementDone
  split
  · split
    · exact (programEnd_noMore _ _).after (.of_eq rfl rfl rfl)
    · exact .refl s
  · exact .refl s

theorem reportStarved_noMore (s : State) : NoMore s (reportStarved s) := .of_eq (by simp) (by simp) (by simp)

theorem fuEvaluate_noMore (s : State) : NoMore s (fuEvaluate s) := .of_eq (by simp) (by simp) (by simp)

theorem takeNotices_noMore (s : State) : NoMore s (takeNotices s) := by
  unfold takeNotices
  exact (reportStarved_noMore _).after ((deliverTrip_noMore _).after ((takeRetirementDone_noMore _).after
    ((fuEvaluate_noMore _).after (deliverTrip_noMore s))))

/-! ## The requests that end an event -/

theorem grant_within : Keeps WithinCapacity grant := by
  intro s ⟨hfifo, hagenda, hqueue, hjw, hfu, hfiled⟩
  refine ⟨by simpa using hfifo, by simpa using hagenda, ?_, hfiled.grant_single hjw, hfiled.grant_single hfu,
    hfiled.grant⟩
  rw [grant_bp, hfiled.grant_awaited]
  simpa using hqueue

/-- A request of the JW or the CP keeps the capacities, the JW's if it has none outstanding. -/
theorem request_within {s : State} (hs : WithinCapacity s) (k : TransferKind) (a : Addr) (hfu : k.owner ≠ .fu)
    (hjw : k.owner = .jw → s.bp.outstanding .jw = false) : WithinCapacity (request k a s) := by
  obtain ⟨hfifo, hagenda, hqueue, hsjw, hsfu, hfiled⟩ := hs
  refine ⟨by simpa using hfifo, by simpa using hagenda, ?_, BusPort.request_single hsjw hjw,
    BusPort.request_single hsfu fun h => absurd h hfu, hfiled.request _⟩
  rw [request_bp, request_awaited_of_owner _ hfu]
  simpa using hqueue

/-- A request of an FU that has none outstanding keeps the capacities if the queue has room for its steps. -/
theorem request_within_of_fu {s : State} (hs : WithinCapacity s) (k : TransferKind) (a : Addr) (hk : k.owner = .fu)
    (hfree : s.bp.outstanding .fu = false) (hroom : s.su.queue.length + k.steps ≤ Config.queueCapacity) :
    WithinCapacity (request k a s) := by
  obtain ⟨hfifo, hagenda, hqueue, hsjw, hsfu, hfiled⟩ := hs
  have hother : k.owner = .jw → s.bp.outstanding .jw = false := by simp [hk]
  refine ⟨by simpa using hfifo, by simpa using hagenda, ?_, BusPort.request_single hsjw hother,
    BusPort.request_single hsfu fun _ => hfree, hfiled.request _⟩
  rw [request_bp, request_awaited_of_fu hfree hk]
  simpa using hroom

theorem finishClose_within {s : State} (hs : WithinCapacity s) (hfree : s.bp.outstanding .jw = false) (h : OpenSheet) :
    WithinCapacity (finishClose h s) := by
  unfold finishClose
  split
  · exact hs.of_noMore (.of_eq rfl rfl rfl)
  · exact request_within (hs.of_noMore (.of_eq rfl rfl rfl)) _ _ nofun fun _ => hfree

theorem writeNext_within {s : State} (hs : WithinCapacity s) (hfree : s.bp.outstanding .jw = false) (h : OpenSheet) :
    WithinCapacity (writeNext h s) := by
  unfold writeNext
  split
  · exact request_within hs _ _ nofun fun _ => hfree
  · exact request_within (hs.of_noMore (.of_eq rfl rfl rfl)) _ _ nofun fun _ => hfree
  · split
    · exact finishClose_within hs hfree h
    · exact hs

theorem jwPump_within : Keeps WithinCapacity jwPump := by
  intro s hs
  unfold jwPump
  split
  · exact hs
  next hout =>
    have hfree : s.bp.outstanding .jw = false := by simpa using hout
    split
    · exact request_within hs _ _ nofun fun _ => hfree
    · split
      · exact request_within (hs.of_noMore (.of_eq rfl rfl rfl)) _ _ nofun fun _ => hfree
      · exact hs
    · exact writeNext_within hs hfree _
    · exact writeNext_within hs hfree _
    · exact request_within hs _ _ nofun fun _ => hfree
    · exact hs
    · exact hs
    · exact hs

theorem WithinCapacity.queue_le {s : State} (hs : WithinCapacity s) : s.su.queue.length ≤ Config.queueCapacity :=
  (Nat.le_add_right _ _).trans hs.2.2.1

theorem requestSteps_within {s : State} (hs : WithinCapacity s) (hfree : s.bp.outstanding .fu = false) (sl : Slot) :
    WithinCapacity (requestSteps sl s) := by
  unfold requestSteps queueRoom
  split
  · exact hs
  · refine request_within_of_fu hs _ _ rfl hfree ?_
    simp only [TransferKind.steps, decide_eq_true_eq]
    split <;> omega

theorem requestHeader_within {s : State} (hs : WithinCapacity s) (hfree : s.bp.outstanding .fu = false) :
    WithinCapacity (requestHeader s) := by
  unfold requestHeader
  repeat' split
  · exact request_within_of_fu (hs.of_noMore (.of_eq rfl rfl rfl)) _ _ rfl hfree hs.queue_le
  · exact hs
  · exact hs

theorem requestRead_within {s : State} (hs : WithinCapacity s) (hfree : s.bp.outstanding .fu = false) :
    WithinCapacity (requestRead s) := by
  unfold requestRead requestLink
  split
  · split
    · split
      · exact requestSteps_within hs hfree _
      · exact requestHeader_within hs hfree
    · exact requestHeader_within hs hfree
  · repeat' split
    · exact request_within_of_fu (hs.of_noMore (.of_eq rfl rfl rfl)) _ _ rfl hfree hs.queue_le
    · exact hs
    · exact hs
  · exact hs
  · exact hs

theorem fuPump_within : Keeps WithinCapacity fuPump := by
  intro s hs
  unfold fuPump requestRetire
  split
  · exact hs
  next hout =>
    have hfree : s.bp.outstanding .fu = false := by simpa using hout
    split
    · split
      · exact request_within_of_fu hs _ _ rfl hfree hs.queue_le
      · exact requestRead_within hs hfree
    · exact requestRead_within hs hfree

theorem jwRun_within : Keeps WithinCapacity jwRun := fun s hs => grant_within _ (jwPump_within s hs)

theorem pump_within : Keeps WithinCapacity pump := fun s hs => grant_within _ (fuPump_within _ (jwPump_within s hs))

theorem settle_within : Keeps WithinCapacity settle := fun s hs => pump_within _ (hs.of_noMore (takeNotices_noMore s))

/-! ## Applications -/

theorem applyEntry_noMore (s : State) (e : Entry) : NoMore s (applyEntry s e) := by
  have hcount := count_noMore .agendaApplications 1 s
  unfold applyEntry
  refine hcount.trans (NoMore.trans ?_ (.of_eq (s := applyKind e (count .agendaApplications 1 s)) ?_ ?_ ?_))
  · unfold applyKind applyMark applyLimitsEntry
    split <;> try exact .refl _
    · dsimp only
      split
      · exact (offer_noMore _ _).trans (raise_noMore _ _)
      · exact offer_noMore _ _
    · split
      · exact applyStaged_noMore _
      · exact offer_noMore _ _
    · refine ⟨id, ?_, ?_, .refl _⟩ <;> (unfold ScheduleUnit.applyEnd; dsimp only; split <;> exact le_rfl)
  all_goals simp

theorem drainEnd_noMore (s : State) : NoMore s (drainEnd s) := by
  unfold drainEnd
  split
  · exact enterStopping_noMore _ _ s
  · exact .refl s

theorem applyEntries_noMore (s : State) : NoMore s (applyEntries s) := by
  have hagenda : NoMore s { s with su := { s.su with agenda := appliedAgenda s } } :=
    ⟨id, List.length_filterMap_le _ _, le_rfl, .refl _⟩
  rw [applyEntries_eq]
  exact hagenda.trans ((NoMore.foldl applyEntry_noMore _ _).trans (drainEnd_noMore _))

theorem deliverTaken_noMore (taken : Bool) (s : State) : NoMore s (deliverTaken taken s) := by
  unfold deliverTaken
  split
  · exact deliverLimits_noMore _ s
  · exact .refl s

theorem deliverBatch_noMore (cs : List Change) (taken : Bool) (s : State) : NoMore s (deliverBatch cs taken s) := by
  unfold deliverBatch
  split
  · exact (afterDraw_noMore s).trans ((deliverTaken_noMore _ _).trans (osBatch_noMore _ _))
  · have hdraw : NoMore s (if taken then afterDraw s else s) := by
      split
      · exact afterDraw_noMore s
      · exact .refl s
    exact hdraw.trans ((osBatch_noMore _ _).trans (deliverTaken_noMore _ _))

theorem applyDue_noMore (s : State) : NoMore s (applyDue s) := by
  unfold applyDue
  split
  · exact (applyEntries_noMore s).trans (deliverBatch_noMore _ _ _)
  · exact .refl s

theorem takeApplication_within : Keeps WithinCapacity takeApplication := by
  intro s hs
  unfold takeApplication
  split
  · exact settle_within _ (hs.of_noMore (applyDue_noMore s))
  · exact hs

/-! ## Admissions -/

/-- An admitted step leaves the queue, and its entry finds room in the agenda. -/
theorem numberStep_within {s : State} (hs : WithinCapacity s) (q : QueuedStep) (e : Option Entry) (isEnd : Bool)
    (hroom : e.isSome = true → s.su.agenda.length < Config.agendaCapacity) : WithinCapacity (numberStep q e isEnd s) := by
  obtain ⟨hfifo, hagenda, hqueue, hjw, hfu, hfiled⟩ := hs
  refine ⟨by simpa using hfifo, ?_, ?_, by simpa using hjw, by simpa using hfu, by simpa using hfiled⟩
  · cases e with
    | none => simpa using hagenda
    | some e => simpa using hroom rfl
  · simp only [numberStep_su, numberStep_frame, List.length_tail]
    omega

theorem closeAdmission_noMore (s : State) : NoMore s (closeAdmission s) := by
  refine NoMore.trans (t := { s with su := { s.su with admissionOpen := false, queue := [], waiter := none } }) ?_
    (fuAdmissionClosed_noMore _)
  exact ⟨id, le_rfl, Nat.zero_le _, .refl _⟩

theorem setCursor_noMore (t : Nat) (s : State) : NoMore s (setCursor t s) := ⟨id, le_rfl, le_rfl, .refl _⟩

theorem entryAdmitted_within {s : State} (hs : WithinCapacity s) (hroom : s.su.agenda.length < Config.agendaCapacity)
    (q : QueuedStep) (k : StepKind) (ek : EntryKind) (due : Time) : WithinCapacity (entryAdmitted q k ek due s) := by
  have hnumbered := (numberStep_within hs q (some (entryOf q ek due s)) (k == .endProgram) fun _ => hroom).of_noMore
    (setCursor_noMore (dueOf s q.step + cursorStep k q.step) _)
  unfold entryAdmitted
  dsimp only
  split
  · exact hnumbered.of_noMore (closeAdmission_noMore _)
  · exact hnumbered

theorem admitEntry_within {s : State} (hs : WithinCapacity s) (hroom : s.su.agenda.length < Config.agendaCapacity)
    (q : QueuedStep) (k : StepKind) (ek : EntryKind) (due : Time) : WithinCapacity (admitEntry q k ek due s) := by
  have hadmitted := entryAdmitted_within hs hroom q k ek due
  rw [admitEntry_eq]
  split
  · exact hadmitted.of_noMore (applyDue_noMore _)
  · exact hadmitted

theorem reportLate_noMore (q : QueuedStep) (flags : Nat) (s : State) : NoMore s (reportLate q flags s) :=
  (offer_noMore _ s).trans (raise_noMore _ _)

theorem admitLate_within {s : State} (hs : WithinCapacity s) (hroom : s.su.agenda.length < Config.agendaCapacity)
    (q : QueuedStep) (k : StepKind) (ek : EntryKind) : WithinCapacity (admitLate q k ek s) := by
  unfold admitLate admitDropped
  split
  · exact admitEntry_within (hs.of_noMore ((reportLate_noMore q 1 s).trans (count_noMore _ _ _)))
      (by simpa using hroom) q k ek _
  · exact (numberStep_within (hs.of_noMore ((reportLate_noMore q 2 s).trans (count_noMore _ _ _))) q none false
      nofun).of_noMore (setCursor_noMore _ _)
  · exact (hs.of_noMore (reportLate_noMore q 0 s)).of_noMore (suFault_noMore _ _)

/-- A kind that has an entry needs room for it (R38, R48). -/
theorem needsEntry_of_entryKind {k : StepKind} {ek : EntryKind} (h : k.entryKind = some ek) :
    needsEntry (some k) = true := by
  cases k <;> simp [StepKind.entryKind] at h <;> rfl

theorem admitChecked_within {s : State} (hs : WithinCapacity s) (q : QueuedStep) (k : StepKind)
    (hroom : needsEntry (some k) = true → s.su.agenda.length < Config.agendaCapacity) :
    WithinCapacity (admitChecked q k s) := by
  unfold admitChecked admitValid admitTimed admitAnchor
  split
  · split
    next ek hk =>
      have hfree := hroom (needsEntry_of_entryKind hk)
      split
      · exact admitLate_within hs hfree q k ek
      · exact admitEntry_within hs hfree q k ek _
    next => exact (numberStep_within hs q none false nofun).of_noMore ⟨id, le_rfl, le_rfl, .refl _⟩
  · exact hs.of_noMore (suFault_noMore _ _)

theorem admitStep_within {s : State} (hs : WithinCapacity s) (q : QueuedStep)
    (hroom : needsEntry (stepKindOf q.step.kind) = true → s.su.agenda.length < Config.agendaCapacity) :
    WithinCapacity (admitStep q s) := by
  unfold admitStep admitWaitStep admitWait
  split
  · exact hs.of_noMore (suFault_noMore _ _)
  · split
    · exact (numberStep_within hs q none false nofun).of_noMore ⟨id, le_rfl, le_rfl, .refl _⟩
    · exact hs.of_noMore (suFault_noMore _ _)
  next k _ hk => exact admitChecked_within hs q k fun h => hroom (by rw [hk]; exact h)

theorem takeStepAdmission_within : Keeps WithinCapacity takeStepAdmission := by
  intro s hs
  have happlied := takeApplication_within s hs
  unfold takeStepAdmission admitHead
  split
  next q _ _ =>
    split
    next hmay =>
      refine settle_within _ (admitStep_within happlied q fun hneeds => ?_)
      simp only [mayAdmit, hneeds, Bool.and_eq_true] at hmay
      simpa using hmay.2
    next => exact happlied
  next => exact happlied

/-! ## The waiter, the time range, edges, fault inputs -/

theorem endWait_noMore (w : Waiter) (s : State) : NoMore s (endWait w s) := by
  have hoffer := offer_noMore (waitRecord s w.channel true) s
  unfold endWait
  dsimp only
  split
  · exact (suFault_noMore _ _).after (hoffer.trans ⟨id, le_rfl, le_rfl, .refl _⟩)
  · exact hoffer.trans ⟨id, le_rfl, le_rfl, .refl _⟩

theorem takeWaitTimeout_within : Keeps WithinCapacity takeWaitTimeout := by
  intro s hs
  unfold takeWaitTimeout
  repeat' split
  · exact settle_within _ (hs.of_noMore (endWait_noMore _ s))
  · exact hs
  · exact hs

theorem takeTimeRange_within : Keeps WithinCapacity takeTimeRange := by
  intro s hs
  unfold takeTimeRange
  split
  · exact settle_within _ (hs.of_noMore ((suFault_noMore _ _).after (.of_eq rfl rfl rfl)))
  · exact hs

theorem suEdgeNotice_noMore (ch : Fin 16) (e : Edge) (s : State) : NoMore s (suEdgeNotice ch e s) := by
  unfold suEdgeNotice
  split
  · exact (offer_noMore _ _).after ⟨id, le_rfl, le_rfl, .refl _⟩
  · exact .refl s

theorem offerSome_noMore (r : Option Record) (s : State) : NoMore s (offerSome r s) := by
  cases r with
  | none => exact .refl s
  | some r => exact offer_noMore r s

theorem recognizeEdge_noMore (n : Fin 16) (e : Edge) (s : State) : NoMore s (recognizeEdge n e s) := by
  unfold recognizeEdge noticeEdge
  split
  · exact (suEdgeNotice_noMore n e _).after ((offerSome_noMore _ _).after (.of_eq rfl rfl rfl))
  · exact (offerSome_noMore _ _).after ((suEdgeNotice_noMore n e _).after (.of_eq rfl rfl rfl))

theorem takeEdge_within (n : Fin 16) (e : Edge) : Keeps WithinCapacity (takeEdge n e) := by
  intro s hs
  unfold takeEdge
  split
  · exact settle_within _ ((takeWaitTimeout_within s hs).of_noMore (recognizeEdge_noMore n e _))
  · exact hs

theorem reportActivation_noMore (n : Fin 4) (s : State) : NoMore s (reportActivation n s) := by
  unfold reportActivation
  split
  · exact (count_noMore _ _ _).after ((count_noMore _ _ _).after ((raise_noMore _ _).after ((raise_noMore _ _).after
      (offer_noMore _ s))))
  · exact (count_noMore _ _ _).after ((raise_noMore _ _).after (offer_noMore _ s))

theorem activate_noMore (n : Fin 4) (s : State) : NoMore s (activate n s) := by
  unfold activate
  exact NoMore.trans (t := tripIfTrip n (activateInput n s)) (.of_eq (by simp) (by simp) (by simp))
    ((reportActivation_noMore n _).trans (.of_eq (by simp) (by simp) (by simp)))

theorem notifyRelease_noMore (n : Fin 4) (s : State) : NoMore s (notifyRelease n s) :=
  .of_eq (by simp) (by simp) (by simp)

theorem release_noMore (n : Fin 4) (s : State) : NoMore s (release n s) := by
  unfold release reportRelease
  have hinput : NoMore s (releaseInput n s) := .of_eq (by simp) (by simp) (by simp)
  exact (notifyRelease_noMore n _).after ((offer_noMore _ _).after hinput)

theorem takeBlankEnd_within (n : Fin 4) : Keeps WithinCapacity (takeBlankEnd n) := by
  intro s hs
  have hclear : NoMore s (clearBlank n s) := .of_eq (by simp) (by simp) (by simp)
  unfold takeBlankEnd endBlank judgeBlanked
  split
  · split
    · exact settle_within _ (hs.of_noMore (hclear.trans (activate_noMore n _)))
    · exact settle_within _ (hs.of_noMore hclear)
  · exact hs

theorem takeEscalation_within (n : Fin 4) : Keeps WithinCapacity (takeEscalation n) := by
  intro s hs
  unfold takeEscalation
  split
  · exact settle_within _ (hs.of_noMore (escalate_noMore n s))
  · exact hs

theorem takeAssertion_within (n : Fin 4) : Keeps WithinCapacity (takeAssertion n) := by
  intro s hs
  have hlevel : NoMore s (levelAsserted n s) := .of_eq (by simp) (by simp) (by simp)
  unfold takeAssertion recognizeAssertion
  split
  · split
    · exact settle_within _ (hs.of_noMore (hlevel.trans (activate_noMore n _)))
    · exact settle_within _ (hs.of_noMore hlevel)
  · exact hs

theorem takeDeassertion_within (n : Fin 4) : Keeps WithinCapacity (takeDeassertion n) := by
  intro s hs
  have hlevel : NoMore s (levelDeasserted n s) := .of_eq (by simp) (by simp) (by simp)
  unfold takeDeassertion recognizeDeassertion
  split
  · split
    · exact jwRun_within _ (hs.of_noMore (hlevel.trans (release_noMore n _)))
    · exact jwRun_within _ (hs.of_noMore hlevel)
  · exact hs

/-! ## Intervals and commands -/

theorem takeLinkWatch_within : Keeps WithinCapacity takeLinkWatch := by
  intro s hs
  unfold takeLinkWatch
  split
  · exact grant_within _ (fuPump_within _ (hs.of_noMore (.of_eq rfl rfl rfl)))
  · exact hs

theorem takeSheetRecheck_within : Keeps WithinCapacity takeSheetRecheck := by
  intro s hs
  unfold takeSheetRecheck
  split
  · exact jwRun_within _ (hs.of_noMore (.of_eq rfl rfl rfl))
  · exact hs

theorem takeFlushAge_within : Keeps WithinCapacity takeFlushAge := by
  intro s hs
  unfold takeFlushAge
  split
  · exact jwRun_within _ (hs.of_noMore (.of_eq rfl rfl rfl))
  · exact hs

theorem complete_within (r : Result) : Keeps WithinCapacity (complete r) := .of_noMore (complete_noMore r)

theorem writeWake_within : Keeps WithinCapacity writeWake := by
  intro s hs
  refine pump_within _ (hs.of_noMore (.of_eq ?_ rfl rfl))
  unfold JournalWriter.wake
  dsimp only
  split <;> rfl

/-- A request of the CP, granted if the Bus Port is idle. -/
theorem cpRequest_within {s : State} (hs : WithinCapacity s) (k : TransferKind) (a : Addr) (hk : k.owner = .cp) :
    WithinCapacity (grant (request k a s)) :=
  grant_within _ (request_within hs k a (by rw [hk]; nofun) (by rw [hk]; nofun))

theorem takeLoadContext_within : Keeps WithinCapacity takeLoadContext := by
  intro s hs
  unfold takeLoadContext
  repeat' split
  · exact complete_within _ s hs
  · exact complete_within _ s hs
  · exact cpRequest_within (hs.of_noMore (.of_eq rfl rfl rfl)) _ _ rfl

theorem takeStageLimits_within : Keeps WithinCapacity takeStageLimits := by
  intro s hs
  unfold takeStageLimits
  repeat' split
  · exact complete_within _ s hs
  · exact complete_within _ s hs
  · exact cpRequest_within hs _ _ rfl

theorem takeDumpTallies_within (op : Half) : Keeps WithinCapacity (takeDumpTallies op) := by
  intro s hs
  unfold takeDumpTallies
  split
  · exact complete_within _ s hs
  · exact cpRequest_within (hs.of_noMore (.of_eq rfl rfl rfl)) _ _ rfl

theorem takeStart_within : Keeps WithinCapacity takeStart := by
  intro s hs
  unfold takeStart startAt
  repeat' split
  · exact complete_within _ s hs
  · exact complete_within _ s hs
  · exact complete_within _ s hs
  · exact complete_within _ s hs
  · refine settle_within _ (complete_within _ _ (WithinCapacity.of_noMore ?_ (offer_noMore _ _)))
    exact hs.of_noMore ⟨id, Nat.zero_le _, Nat.zero_le _, .refl _⟩

theorem takeDrain_within : Keeps WithinCapacity takeDrain := by
  intro s hs
  unfold takeDrain drainProgram
  split
  · exact complete_within _ s hs
  · exact complete_within _ s hs
  · exact complete_within _ s hs
  · refine settle_within _ (WithinCapacity.of_noMore (complete_within _ _ ?_) (drainEnd_noMore _))
    exact (hs.of_noMore (closeAdmission_noMore s)).of_noMore ⟨id, le_rfl, le_rfl, .refl _⟩

theorem takeStopAtOnce_within : Keeps WithinCapacity takeStopAtOnce := by
  intro s hs
  unfold takeStopAtOnce
  split
  · exact complete_within _ s hs
  · exact complete_within _ s hs
  · exact settle_within _ (hs.of_noMore (enterStopping_noMore _ _ s))
  · exact settle_within _ (hs.of_noMore (enterStopping_noMore _ _ s))

theorem takeStop_within (op : Half) : Keeps WithinCapacity (takeStop op) := by
  intro s hs
  unfold takeStop
  repeat' split
  · exact takeDrain_within s hs
  · exact takeStopAtOnce_within s hs
  · exact complete_within _ s hs

theorem clearLatch_noMore (s : State) : NoMore s (clearLatch s) := by
  have hclear : NoMore s { s with gu := s.gu.clearTrip } := .of_eq rfl rfl rfl
  exact (osEvent_noMore _ _).after ((offer_noMore _ _).after hclear)

theorem takeClearTrip_within : Keeps WithinCapacity takeClearTrip := by
  intro s hs
  unfold takeClearTrip
  repeat' split
  · exact complete_within _ s hs
  · exact complete_within _ s hs
  · exact jwRun_within _ (complete_within _ _ (hs.of_noMore (clearLatch_noMore s)))

theorem takeJournalOpen_within : Keeps WithinCapacity takeJournalOpen := by
  intro s hs
  unfold takeJournalOpen
  repeat' split
  · exact complete_within _ s hs
  · exact complete_within _ s hs
  · exact jwRun_within _ (complete_within _ _ (hs.of_noMore (.of_eq rfl rfl rfl)))

theorem takeJournalFlush_within : Keeps WithinCapacity takeJournalFlush := by
  intro s hs
  unfold takeJournalFlush
  repeat' split
  · exact complete_within _ s hs
  · exact jwRun_within _ (hs.of_noMore (.of_eq rfl rfl rfl))
  · exact complete_within _ s hs

theorem loseHeld_noMore (s : State) : NoMore s (loseHeld s) := .of_emptied rfl (by simp) (by simp)

theorem discardSheetRead_noMore (s : State) : NoMore s (discardSheetRead s) :=
  ⟨id, le_rfl, le_rfl, BusPort.discardIf_alike _ _⟩

theorem endClose_noMore (r : Result) (s : State) : NoMore s (endClose r s) := .of_eq rfl (by simp) (by simp)

theorem takeJournalClose_within : Keeps WithinCapacity takeJournalClose := by
  intro s hs
  unfold takeJournalClose closeSeeking
  split
  · exact complete_within _ s hs
  · exact jwRun_within _ (hs.of_noMore (.of_eq rfl rfl rfl))
  · exact jwRun_within _ (hs.of_noMore (.of_eq rfl rfl rfl))
  · exact jwRun_within _ (hs.of_noMore ((discardSheetRead_noMore _).after (.of_emptied rfl (by simp) (by simp))))
  · exact hs.of_noMore ((endClose_noMore _ _).after ((discardSheetRead_noMore _).after (loseHeld_noMore s)))
  · exact hs.of_noMore (.of_emptied rfl (by simp) (by simp))

theorem takeStamp_within : Keeps WithinCapacity takeStamp := by
  intro s hs
  unfold takeStamp
  split
  · exact jwRun_within _ (complete_within _ _ (hs.of_noMore (offer_noMore _ s)))
  · exact complete_within _ s hs

theorem BusPort.afterReset_single (b : BusPort) (o : Requester) : b.afterReset.single o := by
  intro f _ _ _
  cases o <;> rfl

theorem stepsAwaited_afterReset (b : BusPort) : stepsAwaited b.afterReset = 0 := by
  unfold stepsAwaited BusPort.afterReset
  cases b.inFlight <;> rfl

/-- After a reset nothing is held or queued, and no step is awaited. -/
theorem reset_within {s t : State} (hjw : t.jw = JournalWriter.reset) (hsu : t.su = ScheduleUnit.reset)
    (hbp : t.bp = s.bp.afterReset) : WithinCapacity t := by
  refine ⟨by rw [hjw]; decide, by rw [hsu]; decide, ?_, ?_, ?_, ?_⟩
  · rw [hsu, hbp, stepsAwaited_afterReset]
    decide
  · rw [hbp]
    exact BusPort.afterReset_single _ _
  · rw [hbp]
    exact BusPort.afterReset_single _ _
  · rw [hbp]
    exact .afterReset _

/-! ## Ends of transfers -/

/-- The Bus Port is freed: what was in flight is awaited no more. -/
theorem freeBus_within : Keeps WithinCapacity freeBus := by
  intro s ⟨hfifo, hagenda, hqueue, hjw, hfu, hfiled⟩
  refine ⟨hfifo, hagenda, ?_, nofun, nofun, hfiled.inFlight none⟩
  have hless : stepsAwaited (freeBus s).bp ≤ stepsAwaited s.bp := by simp [stepsAwaited]
  exact (Nat.add_le_add_left hless _).trans hqueue

theorem Keeps.within_endTransfer {p : TransferKind → Bool} {act : Transfer → State → State}
    (h : ∀ t, Keeps WithinCapacity (act t)) : Keeps WithinCapacity (Machine.endTransfer p act) :=
  .endTransfer freeBus_within grant_within (.of_noMore afterDraw_noMore) h

theorem busErrorRaised_noMore (s : State) : NoMore s (busErrorRaised s) := .of_eq (by simp) (by simp) (by simp)

theorem discardedRead_noMore (ok : Bool) (s : State) : NoMore s (discardedRead ok s) := by
  cases ok
  · exact busErrorRaised_noMore s
  · exact .refl s

theorem fetchError_noMore (s : State) : NoMore s (fetchError s) := (busErrorRaised_noMore s).trans (suFault_noMore _ _)

theorem headerTaken_noMore (r : ReadResult 32) (t : Transfer) (s : State) : NoMore s (headerTaken r t s) := by
  unfold headerTaken takeHeader
  split
  · dsimp only
    split
    · exact (suFault_noMore _ _).after (.of_eq rfl rfl rfl)
    · exact .of_eq rfl rfl rfl
  · exact discardedRead_noMore _ s
  · exact fetchError_noMore s
  · exact discardedRead_noMore _ s

theorem takeLink_noMore (s : State) : NoMore s (takeLink s) := by
  unfold takeLink
  repeat' split
  · exact .of_eq rfl rfl rfl
  · exact suFault_noMore _ s
  · exact .of_eq rfl rfl rfl

theorem enqueueSteps_length (ps : List Step) (n : Fin 8) (u : ScheduleUnit) :
    (enqueueSteps ps n u).queue.length ≤ u.queue.length + ps.length ∧ (enqueueSteps ps n u).agenda = u.agenda := by
  unfold enqueueSteps
  split <;> simp

theorem readSteps_length (two : Bool) (d : List Byte) : (readSteps two d).length = (TransferKind.stepRead two).steps := by
  cases two <;> rfl

/-- The steps of a read find the places in the queue that were kept for them. -/
theorem takeSteps_within {s : State} (hs : WithinCapacity s) (two : Bool) (d : List Byte)
    (hroom : s.su.queue.length + (TransferKind.stepRead two).steps + stepsAwaited s.bp ≤ Config.queueCapacity) :
    WithinCapacity (takeSteps two d s) := by
  unfold takeSteps
  split
  next sl _ =>
    have hqueued : WithinCapacity { s with
        fu := s.fu.onNewest (Slot.stepsArrived (readSteps two d).length)
        su := enqueueSteps (readSteps two d) sl.number s.su } := by
      obtain ⟨hfifo, hagenda, _, hjw, hfu, hfiled⟩ := hs
      obtain ⟨hqueue, hsame⟩ := enqueueSteps_length (readSteps two d) sl.number s.su
      refine ⟨hfifo, by simpa [hsame] using hagenda, ?_, hjw, hfu, hfiled⟩
      rw [readSteps_length] at hqueue
      exact (Nat.add_le_add_right hqueue _).trans hroom
    dsimp only
    split
    · exact hqueued.of_noMore (takeLink_noMore _)
    · exact hqueued
  next => exact hs

/-- The end of a step read: the steps in flight are awaited no more, and enter the queue. -/
theorem stepRead_within (r : ReadResult 64) :
    Keeps WithinCapacity (Machine.endTransfer TransferKind.isStepRead (stepsEnd r)) := by
  intro s hs
  obtain e | ⟨f, hf, hk, ⟨_, e⟩ | ⟨ho, e⟩⟩ := endTransfer_cases TransferKind.isStepRead (stepsEnd r) s <;> rw [e]
  · exact hs
  · exact grant_within _ (freeBus_within s hs)
  · obtain ⟨two, htwo⟩ : ∃ two, f.transfer.kind = .stepRead two := by
      cases hkind : f.transfer.kind with
      | stepRead two => exact ⟨two, rfl⟩
      | _ => simp [hkind, TransferKind.isStepRead] at hk
    have hfree := freeBus_within s hs
    have hfirst : WithinCapacity (grantFirst (freeBus s)) := by
      unfold grantFirst
      split
      · exact grant_within _ hfree
      · exact hfree
    have hawaited : stepsAwaited (grantFirst (freeBus s)).bp = stepsAwaited (freeBus s).bp := by
      obtain ⟨_, _, _, _, _, hfiled⟩ := hfree
      unfold grantFirst
      split
      · exact hfiled.grant_awaited
      · rfl
    have hroom : s.su.queue.length + (TransferKind.stepRead two).steps + stepsAwaited (freeBus s).bp ≤
        Config.queueCapacity := by
      obtain ⟨_, _, hqueue, _⟩ := hs
      have hsplit : stepsAwaited s.bp = stepsAwaited (freeBus s).bp + (TransferKind.stepRead two).steps := by
        simp [stepsAwaited, hf, ho, htwo]
      omega
    refine settle_within _ ?_
    unfold stepsTaken
    split
    · rw [htwo]
      refine takeSteps_within hfirst two _ ?_
      rw [hawaited]
      simpa using hroom
    · exact hfirst.of_noMore (discardedRead_noMore _ _)
    · exact hfirst.of_noMore (fetchError_noMore _)
    · exact hfirst.of_noMore (discardedRead_noMore _ _)

theorem linkTaken_noMore (r : ReadResult 8) (t : Transfer) (s : State) : NoMore s (linkTaken r t s) := by
  unfold linkTaken takeReread
  split
  · repeat' split
    · exact .of_eq rfl rfl rfl
    · exact (suFault_noMore _ _).after (.of_eq rfl rfl rfl)
    · exact .of_eq rfl rfl rfl
  · exact discardedRead_noMore _ s
  · exact fetchError_noMore s
  · exact discardedRead_noMore _ s

theorem retireTaken_noMore (r : WriteResult) (s : State) : NoMore s (retireTaken r s) := by
  unfold retireTaken takeRetired retireError
  split
  · split
    · dsimp only
      split <;> exact .of_eq (by simp) (by simp) (by simp)
    · exact .refl s
  · exact (suFault_noMore _ _).after (.of_eq (by simp) (by simp) (by simp))

theorem endFlush_noMore (r : Result) (s : State) : NoMore s (endFlush r s) := .of_eq (by simp) (by simp) (by simp)

theorem loseRecords_noMore (n : Nat) (s : State) : NoMore s (loseRecords n s) := .of_eq rfl (by simp) (by simp)

theorem journalFault_noMore (s : State) : NoMore s (journalFault s) := by
  unfold journalFault
  exact (endFlush_noMore _ _).after (.of_eq rfl rfl rfl)

theorem closeError_noMore (s : State) : NoMore s (closeError s) := .of_emptied rfl (by simp) (by simp)

theorem openSheet_noMore (s : State) : NoMore s (openSheet s) := .of_eq rfl rfl rfl

theorem blockJournal_noMore (s : State) : NoMore s (blockJournal s) := by
  unfold blockJournal
  exact .of_eq (by simp) (by simp) (by simp)

theorem sheetHeaderRead_noMore (d : List Byte) (s : State) : NoMore s (sheetHeaderRead d s) := by
  unfold sheetHeaderRead
  repeat' split
  · exact openSheet_noMore s
  · exact blockJournal_noMore s
  · exact openSheet_noMore s
  · exact .of_eq rfl rfl rfl
  · exact openSheet_noMore s
  · exact (endClose_noMore _ _).after (loseHeld_noMore s)
  all_goals exact .refl s

theorem sheetHeaderReadDiscarded_noMore (s : State) : NoMore s (sheetHeaderReadDiscarded s) := by
  unfold sheetHeaderReadDiscarded
  split
  · exact endClose_noMore _ s
  · exact .refl s

theorem sheetHeaderReadError_noMore (s : State) : NoMore s (sheetHeaderReadError s) := by
  unfold sheetHeaderReadError
  split
  · exact journalFault_noMore s
  · exact journalFault_noMore s
  · exact closeError_noMore s
  all_goals exact .refl s

theorem sheetHeaderReadDiscardedError_noMore (s : State) : NoMore s (sheetHeaderReadDiscardedError s) := by
  unfold sheetHeaderReadDiscardedError
  split
  · exact sheetHeaderReadDiscarded_noMore s
  · exact journalFault_noMore s

theorem sheetReadTaken_noMore (r : ReadResult 16) (t : Transfer) (s : State) : NoMore s (sheetReadTaken r t s) := by
  unfold sheetReadTaken
  split
  · exact sheetHeaderRead_noMore _ s
  · exact sheetHeaderReadDiscarded_noMore s
  · exact (busErrorRaised_noMore s).trans (sheetHeaderReadError_noMore _)
  · exact (busErrorRaised_noMore s).trans (sheetHeaderReadDiscardedError_noMore _)

theorem recordTaken_noMore (r : WriteResult) (s : State) : NoMore s (recordTaken r s) := by
  unfold recordTaken recordWriteError
  split
  · refine .of_written ?_ rfl rfl
    unfold JournalWriter.recordWritten
    split <;> rfl
  · refine (busErrorRaised_noMore s).trans ?_
    split
    · exact closeError_noMore _
    · exact (journalFault_noMore _).after ((loseRecords_noMore 1 _).after (.of_written rfl rfl rfl))

theorem headerWritten_noMore (hd : SheetHeader) (s : State) : NoMore s (headerWritten hd s) := by
  have hready : NoMore s (raiseReady (raisesReady hd.reason s.jw) (announceHeader hd s)) := by
    unfold raiseReady announceHeader
    split <;> exact .of_eq (by simp [JournalWriter.announced, JournalWriter.countReady]) (by simp) (by simp)
  unfold headerWritten afterHeader
  repeat' split
  · exact hready.trans (endClose_noMore _ _)
  · exact hready
  · exact (endFlush_noMore _ _).after (hready.trans (.of_eq rfl rfl rfl))

theorem sheetWriteTaken_noMore (r : WriteResult) (t : Transfer) (s : State) : NoMore s (sheetWriteTaken r t s) := by
  unfold sheetWriteTaken headerWriteError
  split
  · exact headerWritten_noMore _ s
  · exact .refl s
  · refine (busErrorRaised_noMore s).trans ?_
    split
    · exact closeError_noMore _
    · exact (journalFault_noMore _).after ((loseRecords_noMore _ _).after (.of_eq rfl rfl rfl))

theorem commandError_noMore (s : State) : NoMore s (commandError s) := .of_eq (by simp) (by simp) (by simp)

theorem commitContext_noMore (c : Context) (p : Pins) (s : State) : NoMore s (commitContext c p s) := by
  unfold commitContext commitOutputs commitLines commitGuards commitQuiet
  dsimp only
  split <;> exact ⟨by simp [JournalWriter.commit], by simp, by simp, by simpa using .refl _⟩

theorem judgeShadow_noMore (p : Pins) (s : State) : NoMore s (judgeShadow p s) := by
  unfold judgeShadow
  split
  · exact commitContext_noMore _ p s
  · exact .of_eq rfl rfl rfl

theorem dcbEnd_within (r : ReadResult 64) (p : Pins) : Keeps WithinCapacity (dcbEnd r p) := by
  intro s hs
  unfold dcbEnd takeDcb
  split
  · dsimp only
    split
    · exact cpRequest_within (hs.of_noMore (.of_eq rfl rfl rfl)) _ _ rfl
    · exact grant_within _ (hs.of_noMore ((judgeShadow_noMore p _).after (.of_eq rfl rfl rfl)))
  · exact grant_within _ (hs.of_noMore (commandError_noMore s))

theorem takeLimits_noMore (d : List Byte) (s : State) : NoMore s (takeLimits d s) := by
  unfold takeLimits stageLimits makeActive
  repeat' split
  · exact (deliverLimits_noMore _ _).after ((complete_noMore .ok s).trans (.of_eq rfl rfl rfl))
  · exact .of_eq rfl rfl rfl
  · exact complete_noMore _ s

theorem limitsEnd_within (r : ReadResult 48) : Keeps WithinCapacity (limitsEnd r) := by
  intro s hs
  unfold limitsEnd
  split
  · exact settle_within _ (hs.of_noMore (takeLimits_noMore _ s))
  · exact grant_within _ (hs.of_noMore (commandError_noMore s))

theorem tallyEnd_within (r : WriteResult) (t : Transfer) : Keeps WithinCapacity (tallyEnd r t) := by
  intro s hs
  unfold tallyEnd takeTally
  split
  · split
    · exact cpRequest_within hs _ _ rfl
    · exact grant_within _ (complete_within _ _ (hs.of_noMore (.of_eq rfl rfl rfl)))
  · exact grant_within _ (hs.of_noMore (commandError_noMore s))

/-! ## Every step -/

theorem within_stepKeeps : StepKeeps WithinCapacity where
  queue _ := .of_noMore fun _ => .of_eq rfl rfl rfl
  hardReset s _ := reset_within (s := s) rfl rfl rfl
  softReset s _ := reset_within (s := s) rfl rfl rfl
  release := .of_noMore fun _ => .of_eq rfl rfl rfl
  irqEnable _ := .of_noMore fun _ => .of_eq rfl rfl rfl
  eventMask _ := .of_noMore fun _ => .of_eq rfl rfl rfl
  events _ := .of_noMore fun _ => .of_eq rfl rfl rfl
  wake := writeWake_within
  argLo _ := .of_noMore fun _ => .of_eq rfl rfl rfl
  argHi _ := .of_noMore fun _ => .of_eq rfl rfl rfl
  refuse := .of_noMore fun _ => raise_noMore _ _
  take _ _ := .of_noMore fun _ => .of_eq rfl rfl rfl
  loadContext := takeLoadContext_within
  stageLimits := takeStageLimits_within
  start := takeStart_within
  stop := takeStop_within
  stopAtOnce := takeStopAtOnce_within
  pause := .of_noMore fun _ => .of_eq (by simp) (by simp) (by simp)
  resume := .of_noMore fun _ => .of_eq (by simp) (by simp) (by simp)
  forceLines := .of_noMore fun _ => .of_eq (by simp) (by simp) (by simp)
  clearTrip := takeClearTrip_within
  journalOpen := takeJournalOpen_within
  journalFlush := takeJournalFlush_within
  journalClose := takeJournalClose_within
  stamp := takeStamp_within
  dumpTallies := takeDumpTallies_within
  unknown := .of_noMore fun _ => .of_eq (by simp) (by simp) (by simp)
  timeRange := takeTimeRange_within
  application := takeApplication_within
  waitTimeout := takeWaitTimeout_within
  deferredRise _ := .of_noMore fun _ => .of_eq (by simp) (by simp) (by simp)
  lastFall _ := .of_noMore fun _ => .of_eq (by simp) (by simp) (by simp)
  blankEnd := takeBlankEnd_within
  escalation := takeEscalation_within
  linkWatch := takeLinkWatch_within
  sheetRecheck := takeSheetRecheck_within
  flushAge := takeFlushAge_within
  ticked := .of_noMore fun _ => .of_eq (by simp) (by simp) (by simp)
  advance := .of_noMore fun _ => .of_eq (by simp) (by simp) (by simp)
  assertion := takeAssertion_within
  deassertion := takeDeassertion_within
  edge := takeEdge_within
  admission := takeStepAdmission_within
  faultRun _ _ := .of_noMore fun _ => .of_eq (by simp) (by simp) (by simp)
  inputRun _ _ := .of_noMore fun _ => .of_eq (by simp) (by simp) (by simp)
  busAges := .of_noMore fun s => ⟨id, le_rfl, le_rfl, s.bp.period_alike⟩
  sourceAges := .of_noMore fun _ => .of_eq rfl rfl rfl
  headerRead r := .within_endTransfer fun t s hs => settle_within _ (hs.of_noMore (headerTaken_noMore r t s))
  stepRead := stepRead_within
  linkRead r := .within_endTransfer fun t s hs => settle_within _ (hs.of_noMore (linkTaken_noMore r t s))
  retireWrite r := .within_endTransfer fun _ s hs => settle_within _ (hs.of_noMore (retireTaken_noMore r s))
  sheetRead r := .within_endTransfer fun t s hs => jwRun_within _ (hs.of_noMore (sheetReadTaken_noMore r t s))
  recordWrite r := .within_endTransfer fun _ s hs => jwRun_within _ (hs.of_noMore (recordTaken_noMore r s))
  sheetWrite r := .within_endTransfer fun t s hs => jwRun_within _ (hs.of_noMore (sheetWriteTaken_noMore r t s))
  dcbRead r p := .within_endTransfer fun _ => dcbEnd_within r p
  limitsRead r := .within_endTransfer fun _ => limitsEnd_within r
  tallyWrite r := .within_endTransfer fun t => tallyEnd_within r t

/-- Settles O58: no event adds beyond a capacity, and a step read is asked for only with room for what it brings. -/
theorem capacitiesKept : Obligations.CapacitiesKept := fun _ _ hs e => within_stepKeeps.step hs e

end Sys2Proof.Machine
end

/-! Between events (R33, R158, R188): no notice is out, no request is left to make, and every waiting request stands in
its own requester's place. -/
section
namespace Sys2Proof.Machine

/-! ## Grants -/

theorem BusPort.grant_of_busy {b : BusPort} {f : Flight} (h : b.inFlight = some f) : b.grant = b := by
  simp [BusPort.grant, h]

theorem BusPort.grant_grant (b : BusPort) : b.grant.grant = b.grant := by
  obtain e | ⟨_, ⟨t, _, e⟩ | ⟨t, _, e⟩ | ⟨t, _, e⟩⟩ := b.grant_cases <;> rw [e]
  · exact e
  all_goals exact BusPort.grant_of_busy rfl

/-- A grant moves a requester's transfer and takes none away. -/
theorem BusPort.Filed.outstanding_grant {b : BusPort} (h : b.Filed) (o : Requester) :
    b.grant.outstanding o = b.outstanding o := by
  obtain e | ⟨hf, ⟨t, ht, e⟩ | ⟨t, ht, e⟩ | ⟨t, ht, e⟩⟩ := b.grant_cases <;> rw [e]
  · have hk := h .jw t ht
    cases o <;> simp [BusPort.outstanding, BusPort.waiting, hf, ht, Flight.start, hk]
  · have hk := h .fu t ht
    cases o <;> simp [BusPort.outstanding, BusPort.waiting, hf, ht, Flight.start, hk]
  · have hk := h .cp t ht
    cases o <;> simp [BusPort.outstanding, BusPort.waiting, hf, ht, Flight.start, hk]

theorem BusPort.request_outstanding_of_owner {t : Transfer} {o : Requester} (b : BusPort) (h : t.kind.owner = o) :
    (b.request t).outstanding o = true := by
  simp [BusPort.outstanding, BusPort.request_waiting, h]

theorem BusPort.request_outstanding_of_other {t : Transfer} {o : Requester} (b : BusPort) (h : t.kind.owner ≠ o) :
    (b.request t).outstanding o = b.outstanding o := by
  simp [BusPort.outstanding, BusPort.request_waiting, Ne.symm h]

theorem BusPort.Alike.grant_of_grant {b c : BusPort} (h : b.Alike c) (hb : b.grant = b) : c.grant = c := by
  have waits (o : Requester) : c.waiting o = none ↔ b.waiting o = none := h.waiting_none o
  cases hf : c.inFlight with
  | some f => exact BusPort.grant_of_busy hf
  | none =>
    have hidle : b.inFlight = none := by simpa [hf] using h.symm.2
    have hjw : b.jw = none := by
      by_contra hn
      obtain ⟨t, ht⟩ := Option.ne_none_iff_exists'.mp hn
      have := congrArg BusPort.inFlight hb
      simp [BusPort.grant, hidle, ht] at this
    have hfu : b.fu = none := by
      by_contra hn
      obtain ⟨t, ht⟩ := Option.ne_none_iff_exists'.mp hn
      have := congrArg BusPort.inFlight hb
      simp [BusPort.grant, hidle, hjw, ht] at this
    have hcp : b.cp = none := by
      by_contra hn
      obtain ⟨t, ht⟩ := Option.ne_none_iff_exists'.mp hn
      have := congrArg BusPort.inFlight hb
      simp [BusPort.grant, hidle, hjw, hfu, ht] at this
    have hcjw : c.jw = none := (waits .jw).mpr hjw
    have hcfu : c.fu = none := (waits .fu).mpr hfu
    have hccp : c.cp = none := (waits .cp).mpr hcp
    simp [BusPort.grant, hf, hcjw, hcfu, hccp]

/-! ## What the JW and the FU call for -/

/-- The JW calls for a transfer (R155, R158, R159, R165). -/
def JournalWriter.calls (j : JournalWriter) : Bool :=
  match j.state, j.sheet with
  | .seeking, _ => true
  | .blocked, _ => j.rereadWanted
  | .opened, some h => h.sealed.isSome || !j.fifo.isEmpty
  | .closing, _ => true
  | .opened, none | .off, _ | .faulted, _ => false

/-- The next header can be read: its address is known and its slot is free (R17, R25). -/
def FetchUnit.callsHeader (f : FetchUnit) : Bool :=
  f.nextAddress.isSome && f.slotFree (slotOfSequence f.nextSequence)

/-- The FU calls for a read (R17, R20, R23). -/
def FetchUnit.callsRead (room : Nat) (f : FetchUnit) : Bool :=
  match f.state with
  | .fetching =>
    match f.newest with
    | some sl => if sl.state = .fetching then room != 0 else f.callsHeader
    | none => f.callsHeader
  | .watching => f.rereadWanted && f.newest.isSome
  | .idle | .stopped => false

/-- The FU calls for a transfer (R29, R33). -/
def FetchUnit.calls (room : Nat) (f : FetchUnit) : Bool :=
  match f.table with
  | sl :: _ => if sl.state = .retireReady then true else f.callsRead room
  | [] => f.callsRead room

/-- The JW has its transfer outstanding, or calls for none. -/
def JwRests (s : State) : Prop := s.bp.outstanding .jw = true ∨ s.jw.calls = false

/-- The FU has its transfer outstanding, or calls for none. -/
def FuRests (s : State) : Prop := s.bp.outstanding .fu = true ∨ s.fu.calls (queueRoom s) = false

theorem request_outstanding {k : TransferKind} {o : Requester} (a : Addr) (s : State) (h : k.owner = o) :
    (request k a s).bp.outstanding o = true := BusPort.request_outstanding_of_owner _ h

theorem request_outstanding_other {k : TransferKind} {o : Requester} (a : Addr) (s : State) (h : k.owner ≠ o) :
    (request k a s).bp.outstanding o = s.bp.outstanding o := BusPort.request_outstanding_of_other _ h

theorem finishClose_rests (h : OpenSheet) (s : State) : JwRests (finishClose h s) := by
  unfold finishClose
  split
  · exact .inr rfl
  · exact .inl (request_outstanding _ _ rfl)

/-- After its request the JW rests: it has asked, or has gone OFF, or calls for nothing. -/
theorem jwPump_rests (s : State) : JwRests (jwPump s) := by
  unfold jwPump
  split
  next hout => exact .inl hout
  next =>
    split
    next => exact .inl (request_outstanding _ _ rfl)
    next hst =>
      split
      · exact .inl (request_outstanding _ _ rfl)
      next hw => exact .inr (by simpa [JournalWriter.calls, hst] using hw)
    next h hst hsh =>
      unfold writeNext allotPlace
      split
      · exact .inl (request_outstanding _ _ rfl)
      · exact .inl (request_outstanding _ _ rfl)
      next hsealed hfifo =>
        split
        · exact finishClose_rests h s
        · exact .inr (by simp [JournalWriter.calls, hst, hsh, hsealed, hfifo])
    next h hst hsh =>
      unfold writeNext allotPlace
      split
      · exact .inl (request_outstanding _ _ rfl)
      · exact .inl (request_outstanding _ _ rfl)
      next => simpa [hst] using finishClose_rests h s
    next => exact .inl (request_outstanding _ _ rfl)
    next hst hsh => exact .inr (by simp [JournalWriter.calls, hst, hsh])
    next hst => exact .inr (by simp [JournalWriter.calls, hst])
    next hst => exact .inr (by simp [JournalWriter.calls, hst])

/-- A JW that rests makes no request. -/
theorem jwPump_of_rests {s : State} (h : JwRests s) : jwPump s = s := by
  obtain hout | hcalls := h
  · simp [jwPump, hout]
  · unfold jwPump
    split
    · rfl
    · unfold JournalWriter.calls at hcalls
      split <;> simp_all [writeNext]

theorem jwPump_eq_self_iff (s : State) : jwPump s = s ↔ JwRests s :=
  ⟨fun h => h ▸ jwPump_rests s, jwPump_of_rests⟩

/-- The header read is asked for where it is called for, and else nothing changes. -/
theorem requestHeader_cases (s : State) :
    ((requestHeader s).bp.outstanding .fu = true ∧ s.fu.callsHeader = true) ∨
      requestHeader s = s ∧ s.fu.callsHeader = false := by
  unfold requestHeader FetchUnit.callsHeader
  split
  next a ha =>
    split
    next hfree => exact .inl ⟨request_outstanding _ _ rfl, by simp [ha, hfree]⟩
    next hfree => exact .inr ⟨rfl, by simpa [ha] using hfree⟩
  next ha => exact .inr ⟨rfl, by simp [ha]⟩

/-- The same for a read. -/
theorem requestRead_cases (s : State) :
    ((requestRead s).bp.outstanding .fu = true ∧ s.fu.callsRead (queueRoom s) = true) ∨
      requestRead s = s ∧ s.fu.callsRead (queueRoom s) = false := by
  have hheader := requestHeader_cases s
  unfold requestRead FetchUnit.callsRead
  split
  next hst =>
    split
    next sl hnew =>
      split
      next hsl =>
        unfold requestSteps
        split
        next hroom => exact .inr ⟨rfl, by simp [hst, hnew, hsl, hroom]⟩
        next hroom => exact .inl ⟨request_outstanding _ _ rfl, by simpa [hst, hnew, hsl] using hroom⟩
      next hsl => simpa [hst, hnew, hsl] using hheader
    next hnew => simpa [hst, hnew] using hheader
  next hst =>
    split
    next hwanted =>
      unfold requestLink
      split
      next hnew => exact .inl ⟨request_outstanding _ _ rfl, by simp [hst, hwanted, hnew]⟩
      next hnew => exact .inr ⟨rfl, by simp [hst, hnew]⟩
    next hwanted => exact .inr ⟨rfl, by simp [hst, hwanted]⟩
  next hst => exact .inr ⟨rfl, by simp [hst]⟩
  next hst => exact .inr ⟨rfl, by simp [hst]⟩

/-- The same for the request of an FU with no transfer outstanding. -/
theorem fuPump_cases {s : State} (hout : s.bp.outstanding .fu = false) :
    ((fuPump s).bp.outstanding .fu = true ∧ s.fu.calls (queueRoom s) = true) ∨
      fuPump s = s ∧ s.fu.calls (queueRoom s) = false := by
  have hread := requestRead_cases s
  unfold fuPump FetchUnit.calls
  rw [if_neg (by simp [hout])]
  split
  next sl _ ht =>
    split
    next hready => exact .inl ⟨request_outstanding _ _ rfl, by simp [ht, hready]⟩
    next hready => simpa [ht, hready] using hread
  next ht => simpa [ht] using hread

/-- After its request the FU rests. -/
theorem fuPump_rests (s : State) : FuRests (fuPump s) := by
  cases hout : s.bp.outstanding .fu with
  | true => exact .inl (by simp [fuPump, hout])
  | false =>
    obtain ⟨hasked, _⟩ | ⟨e, hcalls⟩ := fuPump_cases hout
    · exact .inl hasked
    · exact .inr (by rw [e]; exact hcalls)

/-- An FU that rests makes no request. -/
theorem fuPump_of_rests {s : State} (h : FuRests s) : fuPump s = s := by
  cases hout : s.bp.outstanding .fu with
  | true => simp [fuPump, hout]
  | false =>
    obtain ⟨_, hcalls⟩ | ⟨e, _⟩ := fuPump_cases hout
    · simp [FuRests, hout, hcalls] at h
    · exact e

theorem fuPump_eq_self_iff (s : State) : fuPump s = s ↔ FuRests s :=
  ⟨fun h => h ▸ fuPump_rests s, fuPump_of_rests⟩

theorem rested_iff (s : State) : Rested s ↔ JwRests s ∧ FuRests s ∧ s.bp.grant = s.bp := by
  unfold Rested
  rw [jwPump_eq_self_iff, fuPump_eq_self_iff]

/-! ## Between events -/

/-- The state between two events: no notice is out, no request is left to make, every request waits in its own place. -/
def Between (s : State) : Prop := Quiet s ∧ Rested s ∧ s.bp.Filed

/-- What the notices are judged by is the same: the trip notice, the SU, the FU. -/
structure SameNotices (s t : State) : Prop where
  trip : t.gu.tripNotice = s.gu.tripNotice
  su : t.su = s.su
  fu : t.fu = s.fu

theorem SameNotices.trans {s t u : State} (h : SameNotices s t) (k : SameNotices t u) : SameNotices s u :=
  ⟨k.trip.trans h.trip, k.su.trans h.su, k.fu.trans h.fu⟩

theorem Quiet.of_same {s t : State} (hs : Quiet s) (h : SameNotices s t) : Quiet t := by
  unfold Quiet starving
  rw [h.trip, h.su, h.fu]
  exact hs

theorem FuRests.of_same {s t : State} (hs : FuRests s) (h : SameNotices s t)
    (hout : t.bp.outstanding .fu = s.bp.outstanding .fu) : FuRests t := by
  unfold FuRests queueRoom
  rw [h.su, h.fu, hout]
  exact hs

theorem JwRests.of_same {s t : State} (hs : JwRests s) (h : t.jw.calls = true → s.jw.calls = true)
    (hout : t.bp.outstanding .jw = s.bp.outstanding .jw) : JwRests t := by
  obtain hasked | hcalls := hs
  · exact .inl (hout.trans hasked)
  · exact .inr (by by_contra hc; simp [h (by simpa using hc)] at hcalls)

/-- An event that changes nothing that a notice or a request depends on. -/
structure Undisturbed (s t : State) : Prop extends SameNotices s t where
  calls : t.jw.calls = true → s.jw.calls = true
  bus : s.bp.Alike t.bp

theorem Undisturbed.of_eq {s t : State} (htrip : t.gu.tripNotice = s.gu.tripNotice) (hsu : t.su = s.su)
    (hfu : t.fu = s.fu) (hjw : t.jw = s.jw) (hbp : t.bp = s.bp) : Undisturbed s t :=
  ⟨⟨htrip, hsu, hfu⟩, by rw [hjw]; exact id, by rw [hbp]; exact .refl _⟩

theorem Between.undisturbed {s t : State} (hs : Between s) (h : Undisturbed s t) : Between t := by
  obtain ⟨hquiet, hrested, hfiled⟩ := hs
  obtain ⟨hjw, hfu, hgrant⟩ := (rested_iff s).mp hrested
  refine ⟨hquiet.of_same h.toSameNotices, (rested_iff t).mpr ⟨?_, ?_, ?_⟩, h.bus.filed hfiled⟩
  · exact hjw.of_same h.calls (h.bus.outstanding .jw)
  · exact hfu.of_same h.toSameNotices (h.bus.outstanding .fu)
  · exact h.bus.grant_of_grant hgrant

theorem Keeps.of_undisturbed {f : State → State} (h : ∀ s, Undisturbed s (f s)) : Keeps Between f :=
  fun s hs => hs.undisturbed (h s)

/-! ## The ends of events -/

theorem grant_sameNotices (s : State) : SameNotices s (grant s) := ⟨by simp, by simp, by simp⟩

/-- An event that ends with a grant alone, where the JW and the FU rest. -/
theorem between_grant {s : State} (hquiet : Quiet s) (hjw : JwRests s) (hfu : FuRests s) (hfiled : s.bp.Filed) :
    Between (grant s) := by
  refine ⟨hquiet.of_same (grant_sameNotices s), (rested_iff _).mpr ⟨?_, ?_, ?_⟩, hfiled.grant⟩
  · exact hjw.of_same (by simp) (by rw [grant_bp]; exact hfiled.outstanding_grant .jw)
  · exact hfu.of_same (grant_sameNotices s) (by rw [grant_bp]; exact hfiled.outstanding_grant .fu)
  · rw [grant_bp]
    exact s.bp.grant_grant

/-- An event of the JW alone ends with its request and a grant. -/
theorem between_jwRun {s : State} (hquiet : Quiet s) (hfu : FuRests s) (hfiled : s.bp.Filed) : Between (jwRun s) := by
  have hsame : SameNotices s (jwPump s) := ⟨by simp, by simp, by simp⟩
  exact between_grant (hquiet.of_same hsame) (jwPump_rests s) (hfu.of_same hsame (jwPump_outstanding s))
    (jwPump_filed s hfiled)

/-- The FU's request leaves the JW's places in the Bus Port as they are. -/
theorem fuPump_bp (s : State) : (fuPump s).bp.jw = s.bp.jw ∧ (fuPump s).bp.inFlight = s.bp.inFlight := by
  unfold fuPump requestRetire requestRead requestHeader requestSteps requestLink
  repeat' split
  all_goals exact ⟨rfl, rfl⟩

theorem fuPump_outstanding_jw (s : State) : (fuPump s).bp.outstanding .jw = s.bp.outstanding .jw := by
  simp [BusPort.outstanding, BusPort.waiting, fuPump_bp s]

/-- Of the FU the notices are judged by its state, its table, and the two notices it keeps. -/
theorem Quiet.of_table {s t : State} (h : Quiet s) (htrip : t.gu.tripNotice = s.gu.tripNotice) (hsu : t.su = s.su)
    (htable : t.fu.table = s.fu.table) (hstate : t.fu.state = s.fu.state)
    (hdone : t.fu.doneNotice = s.fu.doneNotice) (hstarved : t.fu.starvedReported = s.fu.starvedReported) : Quiet t := by
  obtain ⟨_, hready, hended, _⟩ := id h
  exact quiet_congr htrip hsu (markReady_congr htable hstate hready) (by rw [htable, hstate]; exact hended) hdone hstate
    hstarved h

theorem fuPump_quiet {s : State} (h : Quiet s) : Quiet (fuPump s) :=
  h.of_table (by simp) (by simp) (by simp) (by simp) (by simp) (by simp)

/-- An event that ends with the FU's request and a grant, where the JW rests. -/
theorem between_fuRun {s : State} (hquiet : Quiet s) (hjw : JwRests s) (hfiled : s.bp.Filed) :
    Between (grant (fuPump s)) :=
  between_grant (fuPump_quiet hquiet) (hjw.of_same (by simp) (fuPump_outstanding_jw s)) (fuPump_rests s)
    (fuPump_filed s hfiled)

theorem between_pump {s : State} (hquiet : Quiet s) (hfiled : s.bp.Filed) : Between (pump s) :=
  between_fuRun (hquiet.of_same ⟨by simp, by simp, by simp⟩) (jwPump_rests s) (jwPump_filed s hfiled)

/-- An event that takes the notices and makes the requests leaves nothing out, whatever came before. -/
theorem between_settle {s : State} (hfiled : s.bp.Filed) : Between (settle s) :=
  between_pump (takeNotices_quiet s) (takeNotices_filed s hfiled)

theorem Between.filed {s : State} (h : Between s) : s.bp.Filed := h.2.2

/-- What the JW alone does, from a state between events. -/
theorem Between.jwRun {s t : State} (hs : Between s) (h : SameNotices s t) (hbus : s.bp.Alike t.bp) :
    Between (jwRun t) := by
  obtain ⟨hquiet, hrested, hfiled⟩ := hs
  obtain ⟨_, hfu, _⟩ := (rested_iff s).mp hrested
  exact between_jwRun (hquiet.of_same h) (hfu.of_same h (hbus.outstanding .fu)) (hbus.filed hfiled)

/-- A request of the CP, granted if the Bus Port is idle. -/
theorem between_cpRequest {s : State} (hquiet : Quiet s) (hjw : JwRests s) (hfu : FuRests s) (hfiled : s.bp.Filed)
    (k : TransferKind) (a : Addr) (hk : k.owner = .cp) : Between (grant (request k a s)) := by
  have hsame : SameNotices s (request k a s) := ⟨by simp, by simp, by simp⟩
  refine between_grant (hquiet.of_same hsame) (hjw.of_same (by simp) ?_) (hfu.of_same hsame ?_) (hfiled.request _)
  · exact request_outstanding_other _ _ (by rw [hk]; nofun)
  · exact request_outstanding_other _ _ (by rw [hk]; nofun)

/-- The same from a state between events. -/
theorem Between.cpRequest {s t : State} (hs : Between s) (h : Undisturbed s t) (k : TransferKind) (a : Addr)
    (hk : k.owner = .cp) : Between (grant (request k a t)) := by
  obtain ⟨hquiet, hrested, hfiled⟩ := hs.undisturbed h
  obtain ⟨hjw, hfu, _⟩ := (rested_iff t).mp hrested
  exact between_cpRequest hquiet hjw hfu hfiled k a hk

end Sys2Proof.Machine
end

/-! Every event leaves a state between events (R33, R158, R188). -/
section
namespace Sys2Proof.Machine

/-! ## Commands -/

theorem complete_undisturbed (r : Result) (s : State) : Undisturbed s (complete r s) :=
  .of_eq (by simp) (by simp) (by simp) (by simp) (by simp)

theorem complete_between (r : Result) : Keeps Between (complete r) := .of_undisturbed (complete_undisturbed r)

theorem takeLoadContext_between : Keeps Between takeLoadContext := by
  intro s hs
  unfold takeLoadContext
  repeat' split
  · exact complete_between _ s hs
  · exact complete_between _ s hs
  · refine hs.cpRequest ?_ _ _ rfl
    exact .of_eq rfl rfl rfl rfl rfl

theorem takeStageLimits_between : Keeps Between takeStageLimits := by
  intro s hs
  unfold takeStageLimits
  repeat' split
  · exact complete_between _ s hs
  · exact complete_between _ s hs
  · refine hs.cpRequest ?_ _ _ rfl
    exact .of_eq rfl rfl rfl rfl rfl

theorem takeDumpTallies_between (op : Half) : Keeps Between (takeDumpTallies op) := by
  intro s hs
  unfold takeDumpTallies
  split
  · exact complete_between _ s hs
  · refine hs.cpRequest ?_ _ _ rfl
    exact .of_eq rfl rfl rfl rfl rfl

theorem takeStart_between : Keeps Between takeStart := by
  intro s hs
  unfold takeStart startAt
  repeat' split
  · exact complete_between _ s hs
  · exact complete_between _ s hs
  · exact complete_between _ s hs
  · exact complete_between _ s hs
  · exact between_settle (by simpa using hs.filed)

theorem takeDrain_between : Keeps Between takeDrain := by
  intro s hs
  unfold takeDrain drainProgram
  split
  · exact complete_between _ s hs
  · exact complete_between _ s hs
  · exact complete_between _ s hs
  · exact between_settle (drainEnd_filed _ (by simpa using closeAdmission_filed s hs.filed))

theorem takeStopAtOnce_between : Keeps Between takeStopAtOnce := by
  intro s hs
  unfold takeStopAtOnce
  split
  · exact complete_between _ s hs
  · exact complete_between _ s hs
  all_goals exact between_settle (enterStopping_filed _ _ s hs.filed)

theorem takeStop_between (op : Half) : Keeps Between (takeStop op) := by
  intro s hs
  unfold takeStop
  repeat' split
  · exact takeDrain_between s hs
  · exact takeStopAtOnce_between s hs
  · exact complete_between _ s hs

theorem takeClearTrip_between : Keeps Between takeClearTrip := by
  intro s hs
  unfold takeClearTrip
  repeat' split
  · exact complete_between _ s hs
  · exact complete_between _ s hs
  · exact hs.jwRun ⟨by simp [clearLatch, GuardUnit.clearTrip], by simp, by simp⟩ (by simpa using (clearLatch_noMore s).bus)

theorem takeJournalOpen_between : Keeps Between takeJournalOpen := by
  intro s hs
  unfold takeJournalOpen
  repeat' split
  · exact complete_between _ s hs
  · exact complete_between _ s hs
  · exact hs.jwRun ⟨by simp, by simp, by simp⟩ (by simpa using .refl _)

theorem takeJournalFlush_between : Keeps Between takeJournalFlush := by
  intro s hs
  unfold takeJournalFlush
  repeat' split
  · exact complete_between _ s hs
  · exact hs.jwRun ⟨rfl, rfl, rfl⟩ (.refl _)
  · exact complete_between _ s hs

/-- A close taken in BLOCKED or FAULTED is complete at once: the journal is OFF and calls for nothing. -/
theorem takeJournalClose_between : Keeps Between takeJournalClose := by
  intro s hs
  unfold takeJournalClose closeSeeking
  split
  · exact complete_between _ s hs
  · exact hs.jwRun ⟨rfl, rfl, rfl⟩ (.refl _)
  · exact hs.jwRun ⟨rfl, rfl, rfl⟩ (.refl _)
  · exact hs.jwRun ⟨by simp, by simp, by simp⟩
      ((discardSheetRead_noMore _).after (.of_emptied rfl (by simp) (by simp))).bus
  · exact hs.undisturbed ⟨⟨by simp, by simp, by simp⟩, nofun,
      ((endClose_noMore _ _).after ((discardSheetRead_noMore _).after (loseHeld_noMore s))).bus⟩
  · exact hs.undisturbed ⟨⟨by simp, by simp, by simp⟩, nofun, by simpa using .refl _⟩

theorem takeStamp_between : Keeps Between takeStamp := by
  intro s hs
  unfold takeStamp
  split
  · exact hs.jwRun ⟨by simp, by simp, by simp⟩ (by simpa using .refl _)
  · exact complete_between _ s hs

theorem writeWake_between : Keeps Between writeWake := by
  intro s hs
  obtain ⟨hquiet, _, hfiled⟩ := id hs
  refine between_pump (hquiet.of_table rfl rfl ?_ ?_ ?_ ?_) hfiled
  all_goals
    unfold FetchUnit.wake
    dsimp only
    split <;> rfl

/-! ## Time and pins -/

theorem takeTimeRange_between : Keeps Between takeTimeRange := by
  intro s hs
  unfold takeTimeRange
  split
  · exact between_settle (suFault_filed _ _ hs.filed)
  · exact hs

theorem takeApplication_between : Keeps Between takeApplication := by
  intro s hs
  unfold takeApplication
  split
  · exact between_settle (applyDue_filed s hs.filed)
  · exact hs

theorem takeStepAdmission_between : Keeps Between takeStepAdmission := by
  intro s hs
  have happlied := takeApplication_between s hs
  unfold takeStepAdmission
  unfold admitHead
  split
  · split
    · exact between_settle (admitStep_filed _ _ happlied.filed)
    · exact happlied
  · exact happlied

theorem takeWaitTimeout_between : Keeps Between takeWaitTimeout := by
  intro s hs
  unfold takeWaitTimeout
  repeat' split
  · exact between_settle (endWait_filed _ _ hs.filed)
  · exact hs
  · exact hs

theorem takeEdge_between (n : Fin 16) (e : Edge) : Keeps Between (takeEdge n e) := by
  intro s hs
  have hwaited := takeWaitTimeout_filed s hs.filed
  unfold takeEdge
  split
  · exact between_settle ((recognizeEdge_noMore n e _).bus.filed hwaited)
  · exact hs

theorem takeBlankEnd_between (n : Fin 4) : Keeps Between (takeBlankEnd n) := by
  intro s hs
  unfold takeBlankEnd
  split
  · exact between_settle (by simpa using hs.filed)
  · exact hs

theorem takeEscalation_between (n : Fin 4) : Keeps Between (takeEscalation n) := by
  intro s hs
  unfold takeEscalation
  split
  · exact between_settle (by simpa using hs.filed)
  · exact hs

theorem takeAssertion_between (n : Fin 4) : Keeps Between (takeAssertion n) := by
  intro s hs
  unfold takeAssertion
  split
  · exact between_settle (by simpa using hs.filed)
  · exact hs

theorem takeDeassertion_between (n : Fin 4) : Keeps Between (takeDeassertion n) := by
  intro s hs
  have hlevel : SameNotices s (levelDeasserted n s) := ⟨rfl, rfl, rfl⟩
  unfold takeDeassertion recognizeDeassertion
  split
  · split
    · refine hs.jwRun (hlevel.trans ⟨?_, by simp, by simp⟩) (by simpa using .refl _)
      exact (release_trip n _).1
    · exact hs.jwRun hlevel (by simpa using .refl _)
  · exact hs

/-! ## Intervals -/

theorem takeLinkWatch_between : Keeps Between takeLinkWatch := by
  intro s hs
  obtain ⟨hquiet, hrested, hfiled⟩ := id hs
  obtain ⟨hjw, _, _⟩ := (rested_iff s).mp hrested
  unfold takeLinkWatch
  split
  · exact between_fuRun (hquiet.of_table rfl rfl rfl rfl rfl rfl) hjw hfiled
  · exact hs

theorem takeSheetRecheck_between : Keeps Between takeSheetRecheck := by
  intro s hs
  unfold takeSheetRecheck
  split
  · exact hs.jwRun ⟨rfl, rfl, rfl⟩ (.refl _)
  · exact hs

theorem takeFlushAge_between : Keeps Between takeFlushAge := by
  intro s hs
  unfold takeFlushAge
  split
  · exact hs.jwRun ⟨rfl, rfl, rfl⟩ (.refl _)
  · exact hs

/-! ## Ends of transfers -/

/-- Freeing the Bus Port leaves the transfers of the other requesters outstanding. -/
theorem freeBus_outstanding {s : State} {f : Flight} {o : Requester} (hf : s.bp.inFlight = some f)
    (h : f.orphan = true ∨ f.transfer.kind.owner ≠ o) : (freeBus s).bp.outstanding o = s.bp.outstanding o := by
  rcases h with h | h <;> simp [freeBus, BusPort.outstanding, BusPort.waiting, hf, h]

theorem grantFirst_outstanding {s : State} (h : s.bp.Filed) (o : Requester) :
    (grantFirst s).bp.outstanding o = s.bp.outstanding o := by
  unfold grantFirst
  split
  · simpa using BusPort.Filed.outstanding_grant h o
  · rfl

/-- An end leaves a state between events if its requester's event does, given what the other requesters have asked. -/
theorem Keeps.between_endTransfer {p : TransferKind → Bool} {act : Transfer → State → State}
    (h : ∀ t (s : State), p t.kind = true → Quiet s → s.bp.Filed → (t.kind.owner ≠ .jw → JwRests s) →
      (t.kind.owner ≠ .fu → FuRests s) → Between (act t s)) : Keeps Between (Machine.endTransfer p act) := by
  intro s hs
  obtain ⟨hquiet, hrested, hfiled⟩ := id hs
  obtain ⟨hjw, hfu, _⟩ := (rested_iff s).mp hrested
  have hfree : SameNotices s (freeBus s) := ⟨rfl, rfl, rfl⟩
  have hfreeFiled := freeBus_filed s hfiled
  obtain e | ⟨f, hf, hp, ⟨ho, e⟩ | ⟨_, e⟩⟩ := endTransfer_cases p act s <;> rw [e]
  · exact hs
  · exact Machine.between_grant (hquiet.of_same hfree) (hjw.of_same id (freeBus_outstanding hf (.inl ho)))
      (hfu.of_same hfree (freeBus_outstanding hf (.inl ho))) hfreeFiled
  · have hfirst : SameNotices s (grantFirst (freeBus s)) := ⟨by simp, by simp, by simp⟩
    refine h f.transfer _ hp (hquiet.of_same hfirst) (grantFirst_filed _ hfreeFiled) (fun ho => ?_) fun ho => ?_
    · exact hjw.of_same (by simp) ((grantFirst_outstanding hfreeFiled .jw).trans (freeBus_outstanding hf (.inr ho)))
    · exact hfu.of_same hfirst ((grantFirst_outstanding hfreeFiled .fu).trans (freeBus_outstanding hf (.inr ho)))

theorem owner_of_isSheetRead {k : TransferKind} (h : (k == .sheetHeaderRead) = true) : k.owner = .jw := by
  rw [eq_of_beq h]
  rfl

theorem owner_of_isRecordWrite {k : TransferKind} (h : k.isRecordWrite = true) : k.owner = .jw := by
  cases k <;> simp_all [TransferKind.isRecordWrite, TransferKind.owner]

theorem owner_of_isSheetWrite {k : TransferKind} (h : k.isSheetWrite = true) : k.owner = .jw := by
  cases k <;> simp_all [TransferKind.isSheetWrite, TransferKind.owner]

theorem owner_of_isTallyWrite {k : TransferKind} (h : k.isTallyWrite = true) : k.owner = .cp := by
  cases k <;> simp_all [TransferKind.isTallyWrite, TransferKind.owner]

/-- The end of a JW's transfer. -/
theorem Keeps.between_jwEnd {p : TransferKind → Bool} {act : Transfer → State → State}
    (hp : ∀ k, p k = true → k.owner = .jw) (hsame : ∀ t s, SameNotices s (act t s))
    (hbus : ∀ t (s : State), s.bp.Alike (act t s).bp) : Keeps Between (Machine.endTransfer p fun t s => Machine.jwRun (act t s)) := by
  refine .between_endTransfer fun t s ht hquiet hfiled _ hfu => ?_
  have hfuRests := hfu (by rw [hp _ ht]; nofun)
  exact between_jwRun (hquiet.of_same (hsame t s)) (hfuRests.of_same (hsame t s) ((hbus t s).outstanding .fu))
    ((hbus t s).filed hfiled)

/-- The end of a CP's transfer: the JW and the FU rest. -/
theorem Keeps.between_cpEnd {p : TransferKind → Bool} {act : Transfer → State → State}
    (hp : ∀ k, p k = true → k.owner = .cp)
    (h : ∀ t (s : State), Quiet s → JwRests s → FuRests s → s.bp.Filed → Between (act t s)) :
    Keeps Between (Machine.endTransfer p act) := by
  refine .between_endTransfer fun t s ht hquiet hfiled hjw hfu => ?_
  exact h t s hquiet (hjw (by rw [hp _ ht]; nofun)) (hfu (by rw [hp _ ht]; nofun)) hfiled

/-- An undisturbed state where the JW and the FU rest, granted. -/
theorem Undisturbed.between_grant {s t : State} (h : Undisturbed s t) (hquiet : Quiet s) (hjw : JwRests s)
    (hfu : FuRests s) (hfiled : s.bp.Filed) : Between (grant t) :=
  Machine.between_grant (hquiet.of_same h.toSameNotices) (hjw.of_same h.calls (h.bus.outstanding .jw))
    (hfu.of_same h.toSameNotices (h.bus.outstanding .fu)) (h.bus.filed hfiled)

theorem commandError_undisturbed (s : State) : Undisturbed s (commandError s) :=
  .of_eq (by simp) (by simp) (by simp) (by simp) (by simp)

/-- A context commit drops the re-read a BLOCKED journal wants, and calls for no more. -/
theorem commit_calls (c : Context) (j : JournalWriter) (h : (j.commit c).calls = true) : j.calls = true := by
  unfold JournalWriter.calls JournalWriter.commit at *
  dsimp only at h
  split at h <;> simp_all

/-- What a context commit makes of the parts that the notices and the requests are judged by. -/
theorem commitContext_parts (c : Context) (p : Pins) (s : State) :
    (commitContext c p s).gu.tripNotice = s.gu.tripNotice ∧
      (commitContext c p s).su = { s.su with latePolicy := c.latePolicy } ∧
      (commitContext c p s).fu = { s.fu with watchInterval := c.watchInterval } ∧
      (commitContext c p s).jw = s.jw.commit c := by
  unfold commitContext commitOutputs commitLines commitGuards commitQuiet
  dsimp only
  split <;> simp [GuardUnit.commit]

/-- A context commit sends no notice. -/
theorem commitContext_quiet (c : Context) (p : Pins) {s : State} (h : Quiet s) : Quiet (commitContext c p s) := by
  obtain ⟨htrip, hsu, hfu, _⟩ := commitContext_parts c p s
  have hwatch : Quiet { s with fu := { s.fu with watchInterval := c.watchInterval } } :=
    h.of_table rfl rfl rfl rfl rfl rfl
  unfold Quiet starving at *
  rw [htrip, hsu, hfu]
  exact hwatch

theorem judgeShadow_between (p : Pins) {s : State} (hquiet : Quiet s) (hjw : JwRests s)
    (hfu : FuRests s) (hfiled : s.bp.Filed) : Between (grant (judgeShadow p s)) := by
  unfold judgeShadow
  split
  · have hbus := (commitContext_noMore (contextOf s.cp.shadow) p s).bus
    obtain ⟨_, hsu, hfetch, hjournal⟩ := commitContext_parts (contextOf s.cp.shadow) p s
    refine between_grant (commitContext_quiet _ p hquiet) (hjw.of_same ?_ (hbus.outstanding .jw)) ?_
      (commitContext_filed _ p s hfiled)
    · rw [hjournal]
      exact commit_calls _ s.jw
    · unfold FuRests queueRoom
      rw [hsu, hfetch, hbus.outstanding .fu]
      exact hfu
  · exact (Undisturbed.of_eq (by simp) (by simp) (by simp) (by simp) (by simp)).between_grant hquiet hjw hfu hfiled

theorem dcbEnd_between (r : ReadResult 64) (p : Pins) {s : State} (hquiet : Quiet s) (hjw : JwRests s)
    (hfu : FuRests s) (hfiled : s.bp.Filed) : Between (dcbEnd r p s) := by
  unfold dcbEnd takeDcb
  split
  · dsimp only
    split
    · refine between_cpRequest ?_ ?_ ?_ ?_ _ _ rfl
      · exact hquiet.of_same ⟨rfl, rfl, rfl⟩
      · exact hjw
      · exact hfu
      · exact hfiled
    · exact judgeShadow_between p (hquiet.of_same ⟨rfl, rfl, rfl⟩) hjw hfu hfiled
  · exact (commandError_undisturbed s).between_grant hquiet hjw hfu hfiled

theorem limitsEnd_between (r : ReadResult 48) {s : State} (hquiet : Quiet s) (hjw : JwRests s)
    (hfu : FuRests s) (hfiled : s.bp.Filed) : Between (limitsEnd r s) := by
  unfold limitsEnd
  split
  · exact between_settle (takeLimits_filed _ s hfiled)
  · exact (commandError_undisturbed s).between_grant hquiet hjw hfu hfiled

theorem tallyEnd_between (r : WriteResult) (t : Transfer) {s : State} (hquiet : Quiet s) (hjw : JwRests s)
    (hfu : FuRests s) (hfiled : s.bp.Filed) : Between (tallyEnd r t s) := by
  unfold tallyEnd takeTally
  split
  · split
    · exact between_cpRequest hquiet hjw hfu hfiled _ _ rfl
    · exact (Undisturbed.of_eq (by simp) (by simp) (by simp) (by simp) (by simp)).between_grant hquiet hjw hfu hfiled
  · exact (commandError_undisturbed s).between_grant hquiet hjw hfu hfiled

/-! ## Every step -/

/-- After a reset nothing is called for, and only an orphan may be in flight. -/
theorem reset_between {s t : State} (htrip : t.gu.tripNotice = none) (hfu : t.fu = FetchUnit.reset)
    (hsu : t.su = ScheduleUnit.reset) (hjw : t.jw = JournalWriter.reset) (hbp : t.bp = s.bp.afterReset) :
    Between t := by
  refine ⟨?_, (rested_iff t).mpr ⟨.inr (by rw [hjw]; rfl), .inr (by rw [hfu]; rfl), ?_⟩, ?_⟩
  · unfold Quiet starving
    rw [htrip, hfu, hsu]
    decide
  · rw [hbp]
    unfold BusPort.afterReset BusPort.grant
    cases s.bp.inFlight <;> rfl
  · rw [hbp]
    exact .afterReset _

theorem takeDeferredRise_trip (n : Fin 16) (s : State) :
    (takeDeferredRise n s).gu.tripNotice = s.gu.tripNotice ∧ (takeDeferredRise n s).gu.latch = s.gu.latch := by
  unfold takeDeferredRise
  split <;> simp

theorem between_stepKeeps : StepKeeps Between where
  queue _ := .of_undisturbed fun _ => .of_eq rfl rfl rfl rfl rfl
  hardReset s _ := reset_between (s := s) rfl rfl rfl rfl rfl
  softReset s _ := reset_between (s := s) rfl rfl rfl rfl rfl
  release := .of_undisturbed fun _ => .of_eq rfl rfl rfl rfl rfl
  irqEnable _ := .of_undisturbed fun _ => .of_eq rfl rfl rfl rfl rfl
  eventMask _ := .of_undisturbed fun _ => .of_eq rfl rfl rfl rfl rfl
  events _ := .of_undisturbed fun _ => .of_eq rfl rfl rfl rfl rfl
  wake := writeWake_between
  argLo _ := .of_undisturbed fun _ => .of_eq rfl rfl rfl rfl rfl
  argHi _ := .of_undisturbed fun _ => .of_eq rfl rfl rfl rfl rfl
  refuse := .of_undisturbed fun _ => .of_eq (by simp) (by simp) (by simp) (by simp) (by simp)
  take _ _ := .of_undisturbed fun _ => .of_eq rfl rfl rfl rfl rfl
  loadContext := takeLoadContext_between
  stageLimits := takeStageLimits_between
  start := takeStart_between
  stop := takeStop_between
  stopAtOnce := takeStopAtOnce_between
  pause := .of_undisturbed fun _ => .of_eq (by simp) (by simp) (by simp) (by simp) (by simp)
  resume := .of_undisturbed fun _ => .of_eq (by simp) (by simp) (by simp) (by simp) (by simp)
  forceLines := .of_undisturbed fun s => .of_eq (takeForceLines_trip s).1 (by simp) (by simp) (by simp) (by simp)
  clearTrip := takeClearTrip_between
  journalOpen := takeJournalOpen_between
  journalFlush := takeJournalFlush_between
  journalClose := takeJournalClose_between
  stamp := takeStamp_between
  dumpTallies := takeDumpTallies_between
  unknown := .of_undisturbed fun _ => .of_eq (by simp) (by simp) (by simp) (by simp) (by simp)
  timeRange := takeTimeRange_between
  application := takeApplication_between
  waitTimeout := takeWaitTimeout_between
  deferredRise n := .of_undisturbed fun s => .of_eq (takeDeferredRise_trip n s).1 (by simp) (by simp) (by simp) (by simp)
  lastFall _ := .of_undisturbed fun _ => .of_eq (by simp) (by simp) (by simp) (by simp) (by simp)
  blankEnd := takeBlankEnd_between
  escalation := takeEscalation_between
  linkWatch := takeLinkWatch_between
  sheetRecheck := takeSheetRecheck_between
  flushAge := takeFlushAge_between
  ticked := .of_undisturbed fun _ => .of_eq (by simp) (by simp) (by simp) (by simp) (by simp)
  advance := .of_undisturbed fun _ => .of_eq (by simp) (by simp) (by simp) (by simp) (by simp)
  assertion := takeAssertion_between
  deassertion := takeDeassertion_between
  edge := takeEdge_between
  admission := takeStepAdmission_between
  faultRun _ _ := .of_undisturbed fun _ => .of_eq rfl rfl rfl rfl rfl
  inputRun _ _ := .of_undisturbed fun _ => .of_eq rfl rfl rfl rfl rfl
  busAges := .of_undisturbed fun s => ⟨⟨rfl, rfl, rfl⟩, id, s.bp.period_alike⟩
  sourceAges := .of_undisturbed fun _ => .of_eq rfl rfl rfl rfl rfl
  headerRead r := .between_endTransfer fun t s _ _ hfiled _ _ => between_settle (headerTaken_filed r t s hfiled)
  stepRead r := .between_endTransfer fun t s _ _ hfiled _ _ => between_settle (stepsTaken_filed r t s hfiled)
  linkRead r := .between_endTransfer fun t s _ _ hfiled _ _ => between_settle (linkTaken_filed r t s hfiled)
  retireWrite r := .between_endTransfer fun _ s _ _ hfiled _ _ => between_settle (retireTaken_filed r s hfiled)
  sheetRead r := .between_jwEnd (fun _ => owner_of_isSheetRead) (fun _ _ => ⟨by simp, by simp, by simp⟩) fun t s =>
    (sheetReadTaken_noMore r t s).bus
  recordWrite r := .between_jwEnd (fun _ => owner_of_isRecordWrite) (fun _ _ => ⟨by simp, by simp, by simp⟩)
    fun _ s => (recordTaken_noMore r s).bus
  sheetWrite r := .between_jwEnd (fun _ => owner_of_isSheetWrite) (fun _ _ => ⟨by simp, by simp, by simp⟩) fun t s =>
    (sheetWriteTaken_noMore r t s).bus
  dcbRead r p := .between_cpEnd (fun k hk => by rw [eq_of_beq hk]; rfl) fun _ _ => dcbEnd_between r p
  limitsRead r := .between_cpEnd (fun k hk => by rw [eq_of_beq hk]; rfl) fun _ _ => limitsEnd_between r
  tallyWrite r := .between_cpEnd (fun _ => owner_of_isTallyWrite) fun t _ => tallyEnd_between r t

/-- Settles O59: every event ends by taking its notices and making its requests, or disturbs neither. -/
theorem betweenEventsKept : Obligations.BetweenEventsKept := fun _ _ hs e => between_stepKeeps.step hs e

/-- Settles O60: at reset nothing is driven, tracked, held, queued or asked for. -/
theorem invariantsAtReset : Obligations.InvariantsAtReset := by
  obtain ⟨hquiet, hrested, hfiled⟩ := reset_between (s := State.reset) (t := State.reset) rfl rfl rfl rfl rfl
  exact ⟨reset_osSafe, reset_shaped, ⟨rfl, fun _ => .inl rfl⟩, reset_within (s := State.reset) rfl rfl rfl, hquiet,
    hrested, hfiled⟩

end Sys2Proof.Machine
end

/-! The register window and the two resets (R170, R180, R181, R184, R185, R190), and the commands that the port answers
or starts by itself (R169, R172, R173, R177, R187, R85, R88, R90). -/
section
namespace Sys2Proof.Machine

/-- Settles O1: a step takes the front command with the rest of the queue behind it. -/
theorem frontCommandRuns : Obligations.FrontCommandRuns := fun _ _ _ => rfl

theorem next_congr {s t : State} (h : s = t) : (.next s : Host.Outcome State Fault Refusal) = .next t := congrArg _ h

/-! ## Fields of a register word (12.2) -/

theorem fieldAt_getLsbD (n v i : Nat) :
    (fieldAt n v).getLsbD i = (decide (i < 32) && (decide (n ≤ i) && v.testBit (i - n))) := by
  unfold fieldAt
  rw [BitVec.getLsbD_ofNat, Nat.testBit_mul_two_pow]

theorem Bool.testBit_toNat_of_pos {k : Nat} (b : Bool) (h : 1 ≤ k) : b.toNat.testBit k = false :=
  Nat.testBit_lt_two_pow ((Bool.toNat_lt b).trans_le (Nat.pow_le_pow_right Nat.two_pos h : 2 ^ 1 ≤ 2 ^ k))

theorem Result.testBit_code {k : Nat} (r : Result) (h : 4 ≤ k) : r.code.testBit k = false := by
  have hr : r.code < 2 ^ 4 := by cases r <;> decide
  exact Nat.testBit_lt_two_pow (hr.trans_le (Nat.pow_le_pow_right (by decide) h))

theorem ProgramState.testBit_code {k : Nat} (p : ProgramState) (h : 2 ≤ k) : p.code.testBit k = false := by
  have hp : p.code < 2 ^ 2 := by cases p <;> decide
  exact Nat.testBit_lt_two_pow (hp.trans_le (Nat.pow_le_pow_right (by decide) h))

theorem JournalState.testBit_code {k : Nat} (j : JournalState) (h : 3 ≤ k) : j.code.testBit k = false := by
  have hj : j.code < 2 ^ 3 := by cases j <;> decide
  exact Nat.testBit_lt_two_pow (hj.trans_le (Nat.pow_le_pow_right (by decide) h))

/-- STATUS bit by bit: the field that a bit stands in. -/
theorem statusWord_getLsbD (s : State) (i : Nat) : (statusWord s).getLsbD i =
    (decide (i < 32) &&
      ((decide (0 ≤ i) && s.cp.inProgress.isSome.toNat.testBit (i - 0)) ||
        (decide (4 ≤ i) && s.cp.lastResult.code.testBit (i - 4)) ||
        (decide (8 ≤ i) && s.su.program.code.testBit (i - 8)) || (decide (10 ≤ i) && (held s).toNat.testBit (i - 10)) ||
        (decide (11 ≤ i) && (s.fu.state == .watching).toNat.testBit (i - 11)) ||
        (decide (12 ≤ i) && s.jw.state.code.testBit (i - 12)) || (decide (15 ≤ i) && s.gu.latch.toNat.testBit (i - 15)) ||
        (decide (16 ≤ i) && s.cp.contextLoaded.toNat.testBit (i - 16)))) := by
  simp only [statusWord, BitVec.getLsbD_or, fieldAt_getLsbD, Bool.and_or_distrib_left]

/-- A part of a word as a number, by its bits. -/
theorem extract_toNat_eq {w : Word} {n len v : Nat} (hv : v < 2 ^ len)
    (h : ∀ i < len, w.getLsbD (n + i) = v.testBit i) : (w.extractLsb' n len).toNat = v := by
  refine Nat.eq_of_testBit_eq fun i => ?_
  rw [BitVec.testBit_toNat, BitVec.getLsbD_extractLsb']
  by_cases hi : i < len
  · simp [hi, h i hi]
  · have hlt : v < 2 ^ i := hv.trans_le (Nat.pow_le_pow_right (by decide) (Nat.le_of_not_lt hi))
    simp [hi, Nat.testBit_lt_two_pow hlt]

theorem statusWord_fields (s : State) :
    ((statusWord s).getLsbD 0 = s.cp.inProgress.isSome) ∧
      ((statusWord s).extractLsb' 4 4).toNat = s.cp.lastResult.code ∧
      ((statusWord s).extractLsb' 8 2).toNat = s.su.program.code ∧ (statusWord s).getLsbD 10 = held s ∧
      ((statusWord s).getLsbD 11 = true ↔ s.fu.state = .watching) ∧
      ((statusWord s).extractLsb' 12 3).toNat = s.jw.state.code ∧ (statusWord s).getLsbD 15 = s.gu.latch ∧
      (statusWord s).getLsbD 16 = s.cp.contextLoaded := by
  have bit0 (b : Bool) : b.toNat.testBit 0 = b := by cases b <;> rfl
  refine ⟨?_, extract_toNat_eq ?_ fun i hi => ?_, extract_toNat_eq ?_ fun i hi => ?_, ?_, ?_,
    extract_toNat_eq ?_ fun i hi => ?_, ?_, ?_⟩
  case refine_2 => cases s.cp.lastResult <;> decide
  case refine_4 => cases s.su.program <;> decide
  case refine_8 => cases s.jw.state <;> decide
  all_goals rw [statusWord_getLsbD]
  case refine_3 => interval_cases i <;> simp [Bool.testBit_toNat_of_pos, bit0]
  case refine_5 => interval_cases i <;> simp [Bool.testBit_toNat_of_pos, Result.testBit_code]
  case refine_9 =>
    interval_cases i <;>
      simp [Bool.testBit_toNat_of_pos, Result.testBit_code, ProgramState.testBit_code]
  all_goals
    simp [Bool.testBit_toNat_of_pos, Result.testBit_code, ProgramState.testBit_code, JournalState.testBit_code, bit0]

theorem cmdWord_fields (s : State) :
    (cmdWord s).extractLsb' 0 8 = s.cp.lastCode ∧ (cmdWord s).extractLsb' 16 16 = s.cp.lastOperand := by
  have hcode (i : Nat) (hi : 16 ≤ i) : s.cp.lastCode.getLsbD i = false := BitVec.getLsbD_of_ge _ _ (by omega)
  constructor <;> refine BitVec.eq_of_getLsbD_eq fun i hi => ?_ <;>
    simp only [cmdWord, BitVec.getLsbD_extractLsb', BitVec.getLsbD_or, fieldAt_getLsbD, BitVec.testBit_toNat]
  · have h16 : ¬16 ≤ i := by omega
    have h32 : i < 32 := by omega
    simp [hi, h16, h32]
  · have h32 : 16 + i < 32 := by omega
    simp [hi, h32, hcode (16 + i) (by omega)]

/-- An offset that names no register reads 0. -/
theorem readRegister_of_no_register {s : State} (h : s.resetAsserted = false) {off : Nat}
    (hoff : 0x20 ≤ off ∨ off % 4 ≠ 0) : readRegister s off .bits32 = some 0#32 := by
  unfold readRegister
  rw [if_neg (by simp [h]), if_neg (by decide)]
  split <;> first | rfl | omega

/-- Settles O4, register by register. -/
theorem registerReads : Obligations.RegisterReads := by
  intro s
  refine ⟨fun h _ _ => by simp [readRegister, h], fun h => ⟨fun off size hsize => ?_, ?_, ?_, ?_, ?_, ?_, ?_,
    readRegister_events h, readRegister_eventMask h, ?_, ?_⟩⟩
  · simp [readRegister, h, hsize]
  · simp [readRegister, h, Config.identWord]
  · cases he : s.ev.irqEnable <;> simp [readRegister, h, he, fieldAt]
  · simp [readRegister, h]
  · simp [readRegister, h]
  · exact ⟨cmdWord s, by simp [readRegister, h], cmdWord_fields s⟩
  · exact ⟨statusWord s, readRegister_status h, statusWord_fields s⟩
  · exact fun off hoff => readRegister_of_no_register h (.inl hoff)
  · exact fun off hoff => readRegister_of_no_register h (.inr hoff)

/-! ## Register writes -/

theorem exec_registerWrite_of_released {s : State} (h : s.resetAsserted = false) (off : Nat) (size : AccessSize)
    (v : Word) : exec (.registerWrite off size v) s = .next (writeRegister off size v s) :=
  congrArg _ (registerAccess_of_released h _)

theorem writeRegister_of_size {size : AccessSize} (h : size ≠ .bits32) (off : Nat) (v : Word) (s : State) :
    writeRegister off size v s = s := if_pos h

/-- A write to IDENT or STATUS, or beyond WAKE, is ignored. -/
theorem writeRegister_of_no_register {off : Nat} (h : off = 0x00 ∨ off = 0x14 ∨ 0x20 < off) (v : Word) (s : State) :
    writeRegister off .bits32 v s = s := by
  unfold writeRegister
  rw [if_neg (by decide)]
  split <;> first | rfl | omega

/-- The bits of the causes are the thirteen bits of the two registers. -/
theorem Cause.bit_lt (c : Cause) : c.bit < 13 := by cases c <;> decide

theorem setWidth_getLsbD_bit (v : Word) (c : Cause) : (v.setWidth 13).getLsbD c.bit = v.getLsbD c.bit := by
  simp [c.bit_lt]

/-- Settles O6, write by write. -/
theorem registerWrites : Obligations.RegisterWrites := by
  intro v s h
  refine ⟨exec_irqEnable_of_released h, ⟨_, exec_eventMask_of_released h v, setWidth_getLsbD_bit v⟩,
    ⟨_, exec_eventsClear_of_released h v, fun c => ?_⟩, exec_registerWrite_of_released h _ _ _,
    exec_registerWrite_of_released h _ _ _, fun off size hsize => ?_, fun off hoff => ?_⟩
  · rw [BitVec.getLsbD_and, BitVec.getLsbD_not, setWidth_getLsbD_bit]
    simp [c.bit_lt]
  · rw [exec_registerWrite_of_released h, writeRegister_of_size hsize]
  · rw [exec_registerWrite_of_released h, writeRegister_of_no_register hoff]

/-! ## RESET# -/

theorem registerAccess_of_asserted {s : State} (h : s.resetAsserted = true) (f : State → State) :
    registerAccess f s = s := if_pos h

theorem cmdWrite_of_asserted {s : State} (h : s.resetAsserted = true) (code : Byte) (op : Half)
    (owner : State → State) : cmdWrite code op owner s = s := if_pos h

/-- Every CMD write is a `cmdWrite`, each with its code and its owner. -/
theorem exec_of_writesCmd {c : Instr} (h : writesCmd c = true) :
    ∃ code op owner, ∀ s, exec c s = .next (cmdWrite code op owner s) := by
  cases c with
  | loadContext op => exact ⟨_, _, _, fun _ => rfl⟩
  | stageLimits op => exact ⟨_, _, _, fun _ => rfl⟩
  | startProgram op => exact ⟨_, _, _, fun _ => rfl⟩
  | stopProgramDrain op => exact ⟨_, _, _, fun _ => rfl⟩
  | stopProgramAtOnce => exact ⟨_, _, _, fun _ => rfl⟩
  | pause op => exact ⟨_, _, _, fun _ => rfl⟩
  | resume op => exact ⟨_, _, _, fun _ => rfl⟩
  | forceLines op => exact ⟨_, _, _, fun _ => rfl⟩
  | clearTrip op => exact ⟨_, _, _, fun _ => rfl⟩
  | journalOpen op => exact ⟨_, _, _, fun _ => rfl⟩
  | journalFlush op => exact ⟨_, _, _, fun _ => rfl⟩
  | journalClose op => exact ⟨_, _, _, fun _ => rfl⟩
  | stamp op => exact ⟨_, _, _, fun _ => rfl⟩
  | dumpTallies op => exact ⟨_, _, _, fun _ => rfl⟩
  | unknownCommand code op => exact ⟨_, _, _, fun _ => rfl⟩
  | _ => cases h

/-- Every other write of the window is a `registerAccess`. -/
theorem exec_of_writesWindow {c : Instr} (h : writesWindow c = true) :
    (∃ f, ∀ s, exec c s = .next (registerAccess f s)) ∨ writesCmd c = true := by
  cases c with
  | softReset v => exact .inl ⟨_, fun _ => rfl⟩
  | irqEnable v => exact .inl ⟨_, fun _ => rfl⟩
  | eventMask v => exact .inl ⟨_, fun _ => rfl⟩
  | eventsClear v => exact .inl ⟨_, fun _ => rfl⟩
  | wake v => exact .inl ⟨_, fun _ => rfl⟩
  | registerWrite off size v => exact .inl ⟨_, fun _ => rfl⟩
  | _ => exact .inr h

/-- Settles O8: a register write, a CMD write and a tick each look at RESET# first. -/
theorem windowClosedInReset : Obligations.WindowClosedInReset := by
  rintro c s h (hwrites | rfl)
  · obtain ⟨f, hf⟩ | hcmd := exec_of_writesWindow hwrites
    · rw [hf, registerAccess_of_asserted h]
    · obtain ⟨code, op, owner, hc⟩ := exec_of_writesCmd hcmd
      rw [hc, cmdWrite_of_asserted h]
  · exact next_congr (if_pos h)

/-- Settles O9: the fields of `hardReset`. -/
theorem hardwareReset : Obligations.HardwareReset := fun _ =>
  ⟨⟨_, rfl, rfl, rfl, rfl, rfl, rfl, rfl, rfl, rfl, rfl, rfl, rfl, rfl, rfl⟩, rfl⟩

theorem exec_softReset_of_released {s : State} (h : s.resetAsserted = false) {v : Word} (hv : v.getLsbD 0 = true) :
    exec (.softReset v) s = .next (softReset s) :=
  next_congr ((registerAccess_of_released h _).trans (if_pos hv))

/-- Settles O11, by evaluation. -/
theorem resetValues : Obligations.ResetValues := by
  unfold Obligations.ResetValues
  decide

/-! ## A busy port, an unknown code (R169, R172) -/

theorem cmdWrite_of_busy {s : State} (h : s.resetAsserted = false) (hbusy : s.cp.inProgress.isSome = true) (code : Byte)
    (op : Half) (owner : State → State) : cmdWrite code op owner s = { s with ev := s.ev.raise .cmdRefused } := by
  simp [cmdWrite, h, hbusy, raise]

/-- Settles O12: every CMD write is a `cmdWrite`, whatever its owner. -/
theorem busyPortRefuses : Obligations.BusyPortRefuses := by
  intro c s hcmd h hbusy
  obtain ⟨code, op, owner, hc⟩ := exec_of_writesCmd hcmd
  rw [hc, cmdWrite_of_busy h hbusy]

theorem ownerOf_unknown {code : Byte} (h : code.toNat = 0 ∨ 13 < code.toNat) (op : Half) (s : State) :
    ownerOf code op s = complete .unknownCommand s := by
  unfold ownerOf
  split <;> first | rfl | omega

/-- Settles O15: the code has no owner but the port. -/
theorem unknownCodeAnswered : Obligations.UnknownCodeAnswered := by
  intro code op s hcode hready
  refine next_congr ?_
  rw [cmdWrite_of_ready hready, ownerOf_unknown hcode, complete_take]

/-! ## LOAD_CONTEXT and STAGE_LIMITS (R173, R177) -/

theorem exec_loadContext_of_ready {s : State} (h : Ready s) (op : Half) :
    exec (.loadContext op) s = .next (takeLoadContext (portTaken 1#8 op s)) :=
  congrArg _ (cmdWrite_of_ready h 1#8 op takeLoadContext)

theorem exec_stageLimits_of_ready {s : State} (h : Ready s) (op : Half) :
    exec (.stageLimits op) s = .next (takeStageLimits (portTaken 2#8 op s)) :=
  congrArg _ (cmdWrite_of_ready h 2#8 op takeStageLimits)

theorem argument_portTaken (code : Byte) (op : Half) (s : State) : argument (portTaken code op s) = argWords s := rfl

theorem takeLoadContext_of_state {s : State} (h : s.su.program ≠ .idle ∨ s.jw.state ≠ .off) :
    takeLoadContext s = complete .state s := if_pos h

theorem takeLoadContext_of_unaligned {s : State} (hidle : s.su.program = .idle) (hoff : s.jw.state = .off)
    (h : (argument s).toNat % 64 ≠ 0) : takeLoadContext s = complete .badArgument s := by
  rw [takeLoadContext, if_neg (by simp [hidle, hoff]), if_pos h]

theorem takeLoadContext_accepted {s : State} (hidle : s.su.program = .idle) (hoff : s.jw.state = .off)
    (h : (argument s).toNat % 64 = 0) :
    takeLoadContext s = grant (requestDcb { s with cp := { s.cp with shadow := [] } }) := by
  rw [takeLoadContext, if_neg (by simp [hidle, hoff]), if_neg (by simp [h])]

/-- The first read of a block is at the argument. -/
theorem dcbAddress_zero (a : Addr) : dcbAddress a 0 = a := by simp [dcbAddress]

theorem takeStageLimits_of_no_context {s : State} (h : s.cp.contextLoaded = false) :
    takeStageLimits s = complete .noContext s := if_pos h

theorem takeStageLimits_of_unaligned {s : State} (hloaded : s.cp.contextLoaded = true)
    (h : (argument s).toNat % 16 ≠ 0) : takeStageLimits s = complete .badArgument s := by
  rw [takeStageLimits, if_neg (by simp [hloaded]), if_pos h]

theorem takeStageLimits_accepted {s : State} (hloaded : s.cp.contextLoaded = true)
    (h : (argument s).toNat % 16 = 0) : takeStageLimits s = grant (request .limitsRead (argument s) s) := by
  rw [takeStageLimits, if_neg (by simp [hloaded]), if_neg (by simp [h])]

/-- Settles O16, by the checks of the two commands in their order. -/
theorem readingCommandsStart : Obligations.ReadingCommandsStart := by
  intro op s hready
  rw [exec_loadContext_of_ready hready, exec_stageLimits_of_ready hready]
  refine ⟨fun h => ?_, fun hidle hoff h => ?_, fun hidle hoff h => ?_, fun h => ?_, fun hloaded h => ?_,
    fun hloaded h => ?_⟩
  · rw [takeLoadContext_of_state (s := portTaken 1#8 op s) h, complete_portTaken]
  · rw [takeLoadContext_of_unaligned (s := portTaken 1#8 op s) hidle hoff h, complete_portTaken]
  · rw [takeLoadContext_accepted (s := portTaken 1#8 op s) hidle hoff h, requestDcb]
    simp only [List.length_nil, Nat.zero_div, dcbAddress_zero]
    rfl
  · rw [takeStageLimits_of_no_context (s := portTaken 2#8 op s) h, complete_portTaken]
  · rw [takeStageLimits_of_unaligned (s := portTaken 2#8 op s) hloaded h, complete_portTaken]
  · rw [takeStageLimits_accepted (s := portTaken 2#8 op s) hloaded h]
    rfl

/-! ## The refusals of START_PROGRAM and STOP_PROGRAM (R85, R88, R90) -/

theorem exec_startProgram_of_ready {s : State} (h : Ready s) (op : Half) :
    exec (.startProgram op) s = .next (takeStart (portTaken 3#8 op s)) :=
  congrArg _ (cmdWrite_of_ready h 3#8 op takeStart)

theorem exec_stopProgramDrain_of_ready {s : State} (h : Ready s) (op : Half) :
    exec (.stopProgramDrain op) s = .next (takeStop op (portTaken 4#8 op s)) :=
  congrArg _ (cmdWrite_of_ready h 4#8 op (takeStop op))

theorem exec_stopProgramAtOnce_of_ready {s : State} (h : Ready s) :
    exec .stopProgramAtOnce s = .next (takeStopAtOnce (portTaken 4#8 2#16 s)) :=
  congrArg _ (cmdWrite_of_ready h 4#8 2#16 takeStopAtOnce)

theorem takeStop_drain (s : State) : takeStop 1#16 s = takeDrain s := rfl

theorem takeStop_of_no_mode {op : Half} (h1 : op ≠ 1#16) (h2 : op ≠ 2#16) (s : State) :
    takeStop op s = complete .badArgument s := by
  rw [takeStop, if_neg h1, if_neg h2]

theorem takeDrain_of_not_running {s : State} (h : s.su.program = .idle ∨ s.su.program = .stopping) :
    takeDrain s = complete .notRunning s := by
  rcases h with h | h <;> simp [takeDrain, h]

theorem takeDrain_of_draining {s : State} (h : s.su.program = .draining) : takeDrain s = complete .state s := by
  simp [takeDrain, h]

theorem takeDrain_of_running {s : State} (h : s.su.program = .running) : takeDrain s = drainProgram s := by
  simp [takeDrain, h]

theorem takeStopAtOnce_of_not_running {s : State} (h : s.su.program = .idle ∨ s.su.program = .stopping) :
    takeStopAtOnce s = complete .notRunning s := by
  rcases h with h | h <;> simp [takeStopAtOnce, h]

theorem takeStopAtOnce_of_active {s : State} (h : s.su.program = .running ∨ s.su.program = .draining) :
    takeStopAtOnce s = settle (enterStopping .stopped .none s) := by
  rcases h with h | h <;> simp [takeStopAtOnce, h]

theorem takeStart_of_not_idle {s : State} (h : s.su.program ≠ .idle) : takeStart s = complete .state s := if_pos h

theorem takeStart_of_no_context {s : State} (hidle : s.su.program = .idle) (h : s.cp.contextLoaded = false) :
    takeStart s = complete .noContext s := by
  simp [takeStart, hidle, h]

theorem takeStart_of_tripped {s : State} (hidle : s.su.program = .idle) (hloaded : s.cp.contextLoaded = true)
    (h : s.gu.latch = true) : takeStart s = complete .tripped s := by
  simp [takeStart, hidle, hloaded, h]

theorem takeStart_of_unaligned {s : State} (hidle : s.su.program = .idle) (hloaded : s.cp.contextLoaded = true)
    (hlatch : s.gu.latch = false) (h : (argument s).toNat % 32 ≠ 0) : takeStart s = complete .badArgument s := by
  simp [takeStart, hidle, hloaded, hlatch, h]

theorem takeStart_accepted {s : State} (hidle : s.su.program = .idle) (hloaded : s.cp.contextLoaded = true)
    (hlatch : s.gu.latch = false) (h : (argument s).toNat % 32 = 0) : takeStart s = startAt (argument s) s := by
  simp [takeStart, hidle, hloaded, hlatch, h]

/-- Settles O17, by the checks of the two commands in their order. -/
theorem programCommandsRefused : Obligations.ProgramCommandsRefused := by
  intro op s hready
  rw [exec_startProgram_of_ready hready, exec_stopProgramDrain_of_ready hready,
    exec_stopProgramDrain_of_ready hready, exec_stopProgramAtOnce_of_ready hready, takeStop_drain]
  refine ⟨fun h => ?_, fun hidle h => ?_, fun hidle hloaded h => ?_, fun hidle hloaded hlatch h => ?_,
    fun h1 h2 => ?_, fun h => ⟨?_, ?_⟩, fun h => ?_⟩
  · rw [takeStart_of_not_idle (s := portTaken 3#8 op s) h, complete_portTaken]
  · rw [takeStart_of_no_context (s := portTaken 3#8 op s) hidle h, complete_portTaken]
  · rw [takeStart_of_tripped (s := portTaken 3#8 op s) hidle hloaded h, complete_portTaken]
  · rw [takeStart_of_unaligned (s := portTaken 3#8 op s) hidle hloaded hlatch h, complete_portTaken]
  · rw [takeStop_of_no_mode h1 h2, complete_portTaken]
  · rw [takeDrain_of_not_running (s := portTaken 4#8 1#16 s) h, complete_portTaken]
  · rw [takeStopAtOnce_of_not_running (s := portTaken 4#8 2#16 s) h, complete_portTaken]
  · rw [takeDrain_of_draining (s := portTaken 4#8 1#16 s) h, complete_portTaken]

end Sys2Proof.Machine

namespace Sys2Proof
open Machine

/-- Settles O10: the fields of the state that a soft reset leaves. -/
theorem softReset : Obligations.SoftReset := by
  intro v s hv h
  refine ⟨_, exec_softReset_of_released h hv, rfl, rfl, fun n => ?_, rfl, rfl, rfl, rfl, rfl, rfl, rfl, rfl, rfl, h,
    rfl⟩
  simp [Machine.softReset, OutputStage.softReset]

end Sys2Proof
end

/-! What the requests that end an event leave as it is, of a state between events; the journal's commands, CLEAR_TRIP,
DUMP_TALLIES and WAKE; the intervals (R23, R134, R156, R157, R164, R165, R187). -/
section
namespace Sys2Proof.Machine

/-! ## The JW's request after a state between events -/

/-- A CLOSING journal has its transfer outstanding. -/
def CloseAsked (s : State) : Prop := s.jw.state = .closing → s.bp.outstanding .jw = true

theorem JwRests.closeAsked {s : State} (h : JwRests s) : CloseAsked s := by
  intro hclosing
  obtain hout | hcalls := h
  · exact hout
  · simp [JournalWriter.calls, hclosing] at hcalls

theorem Rested.jwRests {s : State} (h : Rested s) : JwRests s := ((rested_iff s).mp h).1

theorem Rested.fuRests {s : State} (h : Rested s) : FuRests s := ((rested_iff s).mp h).2.1

theorem Rested.closeAsked {s : State} (h : Rested s) : CloseAsked s := h.jwRests.closeAsked

theorem CloseAsked.congr {s t : State} (h : CloseAsked s) (hjw : t.jw.state = s.jw.state)
    (hbp : t.bp.outstanding .jw = s.bp.outstanding .jw) : CloseAsked t := by
  unfold CloseAsked
  rw [hjw, hbp]
  exact h

theorem jwPump_of_outstanding {s : State} (h : s.bp.outstanding .jw = true) : jwPump s = s := by simp [jwPump, h]

theorem jwPump_of_not_calls {s : State} (h : s.jw.calls = false) : jwPump s = s := jwPump_of_rests (.inr h)

/-- The JW's request ends no close that has not asked for its transfer, and so keeps the port, the events, the held
records and the lost count. -/
theorem jwPump_kept_of_closeAsked {s : State} (h : CloseAsked s) : RecordsKept s (jwPump s) := by
  by_cases htakes : s.jw.state.takes = true
  · exact jwPump_kept htakes
  · obtain hoff | hclosing | hfaulted := (not_takes_iff _).mp htakes
    · rw [jwPump_of_not_calls (by simp [JournalWriter.calls, hoff])]
      exact .refl s
    · rw [jwPump_of_outstanding (h hclosing)]
      exact .refl s
    · rw [jwPump_of_not_calls (by simp [JournalWriter.calls, hfaulted])]
      exact .refl s

theorem jwRun_kept_of_closeAsked {s : State} (h : CloseAsked s) : RecordsKept s (jwRun s) :=
  have hk := jwPump_kept_of_closeAsked h
  ⟨hk.cp, hk.ev, hk.state, hk.fifo, hk.lostCount⟩

theorem jwRun_of_outstanding {s : State} (h : s.bp.outstanding .jw = true) : jwRun s = grant s := by
  rw [jwRun, jwPump_of_outstanding h]

theorem jwRun_of_not_calls {s : State} (h : s.jw.calls = false) : jwRun s = grant s := by
  rw [jwRun, jwPump_of_not_calls h]

theorem grant_of_rested {s : State} (h : Rested s) : grant s = s := by
  obtain ⟨_, _, hgrant⟩ := h
  unfold grant
  rw [hgrant]

theorem pump_of_rested {s : State} (h : Rested s) : pump s = s := by
  have hgrant := grant_of_rested h
  obtain ⟨hjw, hfu, _⟩ := h
  rw [pump, hjw, hfu, hgrant]

/-- An event that disturbs nothing, of a state between events, needs no request. -/
theorem Rested.undisturbed {s t : State} (h : Rested s) (hu : Undisturbed s t) : Rested t := by
  obtain ⟨hjw, hfu, hgrant⟩ := (rested_iff s).mp h
  exact (rested_iff t).mpr ⟨hjw.of_same hu.calls (hu.bus.outstanding .jw),
    hfu.of_same hu.toSameNotices (hu.bus.outstanding .fu), hu.bus.grant_of_grant hgrant⟩

theorem settle_of_between {s : State} (hquiet : Quiet s) (hrested : Rested s) : settle s = s := by
  rw [settle, takeNotices_of_quiet hquiet, pump_of_rested hrested]

/-- Taking a command changes the Command Port alone. -/
@[simp] theorem portTaken_frame (code : Byte) (op : Half) (s : State) :
    (portTaken code op s).tb = s.tb ∧ (portTaken code op s).fu = s.fu ∧ (portTaken code op s).su = s.su ∧
      (portTaken code op s).os = s.os ∧ (portTaken code op s).gu = s.gu ∧ (portTaken code op s).cx = s.cx ∧
      (portTaken code op s).jw = s.jw ∧ (portTaken code op s).ev = s.ev ∧ (portTaken code op s).bp = s.bp ∧
      (portTaken code op s).pins = s.pins ∧ (portTaken code op s).resetAsserted = s.resetAsserted ∧
      (portTaken code op s).oracle = s.oracle ∧ (portTaken code op s).pending = s.pending :=
  ⟨rfl, rfl, rfl, rfl, rfl, rfl, rfl, rfl, rfl, rfl, rfl, rfl, rfl⟩

/-- The port after a command that completes in the event that took it (R171). -/
theorem complete_cp_of_taken {code : Byte} {op : Half} {s t : State} (h : t.cp = (portTaken code op s).cp) (r : Result) :
    (complete r t).cp = (answered code op r s).cp := by
  unfold complete
  rw [h]
  rfl

/-! ## CLEAR_TRIP (R134) -/

theorem exec_clearTrip_of_ready {s : State} (h : Ready s) (op : Half) :
    exec (.clearTrip op) s = .next (takeClearTrip (portTaken 8#8 op s)) :=
  next_congr (cmdWrite_of_ready h 8#8 op takeClearTrip)

theorem sourceActive_iff (g : GuardUnit) :
    sourceActive g = true ↔ ∃ n : Fin 4, g.sources.getLsbD n.val = true ∧ g.inputs[n].state = .active := by
  simp [sourceActive]

theorem takeClearTrip_of_not_tripped {s : State} (h : s.gu.latch = false) :
    takeClearTrip s = complete .notTripped s := if_pos h

theorem takeClearTrip_of_active {s : State} (hlatch : s.gu.latch = true) (h : sourceActive s.gu = true) :
    takeClearTrip s = complete .stillAsserted s := by
  simp [takeClearTrip, hlatch, h]

theorem takeClearTrip_accepted {s : State} (hlatch : s.gu.latch = true) (h : sourceActive s.gu = false) :
    takeClearTrip s = jwRun (complete .ok (clearLatch s)) := by
  simp [takeClearTrip, hlatch, h]

/-- The latch is cleared, every coverage removed and the lines resolved, one record offered. -/
theorem clearLatch_parts (s : State) :
    (clearLatch s).gu.latch = false ∧ (clearLatch s).gu.sources = 0#4 ∧ (clearLatch s).gu.mask = 0#16 ∧
      (clearLatch s).os = s.os.uncover.resolve s.tb.tl ∧ (clearLatch s).jw = s.jw.offer (clearedRecord s.tb.tl) := by
  unfold clearLatch osEvent
  simp [osResolve, GuardUnit.clearTrip]

theorem uncover_resolve_covered (o : OutputStage) (t : Time) (n : Fin 16) :
    (o.uncover.resolve t).lines[n].covered = false := by
  obtain ⟨_, _, _, _, _, hcovered, _⟩ := resolve_same t o.uncover n
  rw [hcovered, OutputStage.uncover, mapLines_line]

/-- Settles O22, by the checks of `takeClearTrip` in their order. -/
theorem clearTrip : Obligations.ClearTrip := by
  intro op s hready hrested
  rw [exec_clearTrip_of_ready hready]
  refine ⟨fun h => ?_, fun hlatch h => ?_, fun hlatch h => ?_⟩
  · rw [takeClearTrip_of_not_tripped (s := portTaken 8#8 op s) h, complete_portTaken]
  · rw [takeClearTrip_of_active (s := portTaken 8#8 op s) hlatch ((sourceActive_iff s.gu).mpr h), complete_portTaken]
  · have hinactive : sourceActive s.gu = false := by simpa using mt (sourceActive_iff s.gu).mp h
    obtain ⟨hcleared, hsources, hmask, hos, hjw⟩ := clearLatch_parts (portTaken 8#8 op s)
    have hkept : RecordsKept (complete .ok (clearLatch (portTaken 8#8 op s)))
        (jwRun (complete .ok (clearLatch (portTaken 8#8 op s)))) :=
      jwRun_kept_of_closeAsked (hrested.closeAsked.congr (by simp only [complete_frame, hjw]; simp) (by simp))
    refine ⟨_, next_congr (takeClearTrip_accepted (s := portTaken 8#8 op s) hlatch hinactive), ?_⟩
    refine ⟨?_, by simpa using hcleared, by simpa using hsources, by simpa using hmask, fun n => ?_, by simpa using hos,
      ?_, by simp, by simp, by simp, by simp, by simp⟩
    · rw [hkept.cp]
      exact complete_cp_of_taken (by simp) .ok
    · simp only [jwRun_frame, complete_frame, hos]
      exact uncover_resolve_covered s.os s.tb.tl n
    · rw [hkept.fifo]
      simp only [complete_frame, hjw]
      rfl

end Sys2Proof.Machine
end

/-! The journal's commands (R164, R165), DUMP_TALLIES (R187), WAKE (R23, R156) and the intervals (R23, R156, R157). -/
section
namespace Sys2Proof.Machine

/-! ## The JW's next write (R158, R159, R165) -/

theorem exec_journalFlush_of_ready {s : State} (h : Ready s) (op : Half) :
    exec (.journalFlush op) s = .next (takeJournalFlush (portTaken 10#8 op s)) :=
  next_congr (cmdWrite_of_ready h 10#8 op takeJournalFlush)

theorem exec_journalClose_of_ready {s : State} (h : Ready s) (op : Half) :
    exec (.journalClose op) s = .next (takeJournalClose (portTaken 11#8 op s)) :=
  next_congr (cmdWrite_of_ready h 11#8 op takeJournalClose)

theorem exec_dumpTallies_of_ready {s : State} (h : Ready s) (op : Half) :
    exec (.dumpTallies op) s = .next (takeDumpTallies op (portTaken 13#8 op s)) :=
  next_congr (cmdWrite_of_ready h 13#8 op (takeDumpTallies op))

/-- A journal with a sheet open, OPEN or CLOSING, and no transfer outstanding goes on writing. -/
theorem jwPump_of_writing {s : State} {h : OpenSheet} (hst : s.jw.state = .opened ∨ s.jw.state = .closing)
    (hsheet : s.jw.sheet = some h) (hfree : s.bp.outstanding .jw = false) : jwPump s = writeNext h s := by
  rcases hst with hst | hst <;> simp [jwPump, hfree, hst, hsheet]

theorem writeNext_of_sealed {h : OpenSheet} {r : CloseReason} (hsealed : h.sealed = some r) (s : State) :
    writeNext h s = requestHeaderWrite h r s := by
  simp [writeNext, hsealed]

theorem writeNext_of_held {h : OpenSheet} {s : State} {r : Record} {l : List Record} (hsealed : h.sealed = none)
    (hfifo : s.jw.fifo = r :: l) : writeNext h s = allotPlace h r s := by
  simp [writeNext, hsealed, hfifo]

theorem writeNext_of_opened_empty {h : OpenSheet} {s : State} (hsealed : h.sealed = none) (hfifo : s.jw.fifo = [])
    (hst : s.jw.state = .opened) : writeNext h s = s := by
  simp [writeNext, hsealed, hfifo, hst]

theorem writeNext_of_closing_empty {h : OpenSheet} {s : State} (hsealed : h.sealed = none) (hfifo : s.jw.fifo = [])
    (hst : s.jw.state = .closing) : writeNext h s = finishClose h s := by
  simp [writeNext, hsealed, hfifo, hst]

/-- Nothing but the Bus Port changes. -/
structure BusAlone (s t : State) : Prop where
  jw : t.jw = s.jw
  cp : t.cp = s.cp
  ev : t.ev = s.ev

theorem grant_busAlone (s : State) : BusAlone s (grant s) := ⟨rfl, rfl, rfl⟩

/-- An OPEN journal whose sheet is sealed asks for its header write alone. -/
theorem jwRun_of_sealed {s : State} {h : OpenSheet} {r : CloseReason} (hst : s.jw.state = .opened)
    (hsheet : s.jw.sheet = some h) (hsealed : h.sealed = some r) : BusAlone s (jwRun s) := by
  cases hout : s.bp.outstanding .jw with
  | true =>
    rw [jwRun_of_outstanding hout]
    exact grant_busAlone s
  | false =>
    rw [jwRun, jwPump_of_writing (.inl hst) hsheet hout, writeNext_of_sealed hsealed]
    exact ⟨rfl, rfl, rfl⟩

theorem calls_of_sheet_none {j : JournalWriter} (hst : j.state = .opened) (hsheet : j.sheet = none) :
    j.calls = false := by
  simp [JournalWriter.calls, hst, hsheet]

/-- Sealing makes only an OPEN journal call for its transfer. -/
theorem seal_calls {j : JournalWriter} (r : CloseReason) (h : j.calls = false) (hst : j.state ≠ .opened) :
    (j.seal r).calls = false := by
  unfold JournalWriter.calls JournalWriter.seal at *
  split at h <;> simp_all

/-- A journal that seals its sheet, of a state between events, asks for its header write alone, or for nothing. -/
theorem jwRun_of_seal {s t : State} {r : CloseReason} (hs : JwRests s) (hjw : t.jw = s.jw.seal r)
    (hbp : t.bp = s.bp) : BusAlone t (jwRun t) := by
  obtain hout | hcalls := hs
  · rw [jwRun_of_outstanding (by rw [hbp]; exact hout)]
    exact grant_busAlone t
  · by_cases hopen : s.jw.state = .opened
    · have hst : t.jw.state = .opened := by rw [hjw]; exact hopen
      cases hsheet : s.jw.sheet with
      | none =>
        rw [jwRun_of_not_calls (calls_of_sheet_none hst (by rw [hjw, JournalWriter.seal, hsheet]; rfl))]
        exact grant_busAlone t
      | some h =>
        have hsealed : t.jw.sheet = some (h.seal r) := by rw [hjw, JournalWriter.seal, hsheet]; rfl
        exact jwRun_of_sealed hst hsealed rfl
    · rw [jwRun_of_not_calls (by rw [hjw]; exact seal_calls r hcalls hopen)]
      exact grant_busAlone t

/-! ## JOURNAL_FLUSH (R164) -/

theorem takeJournalFlush_of_not_opened {s : State} (h : s.jw.state ≠ .opened) :
    takeJournalFlush s = complete .state s := by
  unfold takeJournalFlush
  split
  next _ hst _ => exact absurd hst h
  next => rfl

theorem takeJournalFlush_of_opened {s : State} {h : OpenSheet} (hst : s.jw.state = .opened)
    (hsheet : s.jw.sheet = some h) :
    takeJournalFlush s = if h.allotted = 0 then complete .ok s else jwRun { s with jw := s.jw.seal .flush } := by
  simp [takeJournalFlush, hst, hsheet]

/-- Settles O24: a sealed sheet of an OPEN journal leaves its header write to ask for, which changes nothing else. -/
theorem journalFlush : Obligations.JournalFlush := by
  intro op s hready
  rw [exec_journalFlush_of_ready hready]
  refine ⟨fun h => ?_, fun h hst hsheet => ?_⟩
  · rw [takeJournalFlush_of_not_opened (s := portTaken 10#8 op s) h, complete_portTaken]
  · rw [takeJournalFlush_of_opened (s := portTaken 10#8 op s) hst hsheet]
    refine ⟨fun h0 => by rw [if_pos h0, complete_portTaken], fun h0 => ?_⟩
    rw [if_neg h0]
    have hseal : ((portTaken 10#8 op s).jw.seal .flush).sheet = some (h.seal .flush) := by
      simp [JournalWriter.seal, hsheet]
    have hrun := jwRun_of_sealed (s := { portTaken 10#8 op s with jw := (portTaken 10#8 op s).jw.seal .flush }) hst hseal
      rfl
    refine ⟨_, rfl, hrun.cp, ?_, hrun.ev, ?_⟩
    · rw [hrun.jw]
      simp [JournalWriter.seal, hsheet, OpenSheet.seal]
    · simp

/-! ## JOURNAL_CLOSE (R165) -/

theorem takeJournalClose_of_off {s : State} (h : s.jw.state = .off) : takeJournalClose s = complete .state s := by
  simp [takeJournalClose, h]

theorem takeJournalClose_of_opened {s : State} (h : s.jw.state = .opened) :
    takeJournalClose s = jwRun { s with jw := { s.jw with state := .closing } } := by
  simp [takeJournalClose, h]

theorem takeJournalClose_of_seeking {s : State} (h : s.jw.state = .seeking) :
    takeJournalClose s = jwRun (closeSeeking (loseHeld s)) := by
  simp [takeJournalClose, h]

theorem takeJournalClose_of_blocked {s : State} (h : s.jw.state = .blocked) :
    takeJournalClose s = endClose .ok (discardSheetRead (loseHeld s)) := by
  simp [takeJournalClose, h]

theorem takeJournalClose_of_faulted {s : State} (h : s.jw.state = .faulted) :
    takeJournalClose s =
      endClose .ok (loseRecords (s.jw.fifo.length + s.jw.written) { s with jw := { s.jw with fifo := [] } }) := by
  simp [takeJournalClose, h]

/-- A transfer in flight after a discard and a grant is marked if the discard's kinds include it. -/
theorem discardIf_grant_discard {p : TransferKind → Bool} {b : BusPort} {f : Flight}
    (hf : (b.discardIf p).grant.inFlight = some f) (hk : p f.transfer.kind = true) : f.transfer.discard = true := by
  have marked (t : Transfer) (u : Transfer) (h : t.discardIf p = u) (hu : p u.kind = true) : u.discard = true := by
    subst h
    simpa [Transfer.discardIf] using .inr hu
  obtain e | ⟨_, ⟨t, ht, e⟩ | ⟨t, ht, e⟩ | ⟨t, ht, e⟩⟩ := (b.discardIf p).grant_cases <;> rw [e] at hf
  · obtain ⟨g, _, rfl⟩ := Option.map_eq_some_iff.mp hf
    exact marked g.transfer _ rfl hk
  all_goals
    cases hf
    obtain ⟨u, _, hu⟩ := Option.map_eq_some_iff.mp ht
    exact marked u t hu hk

/-- An untouched sheet is given up at once by a close; one with places is sealed CLOSED and its header asked for. -/
theorem closing_untouched {s : State} {h : OpenSheet} (hst : s.jw.state = .closing) (hsheet : s.jw.sheet = some h)
    (hfree : s.bp.outstanding .jw = false) (hsealed : h.sealed = none) (hfifo : s.jw.fifo = []) (h0 : h.allotted = 0) :
    jwRun s = grant (endClose .ok s) := by
  rw [jwRun, jwPump_of_writing (.inr hst) hsheet hfree, writeNext_of_closing_empty hsealed hfifo hst, finishClose,
    if_pos h0]

theorem closing_allotted {s : State} {h : OpenSheet} (hst : s.jw.state = .closing) (hsheet : s.jw.sheet = some h)
    (hfree : s.bp.outstanding .jw = false) (hsealed : h.sealed = none) (hfifo : s.jw.fifo = []) (h0 : h.allotted ≠ 0) :
    jwRun s = grant (requestHeaderWrite h .closed { s with jw := s.jw.seal .closed }) := by
  rw [jwRun, jwPump_of_writing (.inr hst) hsheet hfree, writeNext_of_closing_empty hsealed hfifo hst, finishClose,
    if_neg h0]

/-- Settles O25, by the journal's state. -/
theorem journalClose : Obligations.JournalClose := by
  intro op s hready
  rw [exec_journalClose_of_ready hready]
  refine ⟨fun h => ?_, fun h hout => ?_, fun h hst hfree hsheet hsealed hfifo => ?_, fun h hout => ?_, fun h => ?_⟩
  · rw [takeJournalClose_of_off (s := portTaken 11#8 op s) h, complete_portTaken]
  · rw [takeJournalClose_of_opened (s := portTaken 11#8 op s) h, jwRun_of_outstanding (by exact hout)]
    exact ⟨_, rfl, rfl, rfl, rfl, rfl, rfl, rfl, rfl, rfl, rfl⟩
  · rw [takeJournalClose_of_opened (s := portTaken 11#8 op s) hst]
    have closing : ({ portTaken 11#8 op s with jw := { (portTaken 11#8 op s).jw with state := .closing } } :
      State).jw.state = .closing := rfl
    refine ⟨_, rfl, by simp, by simp, by simp, by simp, by simp, by simp, fun h0 => ?_, fun h0 => ?_⟩
    · rw [closing_untouched closing (h := h) hsheet hfree hsealed hfifo h0]
      exact ⟨rfl, rfl, rfl, rfl⟩
    · rw [closing_allotted closing (h := h) hsheet hfree hsealed hfifo h0]
      refine ⟨rfl, ?_, rfl, request_holds _ _ _⟩
      simp [requestHeaderWrite, JournalWriter.seal, hsheet, OpenSheet.seal, hsealed, request]
  · have hmarked : (closeSeeking (loseHeld (portTaken 11#8 op s))).bp.outstanding .jw = true := by
      have halike : s.bp.Alike (closeSeeking (loseHeld (portTaken 11#8 op s))).bp := BusPort.discardIf_alike _ s.bp
      rw [halike.outstanding]
      exact hout
    rw [takeJournalClose_of_seeking (s := portTaken 11#8 op s) h, jwRun_of_outstanding hmarked]
    refine ⟨_, rfl, rfl, rfl, rfl, rfl, rfl, fun f hf hk => ?_, rfl, rfl, rfl, rfl, rfl, rfl⟩
    exact discardIf_grant_discard hf (by simp [hk])
  · rcases h with h | h
    · rw [takeJournalClose_of_blocked (s := portTaken 11#8 op s) h]
      refine ⟨_, rfl, rfl, rfl, rfl, fun _ => rfl, fun hf => ?_, rfl, rfl, rfl, rfl, rfl, rfl, rfl, rfl, rfl⟩
      rw [h] at hf
      cases hf
    · rw [takeJournalClose_of_faulted (s := portTaken 11#8 op s) h]
      refine ⟨_, rfl, rfl, rfl, rfl, fun hb => ?_, fun _ => rfl, rfl, rfl, rfl, rfl, rfl, rfl, rfl, rfl, rfl⟩
      rw [h] at hb
      cases hb

/-! ## DUMP_TALLIES (R187) -/

theorem takeDumpTallies_accepted {s : State} (h : (argument s).toNat % 16 = 0) (op : Half) :
    takeDumpTallies op s = grant (request (.tallyWriteLow (snapshotOf s)) (argument s)
      { s with ev := clearTallies (op.getLsbD 0) s.ev, cp := { s.cp with snapshot := some (snapshotOf s) } }) :=
  if_neg (not_not_intro h)

/-- Settles O27, by the one check of `takeDumpTallies`. -/
theorem dumpTallies : Obligations.DumpTallies := by
  intro op s hready
  rw [exec_dumpTallies_of_ready hready]
  refine ⟨fun h => ?_, fun h => ?_⟩
  · have hrefused : takeDumpTallies op (portTaken 13#8 op s) = complete .badArgument (portTaken 13#8 op s) := if_pos h
    rw [hrefused, complete_portTaken]
  · rw [takeDumpTallies_accepted (s := portTaken 13#8 op s) h]
    rfl

/-! ## WAKE (R23, R156) -/

theorem exec_wake_of_released {s : State} (h : s.resetAsserted = false) (v : Word) :
    exec (.wake v) s = .next (writeWake s) := next_congr (registerAccess_of_released h _)

theorem wake_of_not_watching {f : FetchUnit} {asked : Bool} (h : f.state ≠ .watching ∨ asked = true) :
    f.wake asked = f := by
  unfold FetchUnit.wake
  rw [if_neg]
  rintro ⟨hst, hfree⟩
  rcases h with h | h <;> simp_all

theorem wake_of_watching {f : FetchUnit} (h : f.state = .watching) : f.wake false = { f with rereadWanted := true } :=
  if_pos ⟨h, rfl⟩

theorem jwWake_of_not_blocked {j : JournalWriter} {b : BusPort} (h : j.state ≠ .blocked ∨ b.outstanding .jw = true) :
    j.wake b = j := by
  unfold JournalWriter.wake
  rw [if_neg]
  rintro ⟨hst, hfree⟩
  rcases h with h | h <;> simp_all

theorem jwWake_of_blocked {j : JournalWriter} {b : BusPort} (h : j.state = .blocked) (hfree : b.outstanding .jw = false) :
    j.wake b = { j with rereadWanted := true } := if_pos ⟨h, hfree⟩

/-- A link read that is out is a transfer of the FU. -/
theorem linkReadOutstanding_eq_false {b : BusPort} (h : b.outstanding .fu = false) : linkReadOutstanding b = false := by
  obtain ⟨hwaits, hflies⟩ := BusPort.outstanding_eq_false h
  have hfu : b.fu = none := hwaits
  unfold linkReadOutstanding
  cases hf : b.inFlight with
  | none => simp [hfu]
  | some f =>
    have hkind : ¬(f.orphan = false ∧ f.transfer.kind = .linkRead) := fun ⟨ho, hk⟩ =>
      hflies f hf ho (by rw [hk]; rfl)
    simpa [hfu] using hkind

/-- A WATCHING unit that wants a re-read, and has nothing to retire and nothing outstanding, asks for it. -/
theorem fuPump_of_watching {s : State} {sl : Slot} (hfree : s.bp.outstanding .fu = false)
    (hst : s.fu.state = .watching) (hwanted : s.fu.rereadWanted = true) (hnew : s.fu.newest = some sl)
    (hhead : ∀ o ∈ s.fu.table.head?, o.state ≠ .retireReady) :
    fuPump s = request .linkRead sl.address (count .linkRechecks 1 { s with fu := { s.fu with rereadWanted := false } }) := by
  have hread : requestRead s = requestLink s := by simp [requestRead, hst, hwanted]
  have hlink : requestLink s = request .linkRead sl.address
      (count .linkRechecks 1 { s with fu := { s.fu with rereadWanted := false } }) := by simp [requestLink, hnew]
  rw [← hlink, ← hread]
  unfold fuPump
  rw [if_neg (by simp [hfree])]
  split
  next o _ ht => rw [if_neg (hhead o (by simp [ht]))]
  next => rfl

/-- An FU that rests with nothing outstanding has nothing to retire. -/
theorem FuRests.head_not_ready {s : State} (h : FuRests s) (hfree : s.bp.outstanding .fu = false) :
    ∀ o ∈ s.fu.table.head?, o.state ≠ .retireReady := by
  have hcalls : s.fu.calls (queueRoom s) = false := by simpa [FuRests, hfree] using h
  intro o ho hready
  unfold FetchUnit.calls at hcalls
  split at hcalls
  next sl _ ht =>
    obtain rfl : sl = o := by simpa [ht] using ho
    simp [hready] at hcalls
  next ht => simp [ht] at ho

/-- A BLOCKED journal that wants a re-read asks for it. -/
theorem jwPump_of_blocked {s : State} (hfree : s.bp.outstanding .jw = false) (hst : s.jw.state = .blocked)
    (hwanted : s.jw.rereadWanted = true) :
    jwPump s = requestSheetHeader { s with jw := { s.jw with rereadWanted := false } } := by
  simp [jwPump, hfree, hst, hwanted]

/-- What the JW has asked for is held after the FU's request and a grant. -/
theorem holds_of_jw_waiting {s : State} {t : Transfer} (h : s.bp.jw = some t) (hk : t.kind.owner = .jw) :
    (grant (fuPump s)).bp.holds t := by
  refine BusPort.holds_grant ?_
  rw [hk]
  obtain ⟨hjw, _⟩ := fuPump_bp s
  exact hjw.trans h

/-- Settles O7: the marks a WAKE makes, and the requests that a WATCHING FU and a BLOCKED JW make of them. -/
theorem wakeMarksRereads : Obligations.WakeMarksRereads := by
  intro v s h hrested
  rw [exec_wake_of_released h]
  refine ⟨fun hfu hjw => ?_, fun hwatch hout hlink hjw => ?_, fun sl hwatch hfree hnew => ?_, fun hblocked hfree => ?_⟩
  · rw [writeWake, wake_of_not_watching hfu, jwWake_of_not_blocked hjw]
    exact next_congr (pump_of_rested hrested)
  · rw [writeWake, hlink, wake_of_watching hwatch, jwWake_of_not_blocked hjw]
    have hmarked : Rested { s with fu := { s.fu with rereadWanted := true } } := by
      obtain ⟨hjwRests, _, hgrant⟩ := (rested_iff s).mp hrested
      exact (rested_iff _).mpr ⟨hjwRests, .inl hout, hgrant⟩
    exact next_congr (pump_of_rested hmarked)
  · rw [writeWake, linkReadOutstanding_eq_false hfree, wake_of_watching hwatch]
    have hclose : CloseAsked { s with fu := { s.fu with rereadWanted := true }, jw := s.jw.wake s.bp } := by
      refine hrested.closeAsked.congr ?_ rfl
      unfold JournalWriter.wake
      dsimp only
      split <;> rfl
    have hkept := jwPump_kept_of_closeAsked hclose
    refine ⟨_, rfl, ?_⟩
    rw [pump, fuPump_of_watching (by rw [jwPump_outstanding]; exact hfree) (by simpa using hwatch) (by simp)
      (by simpa [FetchUnit.newest] using hnew) (by simpa using hrested.fuRests.head_not_ready hfree)]
    refine ⟨request_holds _ _ _, by simp, ?_, fun hblocked => ?_, by simp, by simp, by simp, by simp, ?_, by simp⟩
    · simp only [grant_frame, request_frame, count]
      rw [hkept.ev]
    · rw [jwWake_of_not_blocked (.inl hblocked)]
      have hrests : JwRests { s with fu := { s.fu with rereadWanted := true } } := hrested.jwRests
      simp only [grant_frame, request_frame, count_frame, jwPump_of_rests hrests]
    · simp only [grant_frame, request_frame, count_frame]
      exact hkept.cp
  · rw [writeWake, jwWake_of_blocked hblocked hfree]
    refine ⟨_, rfl, ?_⟩
    rw [pump, jwPump_of_blocked (s := { s with fu := _, jw := { s.jw with rereadWanted := true } }) hfree hblocked rfl]
    refine ⟨holds_of_jw_waiting rfl rfl, by simp [requestSheetHeader], fun hwatch => ?_, by simp [requestSheetHeader],
      by simp [requestSheetHeader], by simp [requestSheetHeader], by simp [requestSheetHeader],
      by simp [requestSheetHeader], by simp [requestSheetHeader]⟩
    rw [wake_of_not_watching (.inl hwatch)]
    have hrests : FuRests (requestSheetHeader { s with jw := { s.jw with rereadWanted := false } }) :=
      hrested.fuRests.of_same ⟨rfl, rfl, rfl⟩ (request_outstanding_other _ _ nofun)
    rw [fuPump_of_rests hrests]
    exact ⟨rfl, rfl⟩

/-! ## The intervals (R11, R23, R156, R157) -/

theorem exec_linkWatch (s : State) : exec .linkWatchInterval s = .next (takeLinkWatch s) := rfl

theorem exec_sheetRecheck (s : State) : exec .sheetRecheckInterval s = .next (takeSheetRecheck s) := rfl

theorem exec_flushAge (s : State) : exec .flushAge s = .next (takeFlushAge s) := rfl

theorem expiresAt_some (b : Time) (d : Nat) (tl : Time) :
    expiresAt (some b) d tl = true ↔ b + BitVec.ofNat 48 d = tl := by
  simp [expiresAt]

theorem takeLinkWatch_of_not {s : State} (h : ¬watchExpires s = true) : takeLinkWatch s = s := if_neg h

theorem takeLinkWatch_of_expired {s : State} (h : watchExpires s = true) :
    takeLinkWatch s = grant (fuPump { s with fu := { s.fu with watchStart := none, rereadWanted := true } }) := if_pos h

theorem takeSheetRecheck_of_not {s : State} (h : ¬recheckExpires s = true) : takeSheetRecheck s = s := if_neg h

theorem takeSheetRecheck_of_expired {s : State} (h : recheckExpires s = true) :
    takeSheetRecheck s = jwRun { s with jw := { s.jw with recheckStart := none, rereadWanted := true } } := if_pos h

theorem takeFlushAge_of_not {s : State} (h : ¬ageExpires s = true) : takeFlushAge s = s := if_neg h

theorem takeFlushAge_of_expired {s : State} (h : ageExpires s = true) :
    takeFlushAge s = jwRun { s with jw := s.jw.seal .aged } := if_pos h

theorem fuPump_of_outstanding {s : State} (h : s.bp.outstanding .fu = true) : fuPump s = s := by simp [fuPump, h]

/-- Nothing is granted to an event that leaves the Bus Port of a state between events as it is. -/
theorem grant_of_bp {s t : State} (h : Rested s) (hbp : t.bp = s.bp) : grant t = t := by
  obtain ⟨_, _, hgrant⟩ := h
  unfold grant
  rw [hbp, hgrant, ← hbp]

theorem linkWatch_waits {s : State} (hrested : Rested s) (hexpired : watchExpires s = true)
    (hout : s.bp.outstanding .fu = true) :
    takeLinkWatch s = { s with fu := { s.fu with watchStart := none, rereadWanted := true } } := by
  rw [takeLinkWatch_of_expired hexpired, fuPump_of_outstanding (by exact hout)]
  exact grant_of_bp hrested rfl

theorem sheetRecheck_waits {s : State} (hrested : Rested s) (hexpired : recheckExpires s = true)
    (hout : s.bp.outstanding .jw = true) :
    takeSheetRecheck s = { s with jw := { s.jw with recheckStart := none, rereadWanted := true } } := by
  rw [takeSheetRecheck_of_expired hexpired, jwRun_of_outstanding (by exact hout)]
  exact grant_of_bp hrested rfl

/-- The re-read of a BLOCKED journal whose interval ends with nothing outstanding. -/
theorem sheetRecheck_asks {s : State} (hexpired : recheckExpires s = true) (hfree : s.bp.outstanding .jw = false)
    (hst : s.jw.state = .blocked) :
    takeSheetRecheck s =
      grant (requestSheetHeader { s with jw := { s.jw with recheckStart := none, rereadWanted := false } }) := by
  rw [takeSheetRecheck_of_expired hexpired, jwRun, jwPump_of_blocked (by exact hfree) (by exact hst) rfl]

/-- Settles O36, interval by interval. -/
theorem intervalsExpire : Obligations.IntervalsExpire := by
  intro s hrested
  rw [exec_linkWatch, exec_sheetRecheck, exec_flushAge]
  refine ⟨fun b hb => ?_, fun b hb => ?_, fun b h hb hsheet => ?_, fun h => ?_, fun h => ?_, fun h => ?_⟩
  · have hexpires : watchExpires s = true ↔ b + BitVec.ofNat 48 s.fu.watchInterval.toNat = s.tb.tl := by
      rw [watchExpires, hb, expiresAt_some]
    refine ⟨fun hnot => next_congr (takeLinkWatch_of_not (mt hexpires.mp hnot)), fun hend => ⟨fun hout => ?_, ?_⟩⟩
    · exact next_congr (linkWatch_waits hrested (hexpires.mpr hend) hout)
    · intro sl hfree hst hnew hhead
      rw [takeLinkWatch_of_expired (hexpires.mpr hend)]
      refine ⟨_, rfl, ?_⟩
      rw [fuPump_of_watching (s := { s with fu := { s.fu with watchStart := none, rereadWanted := true } }) hfree hst rfl
        hnew hhead]
      exact ⟨request_holds _ _ _, rfl, rfl, rfl, rfl, rfl, rfl⟩
  · have hexpires : recheckExpires s = true ↔ b + BitVec.ofNat 48 s.jw.recheckInterval.toNat = s.tb.tl := by
      rw [recheckExpires, hb, expiresAt_some]
    refine ⟨fun hnot => next_congr (takeSheetRecheck_of_not (mt hexpires.mp hnot)), fun hend => ⟨fun hout => ?_, ?_⟩⟩
    · exact next_congr (sheetRecheck_waits hrested (hexpires.mpr hend) hout)
    · intro hfree hst
      rw [sheetRecheck_asks (hexpires.mpr hend) hfree hst]
      exact ⟨_, rfl, request_holds _ _ _, rfl, rfl, rfl, rfl, rfl, rfl⟩
  · have hexpires : ageExpires s = true ↔ b + BitVec.ofNat 48 s.jw.flushAge.toNat = s.tb.tl := by
      rw [ageExpires, hb, expiresAt_some]
    refine ⟨fun hnot => next_congr (takeFlushAge_of_not (mt hexpires.mp hnot)), fun hend => ?_⟩
    rw [takeFlushAge_of_expired (hexpires.mpr hend)]
    have hrun : BusAlone { s with jw := s.jw.seal .aged } (jwRun { s with jw := s.jw.seal .aged }) :=
      jwRun_of_seal hrested.jwRests rfl rfl
    refine ⟨_, rfl, ?_, hrun.ev, by simp, by simp, by simp, by simp, hrun.cp⟩
    rw [hrun.jw]
    simp [JournalWriter.seal, hsheet, OpenSheet.seal]
  · exact next_congr (takeLinkWatch_of_not (by simp [watchExpires, h, expiresAt]))
  · exact next_congr (takeSheetRecheck_of_not (by simp [recheckExpires, h, expiresAt]))
  · exact next_congr (takeFlushAge_of_not (by simp [ageExpires, h, expiresAt]))

end Sys2Proof.Machine
end

/-! Numbers in host memory, least significant byte first (R191): what `leAt` reads of the fields the part reads and of
the bytes it writes. -/
section
namespace Sys2Proof.Machine

/-! ## Reading -/

@[simp] theorem leAt_zero (d : List Byte) (i : Nat) : leAt d i 0 = 0 := by simp [leAt]

theorem leAt_succ (d : List Byte) (i n : Nat) : leAt d i (n + 1) = (byteAt d i).toNat + 256 * leAt d (i + 1) n := by
  unfold leAt byteAt
  by_cases hi : i < d.length
  · rw [List.drop_eq_getElem_cons hi, List.take_succ_cons, List.foldr_cons, List.getD_eq_getElem _ _ hi]
  · have hge := Nat.le_of_not_lt hi
    rw [List.drop_eq_nil_of_le hge, List.drop_eq_nil_of_le (by omega)]
    simp [List.getD_eq_getElem?_getD, List.getElem?_eq_none hge]

theorem leAt_one (d : List Byte) (i : Nat) : leAt d i 1 = (byteAt d i).toNat := by simp [leAt_succ]

/-- Two parts of a number. -/
theorem leAt_add (d : List Byte) (i m n : Nat) : leAt d i (m + n) = leAt d i m + 256 ^ m * leAt d (i + m) n := by
  induction m generalizing i with
  | zero => simp
  | succ m ih =>
    rw [show m + 1 + n = (m + n) + 1 by omega, leAt_succ, leAt_succ, ih, show i + 1 + m = i + (m + 1) by omega]
    ring

theorem append_toNat {v w : Nat} (x : BitVec v) (y : BitVec w) : (x ++ y).toNat = y.toNat + 2 ^ w * x.toNat := by
  rw [BitVec.toNat_append, Nat.shiftLeft_eq, Nat.mul_comm, ← Nat.two_pow_add_eq_or_of_lt y.isLt]
  omega

theorem half_toNat (d : List Byte) (i : Nat) : (half d i).toNat = leAt d i 2 := by
  rw [half, append_toNat, leAt_add d i 1 1, leAt_one, leAt_one]
  rfl

theorem word_toNat (d : List Byte) (i : Nat) : (word d i).toNat = leAt d i 4 := by
  rw [word, append_toNat, leAt_add d i 2 2, half_toNat, half_toNat]
  rfl

theorem long_toNat (d : List Byte) (i : Nat) : (long d i).toNat = leAt d i 8 := by
  rw [long, append_toNat, leAt_add d i 4 4, word_toNat, word_toNat]
  rfl

/-! ## Writing -/

@[simp] theorem bytesOf_length {w : Nat} (n : Nat) (x : BitVec w) : (bytesOf n x).length = n := by simp [bytesOf]

theorem leAt_append_left {l r : List Byte} {i n : Nat} (h : i + n ≤ l.length) : leAt (l ++ r) i n = leAt l i n := by
  unfold leAt
  rw [List.drop_append_of_le_length (by omega), List.take_append_of_le_length (by simp; omega)]

theorem leAt_append_right {l r : List Byte} {i n : Nat} (h : l.length ≤ i) :
    leAt (l ++ r) i n = leAt r (i - l.length) n := by
  unfold leAt
  rw [List.drop_append, List.drop_eq_nil_of_le h, List.nil_append]

theorem leAt_drop (d : List Byte) (k i n : Nat) : leAt (d.drop k) i n = leAt d (k + i) n := by
  simp [leAt, List.drop_drop]

theorem leAt_take {d : List Byte} {k i n : Nat} (h : i + n ≤ k) : leAt (d.take k) i n = leAt d i n := by
  unfold leAt
  rw [List.drop_take, List.take_take, Nat.min_eq_left (by omega)]

/-- The bytes of a value from byte `k` on. -/
theorem foldr_extract {w : Nat} (x : BitVec w) (n k : Nat) :
    ((List.range n).map fun i => x.extractLsb' (8 * (i + k)) 8).foldr (fun b v => b.toNat + 256 * v) 0 =
      x.toNat / 2 ^ (8 * k) % 2 ^ (8 * n) := by
  induction n generalizing k with
  | zero => simp [Nat.mod_one]
  | succ n ih =>
    have hrest := ih (k + 1)
    rw [List.range_succ_eq_map, List.map_cons, List.foldr_cons, List.map_map]
    have hshift : ((fun i => x.extractLsb' (8 * (i + k)) 8) ∘ Nat.succ) =
        fun i => x.extractLsb' (8 * (i + (k + 1))) 8 := by
      funext i
      simp only [Function.comp, Nat.succ_eq_add_one]
      rw [show i + 1 + k = i + (k + 1) by omega]
    rw [hshift, hrest, BitVec.extractLsb'_toNat, Nat.shiftRight_eq_div_pow, Nat.zero_add,
      show 8 * (n + 1) = 8 + 8 * n by omega, Nat.pow_add 2 8, Nat.mod_mul,
      show 8 * (k + 1) = 8 * k + 8 by omega, Nat.pow_add, Nat.div_div_eq_div_mul]

/-- The bytes of a value make the value. -/
theorem leAt_bytesOf {w n : Nat} (x : BitVec w) (h : w = 8 * n) : leAt (bytesOf n x) 0 n = x.toNat := by
  have hall := foldr_extract x n 0
  unfold leAt bytesOf
  rw [List.drop_zero, List.take_of_length_le (by simp)]
  simp only [Nat.add_zero, Nat.mul_zero, Nat.pow_zero, Nat.div_one] at hall
  rw [hall, ← h, Nat.mod_eq_of_lt x.isLt]

/-- The bytes of the `i`th of a list of 32-bit values. -/
theorem leAt_flatMap {α : Type} (f : α → Word) (l : List α) (i : Nat) (h : i < l.length) :
    leAt (l.flatMap fun a => bytesOf 4 (f a)) (4 * i) 4 = (f l[i]).toNat := by
  induction l generalizing i with
  | nil => simp at h
  | cons a l ih =>
    rw [List.flatMap_cons]
    cases i with
    | zero =>
      rw [leAt_append_left (by simp), leAt_bytesOf _ rfl]
      rfl
    | succ i =>
      rw [leAt_append_right (by simp), bytesOf_length, show 4 * (i + 1) - 4 = 4 * i by omega,
        ih i (by simpa using h)]
      rfl

end Sys2Proof.Machine
end

/-! The phases of an entry (R69 to R74), the tick events of a line (R109, R110, R113), a tick (R4, R6, R8), the tally
writes (R187) and the free orders of a grant (R188). -/
section
namespace Sys2Proof.Machine

/-! ## Entries -/

/-- Settles O31, kind by kind. -/
theorem entryPhases : Obligations.EntryPhases := by
  intro e
  refine ⟨fun h => ?_, fun h => ?_, fun h => ?_, fun h => ?_, fun h => ?_, fun h => ?_⟩
  case refine_5 =>
    refine ⟨by simp [Entry.change, h], fun hlast => ?_, fun hmore => ?_⟩
    · simp [Entry.rekeyed, h, Nat.not_lt.mpr hlast]
    · exact ⟨{ e with
          kind := .trainLead, due := e.due - e.width.setWidth 48 + e.period.setWidth 48,
          remaining := e.remaining - 1#16 }, by simp [Entry.rekeyed, h, hmore], rfl, by bv_omega, rfl⟩
  case refine_6 => rcases h with h | h | h <;> simp [Entry.change, Entry.rekeyed, h]
  all_goals simp [Entry.change, Entry.rekeyed, h]

/-! ## The tick events of a line -/

theorem exec_deferredRise (n : Fin 16) (s : State) : exec (.deferredRiseExpiry n) s = .next (takeDeferredRise n s) := rfl

theorem exec_lastFall (n : Fin 16) (s : State) : exec (.lastFallDiscard n) s = .next (takeLastFallDiscard n s) := rfl

theorem takeDeferredRise_of_due {n : Fin 16} {s : State} (h : s.os.lines[n].deferred = some s.tb.tl) :
    takeDeferredRise n s =
      { s with
        os := { s.os with lines := s.os.lines.set n s.os.lines[n].rise }
        gu := s.gu.blank s.tb.tl (if s.os.lines[n].driven = .high then [] else [n]) } :=
  if_pos (by rw [riseDue, h]; exact beq_self_eq_true _)

theorem takeDeferredRise_of_not {n : Fin 16} {s : State} (h : s.os.lines[n].deferred ≠ some s.tb.tl) :
    takeDeferredRise n s = s := if_neg (by simpa [riseDue] using h)

theorem fallExpires_iff {n : Fin 16} {s : State} {f : Time} (h : s.os.lines[n].lastFall = some f) :
    fallExpires n s = true ↔ f + 65536#48 = s.tb.tl := by
  rw [fallExpires, h]
  exact expiresAt_some f _ _

theorem takeLastFallDiscard_of_expired {n : Fin 16} {s : State} (h : fallExpires n s = true) :
    takeLastFallDiscard n s =
      { s with os := { s.os with lines := s.os.lines.set n { s.os.lines[n] with lastFall := none } } } := if_pos h

theorem takeLastFallDiscard_of_not {n : Fin 16} {s : State} (h : ¬fallExpires n s = true) :
    takeLastFallDiscard n s = s := if_neg h

theorem lines_set_same (ls : Vector Line 16) (n : Fin 16) (l : Line) : (ls.set n l)[n] = l := by simp

theorem lines_set_other (ls : Vector Line 16) {n m : Fin 16} (l : Line) (h : m ≠ n) : (ls.set n l)[m] = ls[m] := by
  have hne : n.val ≠ m.val := fun e => h (Fin.ext e.symm)
  simp [hne]

/-- Settles O33: each of the two events sets one line, or nothing. -/
theorem lineTickEvents : Obligations.LineTickEvents := by
  intro n s
  rw [exec_deferredRise, exec_lastFall]
  refine ⟨fun h => ?_, fun h => next_congr (takeDeferredRise_of_not h), fun f hf => ⟨fun h => ?_, fun h => ?_⟩,
    fun h => ?_⟩
  · rw [takeDeferredRise_of_due h]
    refine ⟨_, rfl, lines_set_same _ _ _, fun m hm => lines_set_other _ _ hm, rfl, fun hlow => ?_, rfl, rfl, rfl, rfl,
      rfl, rfl, rfl, rfl⟩
    rw [if_neg hlow]
  · rw [takeLastFallDiscard_of_expired ((fallExpires_iff hf).mpr h)]
    exact ⟨_, rfl, lines_set_same _ _ _, fun m hm => lines_set_other _ _ hm, rfl, rfl, rfl, rfl, rfl, rfl, rfl, rfl,
      rfl, rfl⟩
  · exact next_congr (takeLastFallDiscard_of_not (mt (fallExpires_iff hf).mp h))
  · exact next_congr (takeLastFallDiscard_of_not (by rw [fallExpires, h]; exact Bool.false_ne_true))

/-! ## A tick -/

/-- With nothing due, no event of the present tick changes anything. -/
theorem takeDue_of_nothingDue {s : State} (h : NothingDue s) : takeDue s = s := by
  obtain ⟨hrange, happly, hwait, hrise, hfall, hblank, hhold, hwatch, hrecheck, hage⟩ := h
  have htimes : takeWaitTimeout (takeApplication (takeTimeRange s)) = s := by
    have e1 : takeTimeRange s = s := if_neg (by simp [hrange])
    have e2 : takeApplication s = s := if_neg (by simp [happly])
    rw [e1, e2]
    unfold takeWaitTimeout
    split
    next w hw => exact if_neg (hwait w hw)
    next => rfl
  have hrises := List.foldl_fixed' (f := fun s n => takeDeferredRise n s) (a := s)
    (fun n => if_neg (by simp [hrise n])) (List.finRange 16)
  have hfalls := List.foldl_fixed' (f := fun s n => takeLastFallDiscard n s) (a := s)
    (fun n => if_neg (by simp [hfall n])) (List.finRange 16)
  have hblanks := List.foldl_fixed' (f := fun s n => takeBlankEnd n s) (a := s)
    (fun n => if_neg (by simp [hblank n])) (List.finRange 4)
  have hholds := List.foldl_fixed' (f := fun s n => takeEscalation n s) (a := s)
    (fun n => if_neg (by simp [hhold n])) (List.finRange 4)
  unfold takeDue
  dsimp only
  rw [htimes, hrises, hfalls, hblanks, hholds, takeLinkWatch_of_not (by simp [hwatch]),
    takeSheetRecheck_of_not (by simp [hrecheck]), takeFlushAge_of_not (by simp [hage])]

theorem takeTick_of_released {s : State} (h : s.resetAsserted = false) :
    takeTick s = advance (sourceTicked (takeDue s)) := if_neg (by simp [h])

theorem advance_tl (s : State) : (advance s).tb.tl = s.tb.tl + 1#48 := by
  unfold advance Timebase.tick
  split
  · split <;> rfl
  · rfl

theorem sourceTicked_tl (s : State) : (sourceTicked s).tb.tl = s.tb.tl := by
  unfold sourceTicked
  split <;> rfl

/-- What the source's own counting leaves of the Timebase Unit and the pins. -/
theorem sourceTicked_parts (s : State) :
    (sourceTicked s).tb.tl = s.tb.tl ∧ (sourceTicked s).tb.pt = s.tb.pt ∧
      (sourceTicked s).tb.timeRangeNotice = s.tb.timeRangeNotice ∧ (sourceTicked s).tb.hostPause = s.tb.hostPause ∧
      (sourceTicked s).tb.guardHolds = s.tb.guardHolds ∧ (sourceTicked s).tb.source = s.tb.source ∧
      (sourceTicked s).tb.prescale = s.tb.prescale ∧ (sourceTicked s).tb.tbinEdge = s.tb.tbinEdge ∧
      (sourceTicked s).pins.inputs = s.pins.inputs ∧ (sourceTicked s).pins.faults = s.pins.faults := by
  unfold sourceTicked
  split <;> exact ⟨rfl, rfl, rfl, rfl, rfl, rfl, rfl, rfl, rfl, rfl⟩

theorem ptAdvances_iff (s : State) :
    ptAdvances s = true ↔ s.su.program ≠ .idle ∧ s.tb.hostPause = false ∧ s.tb.guardHolds = 0#4 := by
  simp [ptAdvances, held]

/-- Whether PT moves at a tick is not for the source to say. -/
theorem ptAdvances_sourceTicked (s : State) : ptAdvances (sourceTicked s) = ptAdvances s := by
  obtain ⟨_, _, _, hpause, hholds, _⟩ := sourceTicked_parts s
  simp [ptAdvances, held, hholds]

theorem Timebase.tick_of_standing (t : Timebase) : t.tick false = { t with tl := t.tl + 1#48 } := rfl

theorem Timebase.tick_of_limit {t : Timebase} (h : t.pt.toNat = 2 ^ 48 - 1) :
    t.tick true = { t with tl := t.tl + 1#48, timeRangeNotice := true } := by
  rw [Timebase.tick, if_pos rfl]
  exact if_pos h

theorem Timebase.tick_of_room {t : Timebase} (h : t.pt.toNat < 2 ^ 48 - 1) :
    t.tick true = { t with tl := t.tl + 1#48, pt := t.pt + 1#48 } := by
  rw [Timebase.tick, if_pos rfl]
  exact if_neg (Nat.ne_of_lt h)

/-- A tick of the Timebase Unit leaves its setting and the hold-cause set. -/
theorem Timebase.tick_same (b : Bool) (t : Timebase) :
    (t.tick b).hostPause = t.hostPause ∧ (t.tick b).guardHolds = t.guardHolds ∧ (t.tick b).source = t.source ∧
      (t.tick b).prescale = t.prescale ∧ (t.tick b).tbinEdge = t.tbinEdge := by
  unfold Timebase.tick
  repeat' split
  all_goals exact ⟨rfl, rfl, rfl, rfl, rfl⟩

/-- Settles O28: the events due keep TL, and with none due a tick is the source's count and the two counters. -/
theorem tickAdvancesTime : Obligations.TickAdvancesTime := by
  intro s hreset
  rw [exec_tick, takeTick_of_released hreset]
  refine ⟨⟨_, rfl, ?_⟩, fun hdue => ⟨_, rfl, ?_⟩⟩
  · rw [advance_tl, sourceTicked_tl, takeDue_clock s |>.1]
  · rw [takeDue_of_nothingDue hdue]
    obtain ⟨hnotice, _⟩ := hdue
    obtain ⟨htl, hpt, hrange, hpause, hholds, hsource, hprescale, hedge, hinputs, hfaults⟩ := sourceTicked_parts s
    obtain ⟨kpause, kholds, ksource, kprescale, kedge⟩ :=
      (sourceTicked s).tb.tick_same (ptAdvances (sourceTicked s))
    refine ⟨?_, fun hmoves hroom => ?_, fun hmoves hlimit => ?_, fun hstands => ?_, kpause.trans hpause,
      kholds.trans hholds, ksource.trans hsource, kprescale.trans hprescale, kedge.trans hedge, by simp, by simp,
      by simp, by simp, by simp, by simp, by simp, by simp, by simp, hinputs, hfaults⟩
    · rw [advance_tl, htl]
    · have hadvances : ptAdvances (sourceTicked s) = true := by
        rw [ptAdvances_sourceTicked]
        exact (ptAdvances_iff s).mpr hmoves
      simp only [advance, hadvances, Timebase.tick_of_room (by rw [hpt]; exact hroom), hpt, hrange, hnotice, and_self]
    · have hadvances : ptAdvances (sourceTicked s) = true := by
        rw [ptAdvances_sourceTicked]
        exact (ptAdvances_iff s).mpr hmoves
      simp only [advance, hadvances, Timebase.tick_of_limit (by rw [hpt]; exact hlimit), hpt, and_self]
    · have hadvances : ptAdvances (sourceTicked s) = false := by
        rw [ptAdvances_sourceTicked]
        simpa using mt (ptAdvances_iff s).mp hstands
      simp only [advance, hadvances, Timebase.tick_of_standing, hpt, hrange, hnotice, and_self]

end Sys2Proof.Machine
end

/-! The ends of the transfers: the tally writes (R187) and the free orders of a grant (R188). -/
section
namespace Sys2Proof.Machine

/-! ## The end of a transfer (R188, R189) -/

/-- The transfer in flight ends and its requester takes it, before or after the grant. -/
theorem endTransfer_of_flight {p : TransferKind → Bool} {act : Transfer → State → State} {s : State} {t : Transfer}
    (h : s.bp.inFlight.map (fun f => (f.orphan, f.transfer)) = some (false, t)) (hp : p t.kind = true) :
    endTransfer p act s = act t (grantFirst (freeBus s)) := by
  unfold endTransfer
  split
  next f hf =>
    obtain ⟨horphan, htransfer⟩ : f.orphan = false ∧ f.transfer = t := by simpa [hf] using h
    rw [htransfer, if_pos hp, horphan]
    rfl
  next hnone => simp [hnone] at h

theorem endTransfer_of_inFlightIs {p : TransferKind → Bool} {act : Transfer → State → State} {s : State}
    {kind : TransferKind} {a : Addr} (h : inFlightIs s kind a) (hp : p kind = true) :
    endTransfer p act s = act (asked kind a) (grantFirst (freeBus s)) := by
  obtain ⟨f, hf, horphan, htransfer⟩ := h
  exact endTransfer_of_flight (by rw [hf, Option.map_some, horphan, htransfer]) hp

theorem busErrorRaised_pending (s : State) : pendingCause .busError (busErrorRaised s) = true := by
  simp [pendingCause, busErrorRaised, raise, EventUnit.raise, Cause.bit]

/-- An ERROR of a transfer of the Command Port answers BUS_ERROR and drops what had been read (R173, R177, R187). -/
theorem commandError_answers (s : State) :
    (commandError s).cp = { s.cp with inProgress := none, lastResult := .busError, shadow := [], snapshot := none } ∧
      pendingCause .busError (commandError s) = true ∧ pendingCause .cmdDone (commandError s) = true := by
  refine ⟨rfl, ?_, complete_pendingCause_cmdDone _ _⟩
  rw [commandError, complete_pendingCause_of_ne _ _ (by decide)]
  exact busErrorRaised_pending _

/-! ## The tally block (R187) -/

theorem exec_tallyWrite (r : WriteResult) (s : State) :
    exec (.tallyWriteComplete r) s = .next (endTransfer TransferKind.isTallyWrite (tallyEnd r) s) := rfl

theorem tallyBytes_length (t : TallySnapshot) : t.bytes.length = 80 := by
  simp [TallySnapshot.bytes, List.length_flatMap]

/-- The head of the tally block. -/
theorem tallyBytes_head (t : TallySnapshot) :
    leAt t.bytes 0 1 = 1 ∧ leAt t.bytes 1 3 = 0 ∧ leAt t.bytes 4 6 = t.tl.toNat ∧ leAt t.bytes 10 6 = 0 := by
  unfold TallySnapshot.bytes
  refine ⟨?_, ?_, ?_, ?_⟩
  · rw [leAt_append_left (by simp), leAt_append_left (by simp), leAt_append_left (by simp)]
    rfl
  · rw [leAt_append_left (by simp), leAt_append_left (by simp), leAt_append_left (by simp)]
    rfl
  · rw [leAt_append_left (by simp), leAt_append_left (by simp), leAt_append_right (by simp)]
    exact leAt_bytesOf t.tl rfl
  · rw [leAt_append_left (by simp), leAt_append_right (by simp)]
    simp [leAt, bytesOf_length]

/-- The counters of the tally block. -/
theorem tallyBytes_counter (t : TallySnapshot) (n : Fin 16) :
    leAt t.bytes (16 + 4 * n.val) 4 = t.counters[n].toNat := by
  unfold TallySnapshot.bytes
  rw [leAt_append_right (by simp)]
  have hcounter := leAt_flatMap (fun n : Fin 16 => t.counters[n]) (List.finRange 16) n.val (by simp)
  simpa using hcounter

theorem takeTally_low (a : Addr) (t : TallySnapshot) (s : State) :
    takeTally (asked (.tallyWriteLow t) a) s = request (.tallyWriteHigh t) (a + 64#64) s := rfl

theorem takeTally_high (a : Addr) (t : TallySnapshot) (s : State) :
    takeTally (asked (.tallyWriteHigh t) a) s = complete .ok { s with cp := { s.cp with snapshot := none } } := rfl

/-- Settles O52: the first write asks for the second, and the second, or an ERROR, answers the command. -/
theorem tallyWritesEnd : Obligations.TallyWritesEnd := by
  intro s a snap
  simp only [exec_tallyWrite]
  refine ⟨?_, fun h => ⟨_, rfl, ?_⟩, fun h => ⟨_, rfl, ?_⟩, fun h => ⟨_, rfl, ?_⟩⟩
  · obtain ⟨hformat, hpad, htl, hrest⟩ := tallyBytes_head snap
    have hlen := tallyBytes_length snap
    simp only [TransferKind.data]
    refine ⟨by simp [hlen], by simp [hlen], by rw [leAt_take (by omega), hformat], by rw [leAt_take (by omega), hpad],
      by rw [leAt_take (by omega), htl], by rw [leAt_take (by omega), hrest], fun n => ?_⟩
    rw [← tallyBytes_counter snap n]
    split
    · rw [leAt_take (by omega)]
    · rw [leAt_drop, show 64 + (4 * n.val - 48) = 16 + 4 * n.val by omega]
  · rw [endTransfer_of_inFlightIs h rfl, tallyEnd, takeTally_low]
    exact ⟨request_holds _ _ _, by simp, by simp, by simp, by simp, by simp, by simp, by simp, by simp, by simp⟩
  · rw [endTransfer_of_inFlightIs h rfl, tallyEnd, takeTally_high]
    simp [complete]
  · have herror : endTransfer TransferKind.isTallyWrite (tallyEnd .error) s =
        grant (commandError (grantFirst (freeBus s))) := by
      rcases h with h | h <;> rw [endTransfer_of_inFlightIs h rfl] <;> rfl
    obtain ⟨hcp, herr, hdone⟩ := commandError_answers (grantFirst (freeBus s))
    rw [herror]
    refine ⟨by simp [hcp], by simpa [pendingCause] using herr, by simpa [pendingCause] using hdone, ?_⟩
    simp [commandError]

/-! ## The free orders of a grant (R188) -/

theorem exec_recordWrite (r : WriteResult) (s : State) :
    exec (.recordWriteComplete r) s = .next (endTransfer TransferKind.isRecordWrite (fun _ => recordEnd r) s) := rfl

/-- An OPEN journal with another record held asks for its write when a record write ends OK. -/
theorem recordEnd_asks {s : State} {h : OpenSheet} {x y : Record} {l : List Record} (hst : s.jw.state = .opened)
    (hsheet : s.jw.sheet = some h) (hsealed : h.sealed = none) (hfifo : s.jw.fifo = x :: y :: l)
    (hfree : s.bp.outstanding .jw = false) :
    ∃ q : Transfer, q.kind = .recordWrite y ∧ (recordEnd .ok s).bp = (s.bp.request q).grant := by
  have hpump := jwPump_of_writing (s := recordTaken .ok s) (h := { h with written := h.written + 1 })
    (.inl (by simp [recordTaken, JournalWriter.recordWritten, hsheet, hst]))
    (by simp [recordTaken, JournalWriter.recordWritten, hsheet]) hfree
  rw [recordEnd, jwRun, hpump, writeNext_of_held (r := y) (l := l) (by exact hsealed)
    (by simp [recordTaken, JournalWriter.recordWritten, hsheet, hfifo])]
  exact ⟨asked (.recordWrite y) _, rfl, rfl⟩

/-- Settles O53: after the grant the bus is the FU's, before it the JW's. -/
theorem grantOrderIsFree : Obligations.GrantOrderIsFree := by
  intro s a r w h x y l hflight hjw hfu howner hst hsheet hsealed hfifo
  rw [exec_recordWrite, endTransfer_of_inFlightIs hflight rfl]
  have hasks (u : State) (hu : u.jw = s.jw) := recordEnd_asks (s := u) (h := h) (x := x) (y := y) (l := l)
    (by rw [hu]; exact hst) (by rw [hu]; exact hsheet) hsealed (by rw [hu]; exact hfifo)
  refine ⟨fun hodd => ⟨_, rfl, ?_⟩, fun heven => ⟨_, rfl, ?_⟩⟩
  · have hdrawn : grantFirst (freeBus s) = grant (afterDraw (freeBus s)) := if_pos (by simp [drawn, hodd])
    have hgranted : (grant (afterDraw (freeBus s))).bp = { s.bp with fu := none, inFlight := some (Flight.start w) } := by
      simp [grant, afterDraw, freeBus, BusPort.grant, hjw, hfu]
    obtain ⟨q, hq, hbp⟩ := hasks (grant (afterDraw (freeBus s))) (by simp)
      (by
        rw [hgranted]
        simp [BusPort.outstanding, BusPort.waiting, hjw, Flight.start, howner])
    rw [hdrawn, hbp, hgranted]
    exact ⟨by simp [BusPort.request, hq, TransferKind.owner, BusPort.grant], q,
      by simp [BusPort.request, hq, TransferKind.owner, BusPort.grant], hq⟩
  · have hdrawn : grantFirst (freeBus s) = afterDraw (freeBus s) := if_neg (by simp [drawn, heven])
    obtain ⟨q, hq, hbp⟩ := hasks (afterDraw (freeBus s)) rfl
      (by simp [afterDraw, freeBus, BusPort.outstanding, BusPort.waiting, hjw])
    rw [hdrawn, hbp]
    simp [BusPort.request, BusPort.grant, afterDraw, freeBus, hq, TransferKind.owner, hfu, Flight.start]

end Sys2Proof.Machine
end

/-! The ends of the Journal Writer's transfers (R154 to R159, R161, R164, R165, R167, R191). -/
section
namespace Sys2Proof.Machine

/-! ## Pending causes and counters (R183, R186) -/

theorem raise_pending (c : Cause) (s : State) : pendingCause c (raise c s) = true := by
  simp [pendingCause, raise, EventUnit.raise, Cause.bit_lt]

theorem Cause.bit_injective : Function.Injective Cause.bit := by
  intro c d h
  cases c <;> cases d <;> simp_all [Cause.bit]

theorem EventUnit.raise_getLsbD (c d : Cause) (e : EventUnit) :
    (e.raise c).events.getLsbD d.bit = (decide (c = d) || e.events.getLsbD d.bit) := by
  have hone : (1#13 <<< c.bit).getLsbD d.bit = decide (c = d) := by
    have hc := c.bit_lt
    have hd := d.bit_lt
    by_cases h : c = d
    · subst h
      simp [hc]
    · have hne : d.bit ≠ c.bit := fun e => h (Cause.bit_injective e.symm)
      simp only [BitVec.getLsbD_shiftLeft, BitVec.getLsbD_one, h, decide_false]
      simp
      omega
  rw [EventUnit.raise, BitVec.getLsbD_or, hone, Bool.or_comm]

@[simp] theorem EventUnit.raise_tallies (c : Cause) (e : EventUnit) : (e.raise c).tallies = e.tallies := rfl

@[simp] theorem EventUnit.count_events (t : Tally) (n : Nat) (e : EventUnit) : (e.count t n).events = e.events := rfl

theorem EventUnit.count_tally (t : Tally) (n : Nat) (e : EventUnit) (i : Fin 16) :
    (e.count t n).tallies[i] = if i = t.index then satAdd e.tallies[i] n else e.tallies[i] := by
  unfold EventUnit.count
  by_cases h : i = t.index
  · subst h
    simp
  · have hne : t.index.val ≠ i.val := fun e => h (Fin.ext e.symm)
    simp [h, hne]

theorem satAdd_zero (x : Word) : satAdd x 0 = x := by
  have h := x.isLt
  simp [satAdd, h]

/-- Records counted as lost raise RECORDS_LOST. -/
theorem EventUnit.lose_pending {n : Nat} (h : 0 < n) (e : EventUnit) :
    (e.lose n).events.getLsbD Cause.recordsLost.bit = true := by
  rw [EventUnit.lose, if_neg (by omega), EventUnit.raise_getLsbD]
  rfl

/-! ## The journal after an end (R155, R159, R165, R167) -/

/-- A JW that had no request waiting has none outstanding when its transfer has ended. -/
theorem ended_outstanding_jw {s : State} (hfiled : s.bp.Filed) (h : s.bp.jw = none) :
    (grantFirst (freeBus s)).bp.outstanding .jw = false := by
  rw [grantFirst_outstanding (freeBus_filed _ hfiled)]
  simp [BusPort.outstanding, BusPort.waiting, h]

/-- A journal that is OFF or FAULTED asks for nothing. -/
theorem jwRun_of_still {s : State} (h : s.jw.state = .off ∨ s.jw.state = .faulted) : jwRun s = grant s :=
  jwRun_of_not_calls (by rcases h with h | h <;> simp [JournalWriter.calls, h])

theorem jwRun_endClose (r : Result) (s : State) : jwRun (endClose r s) = grant (endClose r s) :=
  jwRun_of_still (.inl rfl)

theorem jwRun_journalFault (s : State) : jwRun (journalFault s) = grant (journalFault s) :=
  jwRun_of_still (.inr (by unfold journalFault endFlush; split <;> rfl))

/-- A journal that seeks, or whose re-read is wanted while it is BLOCKED, asks for the header of the next sheet. -/
theorem jwRun_of_seeking {s : State} (hst : s.jw.state = .seeking) (hfree : s.bp.outstanding .jw = false) :
    jwRun s = grant (requestSheetHeader s) := by
  simp [jwRun, jwPump, hfree, hst]

/-- A journal that is SEEKING keeps everything of its own at its request. -/
theorem jwRun_seeking_busAlone {s : State} (hst : s.jw.state = .seeking) : BusAlone s (jwRun s) := by
  cases hout : s.bp.outstanding .jw with
  | true =>
    rw [jwRun_of_outstanding hout]
    exact grant_busAlone s
  | false =>
    rw [jwRun_of_seeking hst hout]
    exact ⟨rfl, rfl, rfl⟩

/-- What the end of a close leaves (R165). -/
theorem endClose_leaves (r : Result) (s : State) :
    (endClose r s).jw = s.jw.turnOff ∧ (endClose r s).cp = { s.cp with inProgress := none, lastResult := r } ∧
      (endClose r s).ev = s.ev.raise .cmdDone := ⟨rfl, rfl, rfl⟩

theorem endClose_done (r : Result) (s : State) : pendingCause .cmdDone (endClose r s) = true := by
  obtain ⟨_, _, hev⟩ := endClose_leaves r s
  rw [pendingCause, hev, EventUnit.raise_getLsbD]
  rfl

/-- What is pending stays so at the end of a close. -/
theorem endClose_keeps {c : Cause} (r : Result) {s : State} (h : pendingCause c s = true) :
    pendingCause c (endClose r s) = true := by
  obtain ⟨_, _, hev⟩ := endClose_leaves r s
  rw [pendingCause, hev, EventUnit.raise_getLsbD, show s.ev.events.getLsbD c.bit = true from h, Bool.or_true]

/-- A fault of the journal with no FLUSH in progress (R167). -/
theorem journalFault_of_no_flush {s : State} (h : inProgressIs flushCode s = false) :
    journalFault s =
      { s with jw := { s.jw with state := .faulted, ageStart := none, recheckStart := none, rereadWanted := false } } :=
  if_neg (by simpa [inProgressIs] using h)

/-! ## Sheet headers (R154 to R156, R165, R167) -/

theorem sheetEmpty_iff (d : Vector Byte 16) : sheetEmpty d.toList = true ↔ d[0] = 0#8 := by
  simp [sheetEmpty, byteAt]

theorem sheetHeaderRead_of_empty {d : List Byte} {s : State} (hd : sheetEmpty d = true)
    (hst : s.jw.state = .seeking ∨ s.jw.state = .blocked ∨ s.jw.state = .closing) :
    sheetHeaderRead d s = openSheet s := by
  rcases hst with hst | hst | hst <;> simp [sheetHeaderRead, hst, hd]

theorem openSheet_writes {s : State} :
    (openSheet s).jw.state = .opened ∨ (openSheet s).jw.state = .closing := by
  unfold openSheet
  dsimp only
  split <;> simp

/-- A sheet opens for a journal that holds no record. -/
theorem jwRun_openSheet_empty {s : State} (hst : s.jw.state ≠ .closing) (hfifo : s.jw.fifo = []) :
    jwRun (openSheet s) = grant (openSheet s) :=
  jwRun_of_not_calls (by simp [JournalWriter.calls, openSheet, hst, OpenSheet.fresh, hfifo])

/-- A sheet opens for a journal that holds records, and the oldest gets its first place. -/
theorem jwRun_openSheet_held {s : State} {r : Record} {l : List Record} (hfifo : s.jw.fifo = r :: l)
    (hfree : s.bp.outstanding .jw = false) :
    jwRun (openSheet s) = grant (allotPlace (OpenSheet.fresh s.jw.nextIndex) r (openSheet s)) := by
  rw [jwRun, jwPump_of_writing openSheet_writes rfl (by exact hfree), writeNext_of_held (s := openSheet s) rfl (by exact hfifo)]

theorem sheetReadTaken_ok (d : Vector Byte 16) (a : Addr) (s : State) :
    sheetReadTaken (.ok d) (asked .sheetHeaderRead a) s = sheetHeaderRead d.toList s := rfl

theorem sheetReadTaken_error (a : Addr) (s : State) :
    sheetReadTaken .error (asked .sheetHeaderRead a) s = sheetHeaderReadError (busErrorRaised s) := rfl

/-- The end of a sheet header read, of the state its requester takes it in. -/
theorem sheetReadEnd_eq (r : ReadResult 16) (t : Transfer) (s : State) :
    sheetReadEnd r t s = jwRun (sheetReadTaken r t s) := rfl

theorem sheetHeaderRead_seeking {d : List Byte} {s : State} (hd : ¬sheetEmpty d = true) (hst : s.jw.state = .seeking) :
    sheetHeaderRead d s = blockJournal s := by simp [sheetHeaderRead, hst, hd]

theorem sheetHeaderRead_blocked {d : List Byte} {s : State} (hd : ¬sheetEmpty d = true) (hst : s.jw.state = .blocked) :
    sheetHeaderRead d s = { s with jw := { s.jw with recheckStart := some s.tb.tl } } := by
  simp [sheetHeaderRead, hst, hd]

theorem sheetHeaderRead_closing {d : List Byte} {s : State} (hd : ¬sheetEmpty d = true) (hst : s.jw.state = .closing) :
    sheetHeaderRead d s = endClose .ok (loseHeld s) := by simp [sheetHeaderRead, hst, hd]

/-- A journal that has just been blocked, or stays so, asks for nothing. -/
theorem jwRun_of_blocked {s : State} (hst : s.jw.state = .blocked) (hwanted : s.jw.rereadWanted = false) :
    jwRun s = grant s := jwRun_of_not_calls (by simp [JournalWriter.calls, hst, hwanted])

/-- What the end of a close whose held records are lost leaves of the journal. -/
theorem endClose_loseHeld (r : Result) (s : State) :
    (endClose r (loseHeld s)).jw = { s.jw with
        state := .off, sheet := none, ageStart := none, recheckStart := none, rereadWanted := false, fifo := []
        lostCount := satAdd s.jw.lostCount s.jw.fifo.length } ∧
      (endClose r (loseHeld s)).ev = (s.ev.lose s.jw.fifo.length).raise .cmdDone := ⟨rfl, rfl⟩

/-- What the end of a close by an ERROR leaves of the journal. -/
theorem closeError_leaves (s : State) :
    (closeError s).jw = { s.jw with
        state := .off, sheet := none, ageStart := none, recheckStart := none, rereadWanted := false, fifo := []
        lostCount := satAdd s.jw.lostCount (s.jw.fifo.length + s.jw.written) } ∧
      (closeError s).ev = (s.ev.lose (s.jw.fifo.length + s.jw.written)).raise .cmdDone ∧
        (closeError s).cp = { s.cp with inProgress := none, lastResult := .busError } := ⟨rfl, rfl, rfl⟩

theorem EventUnit.raise_lose (c : Cause) {n : Nat} (h : 0 < n) (e : EventUnit) :
    ((e.lose n).raise c).events.getLsbD Cause.recordsLost.bit = true := by
  rw [EventUnit.raise_getLsbD, lose_pending h, Bool.or_true]

/-- A loss keeps what is pending. -/
theorem EventUnit.lose_keeps {c : Cause} {e : EventUnit} (n : Nat) (h : e.events.getLsbD c.bit = true) :
    (e.lose n).events.getLsbD c.bit = true := by
  unfold EventUnit.lose
  split
  · exact h
  · rw [EventUnit.raise_getLsbD, EventUnit.count_events, h, Bool.or_true]

theorem closeError_done (s : State) : pendingCause .cmdDone (closeError s) = true := by
  rw [closeError]
  exact endClose_done _ _

/-- What is pending stays so at the end of a close. -/
theorem closeError_keeps {c : Cause} {s : State} (h : pendingCause c s = true) :
    pendingCause c (closeError s) = true := by
  obtain ⟨_, hev, _⟩ := closeError_leaves s
  rw [pendingCause, hev, EventUnit.raise_getLsbD, EventUnit.lose_keeps _ h, Bool.or_true]

section
variable {u : State} {d : Vector Byte 16} {a : Addr}

theorem sheetReadEnd_opens (hst : u.jw.state = .seeking ∨ u.jw.state = .blocked) (hfifo : u.jw.fifo = [])
    (hd : d[0] = 0#8) : sheetReadEnd (.ok d) (asked .sheetHeaderRead a) u = grant (openSheet u) := by
  rw [sheetReadEnd_eq, sheetReadTaken_ok,
    sheetHeaderRead_of_empty ((sheetEmpty_iff d).mpr hd) (hst.imp_right .inl)]
  exact jwRun_openSheet_empty (by rcases hst with h | h <;> simp [h]) hfifo

theorem sheetReadEnd_opens_held {r : Record} {l : List Record}
    (hst : u.jw.state = .seeking ∨ u.jw.state = .blocked ∨ u.jw.state = .closing) (hfifo : u.jw.fifo = r :: l)
    (hfree : u.bp.outstanding .jw = false) (hd : d[0] = 0#8) :
    sheetReadEnd (.ok d) (asked .sheetHeaderRead a) u =
      grant (allotPlace (OpenSheet.fresh u.jw.nextIndex) r (openSheet u)) := by
  rw [sheetReadEnd_eq, sheetReadTaken_ok, sheetHeaderRead_of_empty ((sheetEmpty_iff d).mpr hd) hst]
  exact jwRun_openSheet_held hfifo hfree

theorem sheetReadEnd_blocks (hst : u.jw.state = .seeking) (hd : d[0] ≠ 0#8) :
    sheetReadEnd (.ok d) (asked .sheetHeaderRead a) u = grant (blockJournal u) := by
  rw [sheetReadEnd_eq, sheetReadTaken_ok, sheetHeaderRead_seeking (mt (sheetEmpty_iff d).mp hd) hst]
  exact jwRun_of_blocked rfl rfl

theorem sheetReadEnd_stays_blocked (hst : u.jw.state = .blocked) (hwanted : u.jw.rereadWanted = false)
    (hd : d[0] ≠ 0#8) : sheetReadEnd (.ok d) (asked .sheetHeaderRead a) u =
      grant { u with jw := { u.jw with recheckStart := some u.tb.tl } } := by
  rw [sheetReadEnd_eq, sheetReadTaken_ok, sheetHeaderRead_blocked (mt (sheetEmpty_iff d).mp hd) hst]
  exact jwRun_of_blocked hst hwanted

theorem sheetReadEnd_closes (hst : u.jw.state = .closing) (hd : d[0] ≠ 0#8) :
    sheetReadEnd (.ok d) (asked .sheetHeaderRead a) u = grant (endClose .ok (loseHeld u)) := by
  rw [sheetReadEnd_eq, sheetReadTaken_ok, sheetHeaderRead_closing (mt (sheetEmpty_iff d).mp hd) hst, jwRun_endClose]

theorem sheetReadEnd_faults (hst : u.jw.state = .seeking ∨ u.jw.state = .blocked) :
    sheetReadEnd .error (asked .sheetHeaderRead a) u = grant (journalFault (busErrorRaised u)) := by
  have hread : sheetHeaderReadError (busErrorRaised u) = journalFault (busErrorRaised u) := by
    rcases hst with h | h <;> simp [sheetHeaderReadError, h]
  rw [sheetReadEnd_eq, sheetReadTaken_error, hread, jwRun_journalFault]

theorem sheetReadEnd_closing_error (hst : u.jw.state = .closing) :
    sheetReadEnd .error (asked .sheetHeaderRead a) u = grant (closeError (busErrorRaised u)) := by
  have hread : sheetHeaderReadError (busErrorRaised u) = closeError (busErrorRaised u) := by
    simp [sheetHeaderReadError, hst]
  rw [sheetReadEnd_eq, sheetReadTaken_error, hread]
  exact jwRun_endClose _ _

/-- A read marked for discard, of a close taken while SEEKING, ends the close whatever its result (R165). -/
theorem sheetReadEnd_discarded_closes (hst : u.jw.state = .closing) (hsheet : u.jw.sheet = none) :
    sheetReadEnd (.ok d) { kind := .sheetHeaderRead, address := a, discard := true } u = grant (endClose .ok u) ∧
      sheetReadEnd .error { kind := .sheetHeaderRead, address := a, discard := true } u =
        grant (endClose .ok (busErrorRaised u)) := by
  have hok (v : State) (hv : v.jw = u.jw) : sheetHeaderReadDiscarded v = endClose .ok v :=
    if_pos ⟨by rw [hv]; exact hst, by rw [hv]; exact hsheet⟩
  have herror : sheetHeaderReadDiscardedError (busErrorRaised u) = endClose .ok (busErrorRaised u) :=
    (if_pos hst).trans (hok (busErrorRaised u) rfl)
  constructor
  · rw [sheetReadEnd_eq, ← jwRun_endClose]
    exact congrArg jwRun (hok u rfl)
  · rw [sheetReadEnd_eq, ← jwRun_endClose]
    exact congrArg jwRun herror

/-- A read that a close taken in BLOCKED has left changes nothing when it ends OK, and faults the journal when it ends
ERROR. -/
theorem sheetReadEnd_left_over (hst : u.jw.state ≠ .closing) :
    sheetReadEnd (.ok d) { kind := .sheetHeaderRead, address := a, discard := true } u = jwRun u ∧
      sheetReadEnd .error { kind := .sheetHeaderRead, address := a, discard := true } u =
        grant (journalFault (busErrorRaised u)) := by
  constructor
  · rw [sheetReadEnd_eq]
    exact congrArg jwRun (if_neg fun h => hst h.1)
  · rw [sheetReadEnd_eq, ← jwRun_journalFault]
    exact congrArg jwRun (if_neg hst)

end

/-- Settles O48: each of the JW's states takes the header in one way, and asks for what its new state calls for. -/
theorem sheetHeaderArrives : Obligations.SheetHeaderArrives := by
  intro s a d hfiled opened others closed
  have hothers (r : ReadResult 16) (t : Transfer) : others (sheetReadEnd r t (grantFirst (freeBus s))) :=
    ⟨by simp, by simp, by simp, by simp, by simp, by simp⟩
  refine ⟨fun h => ?_, fun h => ?_⟩
  · have hend (r : ReadResult 16) : exec (.sheetHeaderReadComplete r) s =
        .next (sheetReadEnd r (asked .sheetHeaderRead a) (grantFirst (freeBus s))) :=
      next_congr (endTransfer_of_inFlightIs h rfl)
    refine ⟨fun hst hfifo hd => ?_, fun r l hst hfifo hjw hd => ?_, fun hst hd => ?_, fun hst hwanted hd => ?_,
      fun hst hflush => ?_, fun hst => ⟨fun hd => ?_, ?_⟩⟩
    · have hopens := sheetReadEnd_opens (u := grantFirst (freeBus s)) (a := a) (by simpa using hst) (by simpa using hfifo)
        hd
      have hnot : s.jw.state ≠ .closing := by rcases hst with h | h <;> simp [h]
      refine ⟨_, hend _, ?_, ?_, hothers _ _, ?_⟩ <;> rw [hopens] <;> simp [openSheet, hnot, opened, OpenSheet.fresh]
    · have hopens := sheetReadEnd_opens_held (u := grantFirst (freeBus s)) (a := a) (by simpa using hst)
        (by simpa using hfifo) (ended_outstanding_jw hfiled hjw) hd
      refine ⟨_, hend _, ?_, ?_, ?_, ?_, ?_, hothers _ _, ?_⟩ <;> rw [hopens]
      · simp [allotPlace, openSheet]
      · simp [allotPlace, openSheet]
      · simp [allotPlace, opened, OpenSheet.fresh, OpenSheet.allot, Config.sheetPlaces]
      · have hholds := request_holds (.recordWrite r) (s.jw.sheetAddress s.jw.nextIndex + 16#64) (openSheet (grantFirst (freeBus s)))
        simpa [allotPlace, openSheet, OpenSheet.fresh, JournalWriter.placeAddress, JournalWriter.sheetAddress] using hholds
      · simp [allotPlace, openSheet]
      · simp [allotPlace, openSheet]
    · have hblocks := sheetReadEnd_blocks (u := grantFirst (freeBus s)) (a := a) (by simpa using hst) hd
      refine ⟨_, hend _, ?_, ?_, ?_, hothers _ _, ?_⟩ <;> rw [hblocks]
      · simp [blockJournal]
      · exact raise_pending _ _
      · simp [blockJournal, count, raise, EventUnit.count, Tally.index]
      · simp [blockJournal]
    · have hstays := sheetReadEnd_stays_blocked (u := grantFirst (freeBus s)) (a := a) (by simpa using hst)
        (by simpa using hwanted) hd
      refine ⟨_, hend _, ?_, ?_, hothers _ _, ?_⟩ <;> rw [hstays] <;> simp
    · have hfaults := sheetReadEnd_faults (u := grantFirst (freeBus s)) (a := a) (by simpa using hst)
      have hno : inProgressIs flushCode (busErrorRaised (grantFirst (freeBus s))) = false := by
        simpa [inProgressIs] using hflush
      rw [journalFault_of_no_flush hno] at hfaults
      refine ⟨_, hend _, ?_, ?_, hothers _ _, ?_⟩ <;> rw [hfaults]
      · simp
      · exact busErrorRaised_pending _
      · simp
    · have hcloses := sheetReadEnd_closes (u := grantFirst (freeBus s)) (a := a) (by simpa using hst) hd
      obtain ⟨hjw, hev⟩ := endClose_loseHeld .ok (grantFirst (freeBus s))
      refine ⟨_, hend _, ?_, ?_, ?_, ?_, ?_, ?_, fun hlost => ?_, ?_, ?_, hothers _ _⟩ <;> rw [hcloses]
      · simp [hjw]
      · simp [hjw]
      · simp [hjw]
      · simp [hjw]
      · simp [hjw]
      · simp [hjw]
      · simpa [pendingCause, hev] using EventUnit.raise_lose .cmdDone hlost s.ev
      · exact endClose_done .ok (loseHeld (grantFirst (freeBus s)))
      · simp [endClose, complete, loseHeld, loseRecords]
    · have hcloses := sheetReadEnd_closing_error (u := grantFirst (freeBus s)) (a := a) (by simpa using hst)
      obtain ⟨hjw, hev, hcp⟩ := closeError_leaves (busErrorRaised (grantFirst (freeBus s)))
      refine ⟨_, hend _, ?_, ?_, ?_, ?_, ?_, ?_, ?_, fun hlost => ?_, ?_, ?_, hothers _ _⟩ <;> rw [hcloses]
      · simp [hjw]
      · exact closeError_keeps (busErrorRaised_pending _)
      · simp [hjw]
      · simp [hjw]
      · simp [hjw]
      · simp [hjw]
      · simp [hjw, JournalWriter.written]
      · simpa [pendingCause, hev] using EventUnit.raise_lose .cmdDone hlost (busErrorRaised (grantFirst (freeBus s))).ev
      · exact closeError_done _
      · simp [hcp]
  · have hend (r : ReadResult 16) : exec (.sheetHeaderReadComplete r) s =
        .next (sheetReadEnd r { kind := .sheetHeaderRead, address := a, discard := true } (grantFirst (freeBus s))) :=
      next_congr (endTransfer_of_flight h rfl)
    refine ⟨fun hst hsheet => ?_, fun hst => ?_⟩
    · obtain ⟨hok, herror⟩ := sheetReadEnd_discarded_closes (u := grantFirst (freeBus s)) (d := d) (a := a)
        (by simpa using hst) (by simpa using hsheet)
      constructor
      · refine ⟨_, hend (.ok d), ?_, ?_, ?_, ?_, ?_, ?_, fun hlost => absurd hlost (by omega), ?_, ?_, hothers _ _⟩ <;>
          rw [hok]
        · simp [endClose, JournalWriter.turnOff]
        · simp [endClose, JournalWriter.turnOff]
        · simp [endClose, JournalWriter.turnOff]
        · simp [endClose, JournalWriter.turnOff]
        · simp [endClose, JournalWriter.turnOff]
        · simp [endClose, JournalWriter.turnOff, satAdd_zero]
        · exact endClose_done .ok (grantFirst (freeBus s))
        · simp [endClose, complete]
      · refine ⟨_, hend .error, ?_, ?_, ?_, ?_, ?_, ?_, ?_, fun hlost => absurd hlost (by omega), ?_, ?_, hothers _ _⟩ <;>
          rw [herror]
        · simp [endClose, JournalWriter.turnOff]
        · exact endClose_keeps .ok (busErrorRaised_pending _)
        · simp [endClose, JournalWriter.turnOff]
        · simp [endClose, JournalWriter.turnOff]
        · simp [endClose, JournalWriter.turnOff]
        · simp [endClose, JournalWriter.turnOff]
        · simp [endClose, JournalWriter.turnOff, satAdd_zero]
        · exact endClose_done .ok (busErrorRaised (grantFirst (freeBus s)))
        · simp [endClose, complete]
    · obtain ⟨hok, herror⟩ := sheetReadEnd_left_over (u := grantFirst (freeBus s)) (d := d) (a := a)
        (by rcases hst with h | h <;> simp [h])
      have hrun : BusAlone (grantFirst (freeBus s)) (jwRun (grantFirst (freeBus s))) := by
        rcases hst with h | h
        · rw [jwRun_of_still (.inl (by simpa using h))]
          exact grant_busAlone _
        · exact jwRun_seeking_busAlone (by simpa using h)
      refine ⟨⟨_, hend (.ok d), ?_, ?_, fun hseeks hjw => ?_, hothers _ _, ?_⟩, fun hflush => ?_⟩
      · rw [hok, hrun.jw]
        simp
      · rw [hok, hrun.ev]
        simp
      · have hholds := request_holds .sheetHeaderRead (s.jw.sheetAddress s.jw.nextIndex) (grantFirst (freeBus s))
        rw [hok, jwRun_of_seeking (by simpa using hseeks) (ended_outstanding_jw hfiled hjw)]
        simpa [requestSheetHeader] using hholds
      · rw [hok, hrun.cp]
        simp
      · have hno : inProgressIs flushCode (busErrorRaised (grantFirst (freeBus s))) = false := by
          simpa [inProgressIs] using hflush
        rw [journalFault_of_no_flush hno] at herror
        refine ⟨_, hend .error, ?_, ?_, hothers _ _, ?_⟩ <;> rw [herror]
        · simp
        · exact busErrorRaised_pending _
        · simp

end Sys2Proof.Machine
end

/-! The ends of the Journal Writer's writes (R157 to R159, R161, R164, R165, R167, R191). -/
section
namespace Sys2Proof.Machine

/-! ## The bytes written (12.3) -/

/-- A record's bytes. -/
theorem recordBytes (r : Record) :
    r.bytes.length = 16 ∧ leAt r.bytes 0 1 = r.kind.code ∧ leAt r.bytes 1 1 = r.source.toNat ∧
      leAt r.bytes 2 1 = r.flags.toNat ∧ leAt r.bytes 3 5 = r.stamp.toNat ∧ leAt r.bytes 8 4 = r.value1.toNat ∧
        leAt r.bytes 12 4 = r.value2.toNat := by
  have hcode : r.kind.code % 256 = r.kind.code := by cases r.kind <;> rfl
  unfold Record.bytes
  refine ⟨by simp, ?_, ?_, ?_, ?_, ?_, ?_⟩
  · rw [leAt_append_left (by simp), leAt_append_left (by simp), leAt_append_left (by simp)]
    simpa [leAt, byteOf] using hcode
  · rw [leAt_append_left (by simp), leAt_append_left (by simp), leAt_append_left (by simp)]
    simp [leAt]
  · rw [leAt_append_left (by simp), leAt_append_left (by simp), leAt_append_left (by simp)]
    simp [leAt]
  · rw [leAt_append_left (by simp), leAt_append_left (by simp), leAt_append_right (by simp)]
    exact leAt_bytesOf r.stamp rfl
  · rw [leAt_append_left (by simp), leAt_append_right (by simp)]
    simpa using leAt_bytesOf (n := 4) r.value1 rfl
  · rw [leAt_append_right (by simp)]
    simpa using leAt_bytesOf (n := 4) r.value2 rfl

/-- A FILLED header's bytes. -/
theorem sheetHeaderBytes (hd : SheetHeader) :
    hd.bytes.length = 16 ∧ leAt hd.bytes 0 1 = 1 ∧ leAt hd.bytes 1 1 = hd.count % 256 ∧
      leAt hd.bytes 2 1 = (match hd.reason with | .full => 1 | .aged => 2 | .flush => 3 | .closed => 4) ∧
        leAt hd.bytes 3 1 = hd.opened.toNat + 2 * hd.loaded.toNat ∧ leAt hd.bytes 4 4 = hd.sequence.toNat ∧
          leAt hd.bytes 8 4 = hd.lost.toNat ∧ leAt hd.bytes 12 4 = hd.firstStamp.toNat := by
  unfold SheetHeader.bytes
  refine ⟨by simp, ?_, ?_, ?_, ?_, ?_, ?_, ?_⟩
  · rw [leAt_append_left (by simp), leAt_append_left (by simp), leAt_append_left (by simp)]
    rfl
  · rw [leAt_append_left (by simp), leAt_append_left (by simp), leAt_append_left (by simp)]
    simp [leAt, byteOf]
  · rw [leAt_append_left (by simp), leAt_append_left (by simp), leAt_append_left (by simp)]
    cases hd.reason <;> rfl
  · rw [leAt_append_left (by simp), leAt_append_left (by simp), leAt_append_left (by simp)]
    cases hd.opened <;> cases hd.loaded <;> rfl
  · rw [leAt_append_left (by simp), leAt_append_left (by simp), leAt_append_right (by simp)]
    exact leAt_bytesOf hd.sequence rfl
  · rw [leAt_append_left (by simp), leAt_append_right (by simp)]
    simpa using leAt_bytesOf (n := 4) hd.lost rfl
  · rw [leAt_append_right (by simp)]
    simpa using leAt_bytesOf (n := 4) hd.firstStamp rfl

/-! ## Record writes (R157, R158, R165, R167) -/

/-- The journal after a record write that ended OK, of a sheet that is open. -/
theorem recordWritten_of_sheet {j : JournalWriter} {h : OpenSheet} (hsheet : j.sheet = some h) (tl : Time) :
    j.recordWritten tl = { j with
      fifo := j.fifo.tail
      sheet := some { h with written := h.written + 1 }
      ageStart := if h.written = 0 ∧ h.sealed = none ∧ j.flushAge ≠ 0#32 then some tl else j.ageStart } := by
  simp [JournalWriter.recordWritten, hsheet]

theorem recordWritten_state (j : JournalWriter) (tl : Time) : (j.recordWritten tl).state = j.state := by
  unfold JournalWriter.recordWritten
  split <;> rfl

theorem recordWritten_fifo (j : JournalWriter) (tl : Time) : (j.recordWritten tl).fifo = j.fifo.tail := by
  unfold JournalWriter.recordWritten
  split <;> rfl

theorem recordEnd_ok (s : State) : recordEnd .ok s = jwRun { s with jw := s.jw.recordWritten s.tb.tl } := rfl

/-- The journal's state after a record write goes on with the sheet, the record counted. -/
theorem recordEnd_writes {s : State} {h : OpenSheet} (hst : s.jw.state = .opened ∨ s.jw.state = .closing)
    (hsheet : s.jw.sheet = some h) (hfree : s.bp.outstanding .jw = false) :
    recordEnd .ok s = grant (writeNext { h with written := h.written + 1 }
      { s with jw := { s.jw with
          fifo := s.jw.fifo.tail
          sheet := some { h with written := h.written + 1 }
          ageStart :=
            if h.written = 0 ∧ h.sealed = none ∧ s.jw.flushAge ≠ 0#32 then some s.tb.tl else s.jw.ageStart } }) := by
  rw [recordEnd_ok, recordWritten_of_sheet hsheet, jwRun, jwPump_of_writing (by exact hst) rfl (by exact hfree)]

/-- The place allotted leaves the age timer alone until it is the last. -/
theorem allotPlace_ageStart {h : OpenSheet} (hsealed : h.sealed = none) (hroom : h.allotted < 30) (r : Record)
    (s : State) : (allotPlace h r s).jw.ageStart = s.jw.ageStart := by
  have hplaces : ¬h.allotted + 1 = 31 := by omega
  simp [allotPlace, OpenSheet.allot, Config.sheetPlaces, hsealed, hplaces]

/-- The age timer after a record write of a sheet that has room (R157). -/
theorem recordEnd_ageStart {s : State} {h : OpenSheet} (hst : s.jw.state = .opened) (hsheet : s.jw.sheet = some h)
    (hsealed : h.sealed = none) (hroom : h.allotted < 30) :
    (recordEnd .ok s).jw.ageStart =
      if h.written = 0 ∧ s.jw.flushAge ≠ 0#32 then some s.tb.tl else s.jw.ageStart := by
  cases hout : s.bp.outstanding .jw with
  | true =>
    rw [recordEnd_ok, jwRun_of_outstanding (by exact hout), recordWritten_of_sheet hsheet]
    simp [hsealed]
  | false =>
    rw [recordEnd_writes (.inl hst) hsheet hout]
    cases hfifo : s.jw.fifo.tail with
    | nil =>
      rw [writeNext_of_opened_empty (by exact hsealed) rfl (by exact hst)]
      simp [hsealed]
    | cons x l =>
      rw [writeNext_of_held (r := x) (l := l) (by exact hsealed) rfl]
      refine (allotPlace_ageStart (h := { h with written := h.written + 1 }) hsealed hroom _ _).trans ?_
      simp [hsealed]

/-- A fault of the journal: it is FAULTED, and a FLUSH in progress is answered BUS_ERROR (R167). -/
theorem journalFault_leaves (s : State) :
    (journalFault s).jw =
        { s.jw with state := .faulted, ageStart := none, recheckStart := none, rereadWanted := false } ∧
      (inProgressIs flushCode s = true →
        (journalFault s).cp = { s.cp with inProgress := none, lastResult := .busError }) ∧
        (inProgressIs flushCode s = false → (journalFault s).cp = s.cp) := by
  unfold journalFault endFlush
  refine ⟨by split <;> rfl, fun h => ?_, fun h => ?_⟩
  · rw [if_pos (by exact h)]
    rfl
  · rw [if_neg (by exact ne_true_of_eq_false h)]

/-- What is pending stays so at a fault of the journal. -/
theorem journalFault_keeps {c : Cause} {s : State} (h : pendingCause c s = true) :
    pendingCause c (journalFault s) = true := by
  unfold journalFault endFlush
  split
  · rw [pendingCause, complete, EventUnit.raise_getLsbD]
    exact Bool.or_eq_true _ _ |>.mpr (.inr h)
  · exact h

theorem loseRecords_keeps {c : Cause} {s : State} (n : Nat) (h : pendingCause c s = true) :
    pendingCause c (loseRecords n s) = true := EventUnit.lose_keeps n h

theorem recordEnd_error_opened {s : State} (hst : s.jw.state = .opened) :
    recordEnd .error s = grant (journalFault (loseRecords 1
      { busErrorRaised s with jw := { s.jw with fifo := s.jw.fifo.tail } })) := by
  rw [← jwRun_journalFault]
  exact congrArg jwRun (if_neg (by simp [hst]))

theorem recordEnd_error_opened_jw {s : State} (hst : s.jw.state = .opened) :
    (recordEnd .error s).jw = { s.jw with
      state := .faulted, fifo := s.jw.fifo.tail, lostCount := satAdd s.jw.lostCount 1, ageStart := none
      recheckStart := none, rereadWanted := false } := by
  rw [recordEnd_error_opened hst]
  exact (journalFault_leaves _).1

theorem recordEnd_error_closing {s : State} (hst : s.jw.state = .closing) :
    recordEnd .error s = grant (closeError (busErrorRaised s)) :=
  (congrArg jwRun (if_pos hst)).trans (jwRun_endClose _ _)

/-! ## Sheet header writes (R159, R161, R164, R165, R167) -/

/-- The header of a sheet has been written and counted (R159, R161). -/
def headerCounted (hd : SheetHeader) (s : State) : State :=
  raiseReady (raisesReady hd.reason s.jw) (announceHeader hd s)

/-- What a FILLED header moves in the journal's position and in the counters (R159, R161). -/
structure Announced (hd : SheetHeader) (s t : State) : Prop where
  nextSequence : t.jw.nextSequence = s.jw.nextSequence + 1#32
  nextIndex : t.jw.nextIndex = if s.jw.nextIndex + 1 < s.jw.sheetCount then s.jw.nextIndex + 1 else 0
  lostCount : t.jw.lostCount = s.jw.lostCount - hd.lost
  openedMark : t.jw.openedMark = (s.jw.openedMark && !hd.opened)
  loadedMark : t.jw.loadedMark = (s.jw.loadedMark && !hd.loaded)
  filled : t.ev.tallies[12] = satAdd s.ev.tallies[12] 1
  journaled : t.ev.tallies[9] = satAdd s.ev.tallies[9] hd.count
  readyCount : t.jw.readyCount = if hd.reason = .full ∧ s.jw.readyCount + 1 < s.jw.batch then s.jw.readyCount + 1 else 0
  ready : pendingCause .sheetsReady t = (pendingCause .sheetsReady s || raisesReady hd.reason s.jw)

theorem headerCounted_announced (hd : SheetHeader) (s : State) : Announced hd s (headerCounted hd s) := by
  unfold headerCounted raiseReady
  split
  next h => exact
    { nextSequence := rfl, nextIndex := rfl, lostCount := rfl, openedMark := rfl, loadedMark := rfl
      filled := by simp [announceHeader, count, raise, EventUnit.count, Tally.index]
      journaled := by simp [announceHeader, count, raise, EventUnit.count, Tally.index]
      readyCount := rfl
      ready := by rw [raise_pending, h, Bool.or_true] }
  next h => exact
    { nextSequence := rfl, nextIndex := rfl, lostCount := rfl, openedMark := rfl, loadedMark := rfl
      filled := by simp [announceHeader, count, EventUnit.count, Tally.index]
      journaled := by simp [announceHeader, count, EventUnit.count, Tally.index]
      readyCount := rfl
      ready := by simp [h, announceHeader, count, pendingCause] }

/-- What the header has left elsewhere. -/
theorem headerCounted_leaves (hd : SheetHeader) (s : State) :
    (headerCounted hd s).jw.state = s.jw.state ∧ (headerCounted hd s).jw.fifo = s.jw.fifo ∧
      (headerCounted hd s).jw.sheet = none ∧ (headerCounted hd s).cp = s.cp ∧ (headerCounted hd s).bp = s.bp := by
  unfold headerCounted raiseReady
  split <;> exact ⟨rfl, rfl, rfl, rfl, rfl⟩

theorem sheetWriteEnd_ok (hd : SheetHeader) (a : Addr) (s : State) :
    sheetWriteEnd .ok (asked (.sheetHeaderWrite hd) a) s = jwRun (afterHeader (headerCounted hd s)) := rfl

theorem sheetWriteEnd_error_opened {hd : SheetHeader} {a : Addr} {s : State} (hst : s.jw.state = .opened) :
    sheetWriteEnd .error (asked (.sheetHeaderWrite hd) a) s =
      grant (journalFault (loseRecords s.jw.written { busErrorRaised s with jw := { s.jw with sheet := none } })) := by
  rw [← jwRun_journalFault]
  exact congrArg jwRun (if_neg (by simp [hst]))

theorem sheetWriteEnd_error_opened_jw {hd : SheetHeader} {a : Addr} {s : State} (hst : s.jw.state = .opened) :
    (sheetWriteEnd .error (asked (.sheetHeaderWrite hd) a) s).jw = { s.jw with
      state := .faulted, sheet := none, lostCount := satAdd s.jw.lostCount s.jw.written, ageStart := none
      recheckStart := none, rereadWanted := false } := by
  rw [sheetWriteEnd_error_opened hst]
  exact (journalFault_leaves _).1

theorem sheetWriteEnd_error_closing {hd : SheetHeader} {a : Addr} {s : State} (hst : s.jw.state = .closing) :
    sheetWriteEnd .error (asked (.sheetHeaderWrite hd) a) s = grant (closeError (busErrorRaised s)) :=
  (congrArg jwRun (if_pos hst)).trans (jwRun_endClose _ _)

/-- What a FLUSH in progress leaves at its end, and what is left without one (R164). -/
theorem endFlush_leaves (r : Result) (s : State) :
    (endFlush r s).jw = s.jw ∧ (endFlush r s).bp = s.bp ∧ (endFlush r s).ev.tallies = s.ev.tallies ∧
      pendingCause .sheetsReady (endFlush r s) = pendingCause .sheetsReady s ∧
        (inProgressIs flushCode s = true → (endFlush r s).cp = { s.cp with inProgress := none, lastResult := r }) ∧
          (inProgressIs flushCode s = false → (endFlush r s).cp = s.cp) := by
  unfold endFlush
  split
  next h => exact ⟨rfl, rfl, rfl, complete_pendingCause_of_ne _ _ (by decide), fun _ => rfl, fun hno => by simp [h] at hno⟩
  next h => exact ⟨rfl, rfl, rfl, rfl, fun hyes => absurd hyes h, fun _ => rfl⟩

/-- The counters and the position of a state that shares them. -/
theorem Announced.of_eq {hd : SheetHeader} {s t u : State} (h : Announced hd s t)
    (hjw : u.jw.nextSequence = t.jw.nextSequence ∧ u.jw.nextIndex = t.jw.nextIndex ∧ u.jw.lostCount = t.jw.lostCount ∧
      u.jw.openedMark = t.jw.openedMark ∧ u.jw.loadedMark = t.jw.loadedMark ∧ u.jw.readyCount = t.jw.readyCount)
    (htallies : u.ev.tallies = t.ev.tallies)
    (hpending : pendingCause .sheetsReady u = pendingCause .sheetsReady t) : Announced hd s u := by
  obtain ⟨hsequence, hindex, hlost, hopened, hloaded, hready⟩ := hjw
  exact ⟨hsequence.trans h.nextSequence, hindex.trans h.nextIndex, hlost.trans h.lostCount, hopened.trans h.openedMark,
    hloaded.trans h.loadedMark, by rw [htallies, h.filled], by rw [htallies, h.journaled], hready.trans h.readyCount,
    hpending.trans h.ready⟩

/-- SHEETS_READY and the ready count after a FILLED header (R161). -/
theorem Announced.counted {hd : SheetHeader} {s t : State} (h : Announced hd s t) :
    (hd.reason ≠ .full → pendingCause .sheetsReady t = true ∧ t.jw.readyCount = 0) ∧
      (hd.reason = .full → s.jw.readyCount + 1 < s.jw.batch → t.jw.readyCount = s.jw.readyCount + 1 ∧
        pendingCause .sheetsReady t = pendingCause .sheetsReady s) ∧
        (hd.reason = .full → s.jw.batch ≤ s.jw.readyCount + 1 → t.jw.readyCount = 0 ∧
          pendingCause .sheetsReady t = true) := by
  have hcount := h.readyCount
  have hready := h.ready
  unfold raisesReady at hready
  refine ⟨fun hr => ?_, fun hr hlt => ?_, fun hr hle => ?_⟩
  · simp [hready, hcount, hr]
  · simp [hready, hcount, hr, hlt]
  · simp [hready, hcount, hr, Nat.not_lt.mpr hle]

/-- An OPEN journal's header, written, makes it SEEKING (R159, R164). -/
theorem sheetWriteEnd_ok_opened {hd : SheetHeader} {a : Addr} {s : State} (hst : s.jw.state = .opened) :
    sheetWriteEnd .ok (asked (.sheetHeaderWrite hd) a) s =
      jwRun (endFlush .ok { headerCounted hd s with jw := { (headerCounted hd s).jw with state := .seeking } }) := by
  obtain ⟨hstate, _⟩ := headerCounted_leaves hd s
  rw [sheetWriteEnd_ok, afterHeader, if_neg (by rw [hstate, hst]; decide)]

/-- A close with nothing held ends with its header (R165). -/
theorem sheetWriteEnd_ok_closing_empty {hd : SheetHeader} {a : Addr} {s : State} (hst : s.jw.state = .closing)
    (hfifo : s.jw.fifo = []) :
    sheetWriteEnd .ok (asked (.sheetHeaderWrite hd) a) s = grant (endClose .ok (headerCounted hd s)) := by
  obtain ⟨hstate, hheld, _⟩ := headerCounted_leaves hd s
  rw [sheetWriteEnd_ok, afterHeader, if_pos (by rw [hstate, hst]), if_pos (by rw [hheld, hfifo]), jwRun_endClose]

/-- A close with records held seeks the next sheet (R165). -/
theorem sheetWriteEnd_ok_closing_held {hd : SheetHeader} {a : Addr} {s : State} (hst : s.jw.state = .closing)
    (hfifo : s.jw.fifo ≠ []) (hfree : s.bp.outstanding .jw = false) :
    sheetWriteEnd .ok (asked (.sheetHeaderWrite hd) a) s = grant (requestSheetHeader (headerCounted hd s)) := by
  obtain ⟨hstate, hheld, hsheet, _, hbp⟩ := headerCounted_leaves hd s
  rw [sheetWriteEnd_ok, afterHeader, if_pos (by rw [hstate, hst]), if_neg (by rw [hheld]; exact hfifo), jwRun]
  simp [jwPump, hstate, hst, hsheet, hbp, hfree]

/-- Settles O49: a write that ends leaves the sheet one further, and the journal writes, seeks or ends. -/
theorem sheetWritesEnd : Obligations.SheetWritesEnd := by
  intro s a hfiled others flushEnds announced
  obtain ⟨u, hu⟩ : ∃ u, u = grantFirst (freeBus s) := ⟨_, rfl⟩
  have hujw : u.jw = s.jw := by simp [hu]
  have hucp : u.cp = s.cp := by simp [hu]
  have huev : u.ev = s.ev := by simp [hu]
  have hutb : u.tb = s.tb := by simp [hu]
  have hufree (h : s.bp.jw = none) : u.bp.outstanding .jw = false := hu ▸ ended_outstanding_jw hfiled h
  have hufiled : u.bp.Filed := hu ▸ grantFirst_filed _ (freeBus_filed _ hfiled)
  have hrecord (r : Record) (h : inFlightIs s (.recordWrite r) a) (e : WriteResult) :
      exec (.recordWriteComplete e) s = .next (recordEnd e u) :=
    hu ▸ next_congr (endTransfer_of_inFlightIs h rfl)
  have hheader (hd : SheetHeader) (h : inFlightIs s (.sheetHeaderWrite hd) a) (e : WriteResult) :
      exec (.sheetHeaderWriteComplete e) s = .next (sheetWriteEnd e (asked (.sheetHeaderWrite hd) a) u) :=
    hu ▸ next_congr (endTransfer_of_inFlightIs h rfl)
  have hrest (e : WriteResult) : others (recordEnd e u) := by
    rw [hu]
    exact ⟨by simp, by simp, by simp, by simp, by simp, by simp⟩
  have hothers (e : WriteResult) (t : Transfer) : others (sheetWriteEnd e t u) := by
    rw [hu]
    exact ⟨by simp, by simp, by simp, by simp, by simp, by simp⟩
  have hflush : inProgressIs flushCode u = inProgressIs flushCode s := by simp [inProgressIs, hucp]
  have hannounced (hd : SheetHeader) (t : State) (hsheet : t.jw.sheet = none) (h : Announced hd u t) :
      announced hd t := by
    obtain ⟨hother, hsome, hfull⟩ := h.counted
    obtain ⟨hsequence, hindex, hlost, hopened, hloaded, hfilled, hjournaled, _, _⟩ := h
    simp only [hujw, huev, pendingCause] at *
    exact ⟨hsheet, hsequence, hindex, hlost, hopened, hloaded, hfilled, hjournaled, hother, hsome, hfull⟩
  refine ⟨fun r h hst => ⟨?_, fun sh hsheet hplaced hjw => ⟨_, hrecord r h .ok, ?_, ?_, ?_⟩, ?_⟩,
    fun hd h hst => ⟨?_, ?_⟩, fun hd h hst => ⟨fun hfifo => ?_, ?_⟩, fun hd h hst hfifo hjw => ?_,
    fun r sh h hst hsheet hsealed hplaced hjw => ⟨fun x l hheld => ?_, fun hheld => ?_⟩, fun r h hst => ?_,
    fun r => recordBytes r, fun hd => sheetHeaderBytes hd⟩
  · have hrun := jwRun_kept (s := { u with jw := u.jw.recordWritten u.tb.tl })
      (by simp [recordWritten_state, hujw, hst, JournalState.takes])
    have hend := recordEnd_ok u
    rw [← hend] at hrun
    refine ⟨_, hrecord r h .ok, ?_, ?_, ?_, hrest _, ?_, fun sh hsheet hsealed hroom => ?_⟩
    · rw [hrun.fifo]
      simp [recordWritten_fifo, hujw]
    · rw [hrun.state]
      simp [recordWritten_state, hujw, hst]
    · rw [hrun.ev]
      exact huev
    · rw [hrun.cp]
      exact hucp
    · rw [recordEnd_ageStart (by rw [hujw, hst]) (by rw [hujw, hsheet]) hsealed hroom, hujw, hutb]
  · intro c hc
    rw [recordEnd_writes (.inl (by rw [hujw, hst])) (by rw [hujw, hsheet]) (hufree hjw), writeNext_of_sealed (by exact hc)]
    refine ⟨rfl, by simp [requestHeaderWrite, hc, hujw], ?_⟩
    have hholds := request_holds (.sheetHeaderWrite
        { count := sh.allotted, reason := c, opened := s.jw.openedMark, loaded := s.jw.loadedMark,
          sequence := s.jw.nextSequence, lost := s.jw.lostCount, firstStamp := sh.firstStamp })
      (s.jw.base + BitVec.ofNat 64 (512 * sh.index)) u
    simpa [requestHeaderWrite, JournalWriter.header, JournalWriter.sheetAddress, hujw] using hholds
  · intro x l hsealed hheld
    rw [recordEnd_writes (.inl (by rw [hujw, hst])) (by rw [hujw, hsheet]) (hufree hjw),
      writeNext_of_held (by exact hsealed) (by rw [← hheld, hujw])]
    refine ⟨?_, fun hfull => by simp [allotPlace, OpenSheet.allot, Config.sheetPlaces, hfull], ?_⟩
    · have hlast : sh.allotted ≠ 0 := by omega
      simp [allotPlace, OpenSheet.allot, Config.sheetPlaces, hsealed, hlast]
    · have hholds := request_holds (.recordWrite x)
        (s.jw.base + BitVec.ofNat 64 (512 * sh.index) + BitVec.ofNat 64 (16 + 16 * sh.allotted)) u
      simpa [allotPlace, JournalWriter.placeAddress, JournalWriter.sheetAddress, hujw] using hholds
  · intro hsealed hheld
    rw [recordEnd_writes (.inl (by rw [hujw, hst])) (by rw [hujw, hsheet]) (hufree hjw),
      writeNext_of_opened_empty (by exact hsealed) (by rw [← hheld, hujw]) (by simp [hujw, hst])]
    exact ⟨rfl, (hufiled.outstanding_grant .jw).trans (hufree hjw)⟩
  · have herror := recordEnd_error_opened (s := u) (by rw [hujw, hst])
    have hjw := recordEnd_error_opened_jw (s := u) (by rw [hujw, hst])
    obtain ⟨_, hyes, hno⟩ := journalFault_leaves (loseRecords 1
      { busErrorRaised u with jw := { u.jw with fifo := u.jw.fifo.tail } })
    refine ⟨_, hrecord r h .error, by rw [hjw, hujw], by rw [hjw], by rw [hjw, hujw], ?_, ?_, hrest _, ?_⟩ <;>
      rw [herror]
    · exact journalFault_keeps (EventUnit.lose_pending Nat.one_pos _)
    · exact journalFault_keeps (loseRecords_keeps 1 (busErrorRaised_pending u))
    · exact ⟨fun h => (hyes (hflush.trans h)).trans (by rw [← hucp]; rfl),
        fun h => (hno (hflush.trans h)).trans hucp⟩
  · have hok := sheetWriteEnd_ok_opened (hd := hd) (a := a) (s := u) (by rw [hujw, hst])
    obtain ⟨hejw, hebp, hetallies, hepending, hyes, hno⟩ := endFlush_leaves .ok
      { headerCounted hd u with jw := { (headerCounted hd u).jw with state := .seeking } }
    have hrun := jwRun_seeking_busAlone (s := endFlush .ok
      { headerCounted hd u with jw := { (headerCounted hd u).jw with state := .seeking } }) (by rw [hejw])
    obtain ⟨hstate, hfifo, hsheet, hcp, hbp⟩ := headerCounted_leaves hd u
    refine ⟨_, hheader hd h .ok, ?_, hannounced hd _ ?_ ?_, fun hjw => ?_, ?_, hothers _ _, ?_⟩ <;> rw [hok]
    · rw [hrun.jw, hejw]
    · rw [hrun.jw, hejw]
      exact hsheet
    · refine (headerCounted_announced hd u).of_eq ?_ ?_ ?_
      · rw [hrun.jw, hejw]
        exact ⟨rfl, rfl, rfl, rfl, rfl, rfl⟩
      · rw [hrun.ev, hetallies]
      · rw [pendingCause, hrun.ev]
        exact hepending
    · rw [jwRun_of_seeking (by rw [hejw]) (by rw [hebp]; exact (congrArg _ hbp).trans (hufree hjw))]
      exact request_holds _ _ _
    · rw [hrun.jw, hejw]
      exact hfifo.trans (by rw [hujw])
    · refine ⟨fun h => ?_, fun h => ?_⟩
      · rw [hrun.cp, hyes (by simpa [inProgressIs, hcp, hucp] using h)]
        simp [hcp, hucp]
      · rw [hrun.cp, hno (by simpa [inProgressIs, hcp, hucp] using h)]
        exact hcp.trans hucp
  · have herror := sheetWriteEnd_error_opened (hd := hd) (a := a) (s := u) (by rw [hujw, hst])
    have hjw := sheetWriteEnd_error_opened_jw (hd := hd) (a := a) (s := u) (by rw [hujw, hst])
    obtain ⟨_, hyes, hno⟩ := journalFault_leaves (loseRecords u.jw.written
      { busErrorRaised u with jw := { u.jw with sheet := none } })
    refine ⟨_, hheader hd h .error, by rw [hjw], by rw [hjw, hujw], by rw [hjw, hujw], by rw [hjw, hujw], ?_, hothers _ _,
      ?_⟩ <;> rw [herror]
    · exact journalFault_keeps (loseRecords_keeps _ (busErrorRaised_pending u))
    · exact ⟨fun h => (hyes (hflush.trans h)).trans (by rw [← hucp]; rfl),
        fun h => (hno (hflush.trans h)).trans hucp⟩
  · have hok := sheetWriteEnd_ok_closing_empty (hd := hd) (a := a) (s := u) (by rw [hujw, hst]) (by rw [hujw, hfifo])
    obtain ⟨_, hheld, _, hcp, _⟩ := headerCounted_leaves hd u
    refine ⟨_, hheader hd h .ok, ?_, hannounced hd _ ?_ ?_, ?_, ?_, hothers _ _, ?_⟩ <;> rw [hok]
    · rfl
    · rfl
    · exact (headerCounted_announced hd u).of_eq ⟨rfl, rfl, rfl, rfl, rfl, rfl⟩ rfl
        (complete_pendingCause_of_ne .ok _ (by decide))
    · exact hheld.trans (by rw [hujw, hfifo])
    · exact endClose_done .ok (headerCounted hd u)
    · simp [endClose, complete, hcp, hucp]
  · have herror := sheetWriteEnd_error_closing (hd := hd) (a := a) (s := u) (by rw [hujw, hst])
    obtain ⟨hjw, _, hcp⟩ := closeError_leaves (busErrorRaised u)
    refine ⟨_, hheader hd h .error, ?_, ?_, ?_, ?_, ?_, ?_, ?_, hothers _ _, ?_⟩ <;> rw [herror]
    · simp [hjw]
    · simp [hjw]
    · simp [hjw, hujw]
    · simp [hjw, hujw]
    · simp [hjw, hujw]
    · exact closeError_keeps (busErrorRaised_pending u)
    · exact closeError_done (busErrorRaised u)
    · simp [hcp, hucp]
  · have hok := sheetWriteEnd_ok_closing_held (hd := hd) (a := a) (s := u) (by rw [hujw, hst]) (by rw [hujw]; exact hfifo)
      (hufree hjw)
    obtain ⟨hstate, hheld, hsheet, hcp, _⟩ := headerCounted_leaves hd u
    refine ⟨_, hheader hd h .ok, ?_, hannounced hd _ ?_ ?_, ?_, ?_, hothers _ _, ?_⟩ <;> rw [hok]
    · exact hstate.trans (by rw [hujw, hst])
    · exact hsheet
    · exact (headerCounted_announced hd u).of_eq ⟨rfl, rfl, rfl, rfl, rfl, rfl⟩ rfl rfl
    · exact hheld.trans (by rw [hujw])
    · exact request_holds _ _ _
    · exact hcp.trans hucp
  · have hwrites := recordEnd_writes (s := u) (h := sh) (.inr (by rw [hujw, hst])) (by rw [hujw, hsheet]) (hufree hjw)
    rw [writeNext_of_held (r := x) (l := l) (by exact hsealed) (by rw [← hheld, hujw])] at hwrites
    refine ⟨_, hrecord r h .ok, ?_, ?_, ?_, hrest _, ?_, ?_, ?_⟩ <;> rw [hwrites]
    · simp [allotPlace, hujw, hst]
    · simp [allotPlace, hujw]
    · simp [allotPlace, huev]
    · simp [allotPlace, hucp]
    · have hholds := request_holds (.recordWrite x)
        (s.jw.base + BitVec.ofNat 64 (512 * sh.index) + BitVec.ofNat 64 (16 + 16 * sh.allotted)) u
      simpa [allotPlace, JournalWriter.placeAddress, JournalWriter.sheetAddress, hujw] using hholds
    · exact ⟨_, rfl, rfl, rfl, by simp [OpenSheet.allot, Config.sheetPlaces, hsealed]⟩
  · have hwrites := recordEnd_writes (s := u) (h := sh) (.inr (by rw [hujw, hst])) (by rw [hujw, hsheet]) (hufree hjw)
    rw [writeNext_of_closing_empty (by exact hsealed) (by rw [← hheld, hujw]) (by simp [hujw, hst]),
      finishClose, if_neg (by exact Nat.ne_of_gt hplaced)] at hwrites
    refine ⟨_, _, hrecord r h .ok, ?_, ?_, ?_, rfl, ?_, ?_, ?_, hrest _, ?_⟩ <;> rw [hwrites]
    · simp [requestHeaderWrite, JournalWriter.seal, hujw, hst]
    · simp [requestHeaderWrite, JournalWriter.seal, hujw, hheld]
    · simp [requestHeaderWrite, JournalWriter.seal, OpenSheet.seal, hsealed]
    · have hholds := request_holds (.sheetHeaderWrite
          { count := sh.allotted, reason := .closed, opened := s.jw.openedMark, loaded := s.jw.loadedMark,
            sequence := s.jw.nextSequence, lost := s.jw.lostCount, firstStamp := sh.firstStamp })
        (s.jw.base + BitVec.ofNat 64 (512 * sh.index)) u
      simpa [requestHeaderWrite, JournalWriter.header, JournalWriter.sheetAddress, JournalWriter.seal, hujw] using hholds
    · simp [requestHeaderWrite, JournalWriter.seal]
    · simp [requestHeaderWrite, huev]
    · simp [requestHeaderWrite, hucp]
  · have herror := recordEnd_error_closing (s := u) (by rw [hujw, hst])
    obtain ⟨hjw, _, hcp⟩ := closeError_leaves (busErrorRaised u)
    refine ⟨_, hrecord r h .error, ?_, ?_, ?_, ?_, ?_, hrest _, ?_⟩ <;> rw [herror]
    · simp [hjw]
    · simp [hjw]
    · simp [hjw, hujw]
    · exact closeError_keeps (busErrorRaised_pending u)
    · exact closeError_done (busErrorRaised u)
    · simp [hcp, hucp]

end Sys2Proof.Machine
end

/-! Every command answers (O2). -/
section
namespace Sys2Proof.Machine

/-! ## What an event leaves standing -/

/-- An event leaves the queue of commands and RESET# alone. -/
def Stands (f : State → State) : Prop := ∀ s, (f s).pending = s.pending ∧ (f s).resetAsserted = s.resetAsserted

theorem registerAccess_stands {f : State → State} (h : Stands f) : Stands (registerAccess f) := by
  intro s
  unfold registerAccess
  split
  · exact ⟨rfl, rfl⟩
  · exact h s

theorem cmdWrite_stands {f : State → State} (code : Byte) (op : Half) (h : Stands f) : Stands (cmdWrite code op f) := by
  intro s
  unfold cmdWrite
  split
  · exact ⟨rfl, rfl⟩
  · split
    · exact ⟨rfl, rfl⟩
    · exact h (portTaken code op s)

theorem endTransfer_stands {p : TransferKind → Bool} {act : Transfer → State → State} (h : ∀ t, Stands (act t)) :
    Stands (endTransfer p act) := by
  intro s
  obtain e | ⟨f, _, _, ⟨_, e⟩ | ⟨_, e⟩⟩ := endTransfer_cases p act s <;> rw [e]
  · exact ⟨rfl, rfl⟩
  · simp
  · simpa only [grantFirst_frame, freeBus_frame] using h f.transfer (grantFirst (freeBus s))

theorem ownerOf_stands (code : Byte) (op : Half) : Stands (ownerOf code op) := fun s => by simp

theorem softReset_stands : Stands softReset := fun _ => ⟨rfl, rfl⟩

theorem writeControl_stands (v : Word) : Stands (writeControl v) := by
  intro s
  unfold writeControl
  split
  · exact softReset_stands s
  · exact ⟨rfl, rfl⟩

theorem writeRegister_stands (off : Nat) (size : AccessSize) (v : Word) : Stands (writeRegister off size v) := by
  intro s
  unfold writeRegister
  split
  · exact ⟨rfl, rfl⟩
  · split
    · exact writeControl_stands v s
    · exact cmdWrite_stands _ _ (ownerOf_stands _ _) s
    · exact ⟨rfl, rfl⟩
    · exact ⟨rfl, rfl⟩
    · exact ⟨rfl, rfl⟩
    · exact ⟨rfl, rfl⟩
    · simp
    · exact ⟨rfl, rfl⟩

theorem takeTick_stands : Stands takeTick := by
  intro s
  unfold takeTick
  split
  · exact ⟨rfl, rfl⟩
  · simp

theorem commitContext_stands (c : Context) (p : Pins) : Stands (commitContext c p) := by
  intro s
  have houtputs (n : State) : (commitOutputs c n).pending = n.pending ∧
      (commitOutputs c n).resetAsserted = n.resetAsserted := by
    unfold commitOutputs
    split <;> simp [commitLines, commitGuards]
  obtain ⟨hpending, hreset⟩ := houtputs (commitQuiet c p s)
  exact ⟨hpending, hreset⟩

theorem stageLimits_stands (m : Limits) : Stands (stageLimits m) := by
  intro s
  unfold stageLimits
  split <;> simp

theorem takeDcb_stands (d : List Byte) (p : Pins) : Stands (takeDcb d p) := by
  intro s
  unfold takeDcb judgeShadow
  dsimp only
  split
  · simp
  · split
    · exact commitContext_stands _ p _
    · exact ⟨rfl, rfl⟩

theorem takeLimits_stands (d : List Byte) : Stands (takeLimits d) := by
  intro s
  unfold takeLimits
  split
  · exact stageLimits_stands _ s
  · exact ⟨rfl, rfl⟩

theorem cpEnd_stands : (∀ r p, Stands (dcbEnd r p)) ∧ (∀ r, Stands (limitsEnd r)) ∧ ∀ r t, Stands (tallyEnd r t) := by
  refine ⟨fun r p s => ?_, fun r s => ?_, fun r t s => ?_⟩
  · unfold dcbEnd
    split
    next d => simpa using takeDcb_stands d.toList p s
    next => simp
  · unfold limitsEnd
    split
    next d => simpa using takeLimits_stands d.toList s
    next => simp
  · unfold tallyEnd
    split <;> simp

theorem takeHeader_stands (a : Addr) (q : Word) (h : StripHeader) : Stands (takeHeader a q h) := by
  intro s
  unfold takeHeader
  dsimp only
  split <;> simp

theorem takeLink_stands : Stands takeLink := by
  intro s
  unfold takeLink
  repeat' split
  all_goals simp

theorem takeSteps_stands (two : Bool) (d : List Byte) : Stands (takeSteps two d) := by
  intro s
  unfold takeSteps
  split
  · dsimp only
    split
    · exact takeLink_stands _
    · exact ⟨rfl, rfl⟩
  · exact ⟨rfl, rfl⟩

theorem takeReread_stands (a : Addr) : Stands (takeReread a) := by
  intro s
  unfold takeReread
  repeat' split
  all_goals simp

theorem takeRetired_stands : Stands takeRetired := by
  intro s
  unfold takeRetired
  split
  · dsimp only
    split <;> exact ⟨rfl, rfl⟩
  · exact ⟨rfl, rfl⟩

theorem retireError_stands : Stands retireError := fun s => by simp [retireError]

theorem fuEnd_stands : (∀ r t, Stands (headerEnd r t)) ∧ (∀ r t, Stands (stepsEnd r t)) ∧
    (∀ r t, Stands (linkEnd r t)) ∧ ∀ r, Stands (retireEnd r) := by
  refine ⟨fun r t s => ?_, fun r t s => ?_, fun r t s => ?_, fun r s => ?_⟩
  · simp only [headerEnd, settle_frame]
    unfold headerTaken
    split
    · exact takeHeader_stands _ _ _ s
    all_goals simp
  · simp only [stepsEnd, settle_frame]
    unfold stepsTaken
    split
    · exact takeSteps_stands _ _ s
    all_goals simp
  · simp only [linkEnd, settle_frame]
    unfold linkTaken
    split
    · exact takeReread_stands _ s
    all_goals simp
  · simp only [retireEnd, settle_frame]
    unfold retireTaken
    split
    · exact takeRetired_stands s
    · exact retireError_stands s

theorem jwEnd_stands : (∀ r t, Stands (sheetReadEnd r t)) ∧ (∀ r, Stands (recordEnd r)) ∧
    ∀ r t, Stands (sheetWriteEnd r t) := ⟨fun r t s => by simp, fun r s => by simp, fun r t s => by simp⟩

theorem transferError_stands (t : Transfer) : Stands (transferError t) := by
  obtain ⟨hheader, hsteps, hlink, hretire⟩ := fuEnd_stands
  obtain ⟨hread, hrecord, hwrite⟩ := jwEnd_stands
  intro s
  unfold transferError
  split
  · exact hheader _ _ s
  · exact hsteps _ _ s
  · exact hlink _ _ s
  · exact hretire _ s
  · exact hread _ _ s
  · exact hrecord _ s
  · exact hwrite _ _ s
  all_goals simp

/-- No command moves the queue, and RESET# moves by its own two rows only. -/
theorem exec_stands {c : Instr} {s t : State} (h : exec c s = .next t) :
    t.pending = s.pending ∧ (c ≠ .hardwareReset → c ≠ .resetRelease → t.resetAsserted = s.resetAsserted) := by
  have of {f : State → State} (hf : Stands f) : (f s).pending = s.pending ∧
      (c ≠ .hardwareReset → c ≠ .resetRelease → (f s).resetAsserted = s.resetAsserted) :=
    ⟨(hf s).1, fun _ _ => (hf s).2⟩
  obtain ⟨hheader, hsteps, hlink, hretire⟩ := fuEnd_stands
  obtain ⟨hread, hrecord, hwrite⟩ := jwEnd_stands
  obtain ⟨hdcb, hlimits, htally⟩ := cpEnd_stands
  cases c <;> cases h
  case hardwareReset => exact ⟨rfl, fun hne => absurd rfl hne⟩
  case resetRelease => exact ⟨rfl, fun _ hne => absurd rfl hne⟩
  case softReset v => exact of (registerAccess_stands (writeControl_stands v))
  case irqEnable v => exact of (registerAccess_stands (writeControl_stands v))
  case eventMask v => exact of (registerAccess_stands fun _ => ⟨rfl, rfl⟩)
  case eventsClear v => exact of (registerAccess_stands fun _ => ⟨rfl, rfl⟩)
  case wake v => exact of (registerAccess_stands fun _ => by simp)
  case registerWrite off size v => exact of (registerAccess_stands (writeRegister_stands off size v))
  case loadContext op => exact of (cmdWrite_stands _ _ fun _ => by simp)
  case stageLimits op => exact of (cmdWrite_stands _ _ fun _ => by simp)
  case startProgram op => exact of (cmdWrite_stands _ _ fun _ => by simp)
  case stopProgramDrain op => exact of (cmdWrite_stands _ _ fun _ => by simp)
  case stopProgramAtOnce => exact of (cmdWrite_stands _ _ fun _ => by simp)
  case pause op => exact of (cmdWrite_stands _ _ fun _ => by simp)
  case resume op => exact of (cmdWrite_stands _ _ fun _ => by simp)
  case forceLines op => exact of (cmdWrite_stands _ _ fun _ => by simp)
  case clearTrip op => exact of (cmdWrite_stands _ _ fun _ => by simp)
  case journalOpen op => exact of (cmdWrite_stands _ _ fun _ => by simp)
  case journalFlush op => exact of (cmdWrite_stands _ _ fun _ => by simp)
  case journalClose op => exact of (cmdWrite_stands _ _ fun _ => by simp)
  case stamp op => exact of (cmdWrite_stands _ _ fun _ => by simp)
  case dumpTallies op => exact of (cmdWrite_stands _ _ fun _ => by simp)
  case unknownCommand code op => exact of (cmdWrite_stands _ _ (ownerOf_stands code op))
  case tick => exact of takeTick_stands
  case timeRange => exact of fun _ => by simp
  case application => exact of fun _ => by simp
  case deferredRiseExpiry n => exact of (f := takeDeferredRise n) fun _ => by simp
  case lastFallDiscard n => exact of (f := takeLastFallDiscard n) fun _ => by simp
  case blankEnd n => exact of (f := takeBlankEnd n) fun _ => by simp
  case holdEscalation n => exact of (f := takeEscalation n) fun _ => by simp
  case linkWatchInterval => exact of fun _ => by simp
  case sheetRecheckInterval => exact of fun _ => by simp
  case flushAge => exact of fun _ => by simp
  case waitTimeout => exact of fun _ => by simp
  case busResponseTimeout => exact of (endTransfer_stands transferError_stands)
  case candidateAssertion n => exact of (f := takeAssertion n) fun _ => by simp
  case deassertion n => exact of (f := takeDeassertion n) fun _ => by simp
  case recognizedEdge n e => exact of (f := takeEdge n e) fun _ => by simp
  case stepAdmission => exact of fun _ => by simp
  case stripHeaderReadComplete r => exact of (endTransfer_stands fun _ => hheader r _)
  case stepReadComplete r => exact of (endTransfer_stands fun _ => hsteps r _)
  case linkRereadComplete r => exact of (endTransfer_stands fun _ => hlink r _)
  case retireWriteComplete r => exact of (endTransfer_stands fun _ => hretire r)
  case sheetHeaderReadComplete r => exact of (endTransfer_stands fun _ => hread r _)
  case recordWriteComplete r => exact of (endTransfer_stands fun _ => hrecord r)
  case sheetHeaderWriteComplete r => exact of (endTransfer_stands fun _ => hwrite r _)
  case dcbReadComplete r p => exact of (endTransfer_stands fun _ => hdcb r p)
  case limitsReadComplete r => exact of (endTransfer_stands fun _ => hlimits r)
  case tallyWriteComplete r => exact of (endTransfer_stands fun _ => htally r _)

theorem exec_answers (c : Instr) (s : State) : ∃ t, exec c s = .next t := by cases c <;> exact ⟨_, rfl⟩

/-- Settles O2: each row's meaning is a next state, and each event it is made of leaves the queue alone. -/
theorem everyCommandAnswersNext : Obligations.EveryCommandAnswersNext := by
  intro c s
  obtain ⟨t, ht⟩ := exec_answers c s
  exact ⟨t, ht, exec_stands ht⟩

end Sys2Proof.Machine
end

/-! The end of an event: what the notices and the requests that end it (`settle`) do to the held records, the causes and
the counters, and what of the guard's state they cannot undo. -/
section
namespace Sys2Proof.Machine

/-! ## Requests (R188) -/

/-- No request moves the held records. -/
@[simp] theorem jwPump_fifo (s : State) : (jwPump s).jw.fifo = s.jw.fifo := by
  unfold jwPump
  repeat' split
  all_goals try rfl
  all_goals
    unfold writeNext finishClose
    repeat' split
    all_goals rfl

@[simp] theorem jwRun_fifo (s : State) : (jwRun s).jw.fifo = s.jw.fifo := jwPump_fifo s

@[simp] theorem pump_fifo (s : State) : (pump s).jw.fifo = s.jw.fifo := by simp [pump]

/-- A request of the JW ends a close at most: no counter moves, and what is pending stays so. -/
theorem jwPump_ev (s : State) : (jwPump s).ev = s.ev ∨ (jwPump s).ev = s.ev.raise .cmdDone := by
  unfold jwPump
  repeat' split
  all_goals try exact .inl rfl
  all_goals
    unfold writeNext finishClose
    repeat' split
    all_goals first | exact .inl rfl | exact .inr rfl

/-- A request of the FU counts a link re-read at most. -/
theorem fuPump_ev (s : State) : (fuPump s).ev = s.ev ∨ (fuPump s).ev = s.ev.count .linkRechecks 1 := by
  unfold fuPump requestRetire requestRead requestHeader requestSteps requestLink
  repeat' split
  all_goals first | exact .inl rfl | exact .inr rfl

theorem pump_tally (s : State) {i : Fin 16} (h : i ≠ 14) : (pump s).ev.tallies[i] = s.ev.tallies[i] := by
  have hjw : (jwPump s).ev.tallies = s.ev.tallies := by
    rcases jwPump_ev s with e | e
    · rw [e]
    · rw [e, EventUnit.raise_tallies]
  have hfu : (fuPump (jwPump s)).ev.tallies[i] = (jwPump s).ev.tallies[i] := by
    rcases fuPump_ev (jwPump s) with e | e <;> rw [e]
    exact (EventUnit.count_tally _ _ _ _).trans (if_neg h)
  rw [← hjw]
  exact hfu

/-- What is pending stays so. -/
theorem pump_pending {c : Cause} {s : State} (h : pendingCause c s = true) : pendingCause c (pump s) = true := by
  have hjw : pendingCause c (jwPump s) = true := by
    rw [pendingCause]
    rcases jwPump_ev s with e | e <;> rw [e]
    · exact h
    · rw [EventUnit.raise_getLsbD]
      exact Bool.or_eq_true _ _ |>.mpr (.inr h)
  have hfu : (fuPump (jwPump s)).ev.events = (jwPump s).ev.events := by
    rcases fuPump_ev (jwPump s) with e | e <;> rw [e]
    rfl
  rw [← hjw, pendingCause, pendingCause]
  exact congrArg (·.getLsbD c.bit) hfu

/-- The causes but CMD_DONE are those that the notices have raised. -/
theorem pump_pendingCause {c : Cause} (s : State) (h : c ≠ .cmdDone) :
    pendingCause c (pump s) = pendingCause c s := by
  have hjw : pendingCause c (jwPump s) = pendingCause c s := by
    rw [pendingCause]
    rcases jwPump_ev s with e | e <;> rw [e]
    · rfl
    · rw [EventUnit.raise_getLsbD, decide_eq_false (Ne.symm h)]
      rfl
  have hfu : (fuPump (jwPump s)).ev.events = (jwPump s).ev.events := by
    rcases fuPump_ev (jwPump s) with e | e <;> rw [e]
    rfl
  rw [← hjw, pendingCause, pendingCause]
  exact congrArg (·.getLsbD c.bit) hfu

/-- What the requests leave when no close of the JW waits to ask for its transfer. -/
theorem pump_kept {s : State} (h : CloseAsked s) :
    (pump s).cp = s.cp ∧ (pump s).jw.state = s.jw.state ∧ (pump s).jw.lostCount = s.jw.lostCount ∧
      (pump s).ev.events = s.ev.events := by
  have hkept := jwPump_kept_of_closeAsked h
  have hfu : (fuPump (jwPump s)).ev.events = (jwPump s).ev.events := by
    rcases fuPump_ev (jwPump s) with e | e <;> rw [e]
    rfl
  refine ⟨?_, ?_, ?_, ?_⟩
  · simp [pump, hkept.cp]
  · simp [pump, hkept.state]
  · simp [pump, hkept.lostCount]
  · rw [← hkept.ev]
    exact hfu

/-- What the offers of an event count is not moved by the requests. -/
theorem OffersCounted.pump {n : Nat} {s t : State} (h : OffersCounted n s t) (hclose : CloseAsked t) :
    OffersCounted n s (pump t) := by
  obtain ⟨hlost, hunjournaled, hcount, hcause⟩ := h
  obtain ⟨_, _, hlostCount, _⟩ := pump_kept hclose
  exact ⟨(pump_tally t (i := 10) (by decide)).trans hlost, (pump_tally t (i := 11) (by decide)).trans hunjournaled,
    hlostCount.trans hcount, (pump_pendingCause t (by decide)).trans hcause⟩

/-- STARVED is judged of the state before the requests. -/
theorem StarvedJudged.pump {s t : State} (h : StarvedJudged s t) : StarvedJudged s (pump t) := by
  unfold StarvedJudged at *
  simpa [pump_pendingCause t (c := .starved) (by decide)] using h

/-! ## Records, causes and counters -/

/-- What is said of records, causes and counters, and kept by every offer, every cause and the OS's own counts. -/
structure Reporting (P : State → Prop) : Prop where
  same : ∀ {s t : State}, P s → t.ev = s.ev → t.jw = s.jw → P t
  offer : ∀ r, Keeps P (offer r)
  raise : ∀ c, Keeps P (raise c)
  shoots : ∀ n, Keeps P (count .shootThroughs n)
  rises : ∀ n, Keeps P (count .risesDeferred n)

/-- The same, kept by the counts of an escalation too. -/
structure Escalating (P : State → Prop) : Prop extends Reporting P where
  escalations : Keeps P (count .holdEscalations 1)
  trips : Keeps P (count .trips 1)

section
variable {P : State → Prop}

theorem Reporting.osResolve (h : Reporting P) : Keeps P osResolve := fun s hs =>
  h.same (s := count .risesDeferred (s.os.newDeferrals s.tb.tl).length s) (h.rises _ s hs) rfl rfl

theorem Reporting.osEvent (h : Reporting P) (f : OutputStage → OutputStage) : Keeps P (osEvent f) := fun _ hs =>
  h.osResolve _ (h.same hs rfl rfl)

theorem Reporting.suppressShoot (h : Reporting P) : Keeps P suppressShoot := fun s hs =>
  foldl_inv P _ (fun _ _ ht => h.offer _ _ ht) _ _
    (h.same (s := count .shootThroughs s.os.shootPairs.length s) (h.shoots _ s hs) rfl rfl)

theorem Reporting.osEndLevels (h : Reporting P) : Keeps P osEndLevels := fun _ hs =>
  h.osResolve _ (h.suppressShoot _ (h.same hs rfl rfl))

theorem Reporting.enterStopping (h : Reporting P) (o : ProgramOutcome) (r : Reason) : Keeps P (enterStopping o r) := by
  intro s hs
  have hclosed : P (noticeClosed s) := h.same hs (by simp) (by simp)
  unfold Machine.enterStopping
  dsimp only
  split
  · exact h.osEndLevels _ (h.same hclosed rfl rfl)
  · exact h.same hclosed rfl rfl

theorem Reporting.suFault (h : Reporting P) (r : Reason) : Keeps P (suFault r) := by
  intro s hs
  unfold Machine.suFault
  split
  · exact h.enterStopping _ _ s hs
  · exact hs

theorem Reporting.takeTripAbort (h : Reporting P) : Keeps P takeTripAbort := by
  intro s hs
  unfold Machine.takeTripAbort
  split
  · exact h.enterStopping _ _ s hs
  · exact hs

theorem Reporting.deliverTrip (h : Reporting P) : Keeps P deliverTrip := by
  intro s hs
  unfold Machine.deliverTrip
  split
  · exact hs
  · dsimp only
    split
    · exact h.osEvent _ _ (h.takeTripAbort _ (h.same hs rfl rfl))
    · exact h.takeTripAbort _ (h.osEvent _ _ (h.same hs rfl rfl))

theorem Reporting.applyStaged (h : Reporting P) : Keeps P applyStaged := by
  intro s hs
  unfold Machine.applyStaged
  split
  · exact h.offer _ _ (h.same hs rfl rfl)
  · exact hs

theorem Reporting.complete (h : Reporting P) (r : Result) : Keeps P (complete r) := fun s hs =>
  h.same (s := Machine.raise .cmdDone s) (h.raise _ s hs) rfl rfl

theorem Reporting.completeStop (h : Reporting P) (incomplete : Bool) : Keeps P (completeStop incomplete) := by
  intro s hs
  unfold Machine.completeStop
  split
  · exact h.complete _ s hs
  · exact hs

theorem Reporting.reportStarved (h : Reporting P) : Keeps P reportStarved := by
  intro s hs
  unfold Machine.reportStarved
  split
  · exact h.raise _ _ (h.same hs rfl rfl)
  · exact hs

theorem Reporting.fuEvaluate (h : Reporting P) : Keeps P fuEvaluate := fun _ hs => h.same hs rfl rfl

theorem Escalating.escalate (h : Escalating P) (n : Fin 4) : Keeps P (escalate n) := fun _ hs =>
  h.trips _ (h.raise _ _ (h.raise _ _ (h.escalations _ (h.offer _ _ (h.same hs rfl rfl)))))

theorem Escalating.guNewLimits (h : Escalating P) (m : Limits) : Keeps P (guNewLimits m) := fun s hs =>
  foldl_inv P judgeHold (fun t n ht => by
    unfold judgeHold
    split
    · exact h.escalate n t ht
    · exact ht) _ _ (h.same hs rfl rfl)

theorem Escalating.deliverLimits (h : Escalating P) (m : Limits) : Keeps P (deliverLimits m) := by
  intro s hs
  have hdrawn : P (afterDraw s) := h.same hs rfl rfl
  unfold Machine.deliverLimits
  split
  · exact h.osEvent _ _ (h.guNewLimits m _ hdrawn)
  · exact h.guNewLimits m _ (h.osEvent _ _ hdrawn)

/-- The program's own part of its end: its records, PROGRAM_END and the command's completion (R95, R99). -/
def programEnded (incomplete : Bool) (s : State) : State :=
  let n := applyStaged { s with su := { s.su with program := .idle, retireIncomplete := incomplete } }
  completeStop incomplete (raise .programEnd (offer (endedRecord n incomplete) n))

theorem programEnd_eq (incomplete : Bool) (s : State) :
    programEnd incomplete s =
      if s.cp.staged.isSome then deliverLimits (programEnded incomplete s).cp.active (programEnded incomplete s)
      else programEnded incomplete s := rfl

theorem Reporting.programEnded (h : Reporting P) (incomplete : Bool) : Keeps P (programEnded incomplete) := fun _ hs =>
  h.completeStop _ _ (h.raise _ _ (h.offer _ _ (h.applyStaged _ (h.same hs rfl rfl))))

theorem Escalating.programEnd (h : Escalating P) (incomplete : Bool) : Keeps P (programEnd incomplete) := by
  intro s hs
  rw [programEnd_eq]
  split
  · exact h.deliverLimits _ _ (h.programEnded _ s hs)
  · exact h.programEnded _ s hs

theorem Reporting.programEnd (h : Reporting P) {s : State} (hstaged : s.cp.staged = none) (hs : P s)
    (incomplete : Bool) : P (programEnd incomplete s) := by
  rw [programEnd_eq, if_neg (by simp [hstaged])]
  exact h.programEnded _ s hs

theorem Escalating.takeRetirementDone (h : Escalating P) : Keeps P takeRetirementDone := by
  intro s hs
  unfold Machine.takeRetirementDone
  split
  · split
    · exact h.programEnd _ _ (h.same hs rfl rfl)
    · exact hs
  · exact hs

theorem Reporting.takeRetirementDone (h : Reporting P) {s : State} (hstaged : s.cp.staged = none) (hs : P s) :
    P (takeRetirementDone s) := by
  unfold Machine.takeRetirementDone
  split
  · split
    · exact h.programEnd (s := { s with fu := { s.fu with doneNotice := none } }) hstaged (h.same hs rfl rfl) _
    · exact hs
  · exact hs

theorem Escalating.takeNotices (h : Escalating P) : Keeps P takeNotices := fun _ hs =>
  h.reportStarved _ (h.deliverTrip _ (h.takeRetirementDone _ (h.fuEvaluate _ (h.deliverTrip _ hs))))

/-- With no block staged no hold escalates at the end of an event. -/
theorem Reporting.takeNotices (h : Reporting P) {s : State} (hstaged : s.cp.staged = none) (hs : P s) :
    P (takeNotices s) :=
  h.reportStarved _ (h.deliverTrip _ (h.takeRetirementDone (by simpa using hstaged)
    (h.fuEvaluate _ (h.deliverTrip _ hs))))

end

/-- The held records only grow. -/
theorem fifo_grows (l : List Record) : Escalating fun t => l <+: t.jw.fifo where
  same := fun h _ hjw => hjw ▸ h
  offer := fun r s hs => by
    dsimp only [Machine.offer, JournalWriter.offer]
    split
    · split
      · exact hs.trans (List.prefix_append _ _)
      · exact hs
    · exact hs
  raise := fun _ _ hs => hs
  shoots := fun _ _ hs => hs
  rises := fun _ _ hs => hs
  escalations := fun _ hs => hs
  trips := fun _ hs => hs

/-- What is pending stays so. -/
theorem cause_stays (c : Cause) : Escalating fun t => pendingCause c t = true where
  same := fun h hev _ => by rwa [pendingCause, hev]
  offer := fun r s hs => by
    dsimp only [pendingCause, Machine.offer, EventUnit.offer]
    split
    · split
      · exact hs
      · exact EventUnit.lose_keeps 1 hs
    · exact hs
  raise := fun d s hs => by
    have hraised := s.ev.raise_getLsbD d c
    rw [show s.ev.events.getLsbD c.bit = true from hs, Bool.or_true] at hraised
    exact hraised
  shoots := fun _ _ hs => hs
  rises := fun _ _ hs => hs
  escalations := fun _ hs => hs
  trips := fun _ hs => hs

theorem lose_tally (n : Nat) (e : EventUnit) {i : Fin 16} (h : i ≠ 10) : (e.lose n).tallies[i] = e.tallies[i] := by
  by_cases hn : n = 0
  · simp only [EventUnit.lose, hn, if_true]
  · simp only [EventUnit.lose, hn, if_false, EventUnit.raise_tallies]
    exact (e.count_tally .recordsLost n i).trans (if_neg h)

/-- A counter that no offer and no resolution counts in stands. -/
theorem tally_stands {i : Fin 16} (h : i ≠ 4 ∧ i ≠ 5 ∧ i ≠ 10 ∧ i ≠ 11) (v : Word) :
    Reporting fun t => t.ev.tallies[i] = v where
  same := fun h hev _ => by rw [hev, h]
  offer := fun r s hs => by
    dsimp only [Machine.offer, EventUnit.offer]
    split
    · split
      · exact hs
      · rw [lose_tally 1 _ h.2.2.1, hs]
    · exact (s.ev.count_tally .recordsUnjournaled 1 i).trans ((if_neg h.2.2.2).trans hs)
  raise := fun _ _ hs => hs
  shoots := fun n s hs => (s.ev.count_tally .shootThroughs n i).trans ((if_neg h.1).trans hs)
  rises := fun n s hs => (s.ev.count_tally .risesDeferred n i).trans ((if_neg h.2.1).trans hs)

/-- The records that an event has left are still held at its end. -/
theorem settle_fifo_grows (s : State) : s.jw.fifo <+: (settle s).jw.fifo := by
  rw [settle, pump_fifo]
  exact (fifo_grows _).takeNotices s (List.prefix_refl _)

/-- A cause that an event has raised is still pending at its end. -/
theorem settle_pending {c : Cause} {s : State} (h : pendingCause c s = true) : pendingCause c (settle s) = true :=
  pump_pending ((cause_stays c).takeNotices s h)

/-- With no block staged the end of an event counts only offers, suppressions, deferrals and link re-reads. -/
theorem settle_tally {i : Fin 16} (h : i ≠ 4 ∧ i ≠ 5 ∧ i ≠ 10 ∧ i ≠ 11) (hlink : i ≠ 14) {s : State}
    (hstaged : s.cp.staged = none) : (settle s).ev.tallies[i] = s.ev.tallies[i] :=
  (pump_tally _ hlink).trans ((tally_stands h _).takeNotices hstaged rfl)

end Sys2Proof.Machine
end

/-! What the end of an event cannot undo of the guard's state, and the pin events (R121, R124 to R131, R136). -/
section
namespace Sys2Proof.Machine

/-! ## What the notices leave of the guard -/

/-- The latch, its sources and its mask, the coverage of the lines, and the state and the level of every input stand, an
escalation stays made, and no guard hold is added. -/
structure Stays (s t : State) : Prop where
  latch : s.gu.latch = true → t.gu.latch = true
  sources : ∀ i, s.gu.sources.getLsbD i = true → t.gu.sources.getLsbD i = true
  mask : ∀ i, s.gu.mask.getLsbD i = true → t.gu.mask.getLsbD i = true
  covered : ∀ m : Fin 16, s.os.lines[m].covered = true → t.os.lines[m].covered = true
  input : ∀ n : Fin 4, t.gu.inputs[n].state = s.gu.inputs[n].state ∧ t.gu.inputs[n].asserted = s.gu.inputs[n].asserted
  escalated : ∀ n : Fin 4, s.gu.inputs[n].escalated = true → t.gu.inputs[n].escalated = true
  holds : ∀ i, s.tb.guardHolds.getLsbD i = false → t.tb.guardHolds.getLsbD i = false

theorem Stays.of_eq {s t : State} (hgu : t.gu = s.gu) (hos : t.os = s.os) (htb : t.tb = s.tb) : Stays s t where
  latch h := by rwa [hgu]
  sources i h := by rwa [hgu]
  mask i h := by rwa [hgu]
  covered m h := by rwa [hos]
  input n := by rw [hgu]; exact ⟨rfl, rfl⟩
  escalated n h := by rwa [hgu]
  holds i h := by rwa [htb]

theorem Stays.refl (s : State) : Stays s s := .of_eq rfl rfl rfl

theorem Stays.trans {s t u : State} (h : Stays s t) (k : Stays t u) : Stays s u where
  latch hs := k.latch (h.latch hs)
  sources i hs := k.sources i (h.sources i hs)
  mask i hs := k.mask i (h.mask i hs)
  covered m hs := k.covered m (h.covered m hs)
  input n := ⟨(k.input n).1.trans (h.input n).1, (k.input n).2.trans (h.input n).2⟩
  escalated n hs := k.escalated n (h.escalated n hs)
  holds i hs := k.holds i (h.holds i hs)

theorem Stays.after {s t u : State} (k : Stays t u) (h : Stays s t) : Stays s u := h.trans k

theorem GuardUnit.mapInputs_input (f : Fin 4 → FaultInput → FaultInput) (g : GuardUnit) (n : Fin 4) :
    (g.mapInputs f).inputs[n] = f n g.inputs[n] := by simp [GuardUnit.mapInputs]

/-- An edge notice moves the blank window alone (R123). -/
theorem FaultInput.blank_same (t : Time) (edges : List (Fin 16)) (i : FaultInput) :
    { i.blank t edges with blankUntil := i.blankUntil } = i := by
  unfold FaultInput.blank
  split <;> rfl

theorem blank_input (t : Time) (edges : List (Fin 16)) (g : GuardUnit) (n : Fin 4) :
    { (g.blank t edges).inputs[n] with blankUntil := g.inputs[n].blankUntil } = g.inputs[n] := by
  rw [GuardUnit.blank, GuardUnit.mapInputs_input]
  exact FaultInput.blank_same _ _ _

/-- The Guard Unit after edge notices. -/
theorem Stays.of_blank {s t : State} {tl : Time} {edges : List (Fin 16)} (hgu : t.gu = s.gu.blank tl edges)
    (hcovered : ∀ m : Fin 16, s.os.lines[m].covered = true → t.os.lines[m].covered = true) (htb : t.tb = s.tb) :
    Stays s t where
  latch h := by rwa [hgu]
  sources i h := by rwa [hgu]
  mask i h := by rwa [hgu]
  covered := hcovered
  input n := by
    rw [hgu]
    have hsame := blank_input tl edges s.gu n
    exact ⟨(congrArg FaultInput.state hsame :), (congrArg FaultInput.asserted hsame :)⟩
  escalated n h := by
    rw [hgu]
    exact (congrArg FaultInput.escalated (blank_input tl edges s.gu n) :).trans h
  holds i h := by rwa [htb]

theorem resolve_covered (t : Time) (o : OutputStage) (m : Fin 16) :
    (o.resolve t).lines[m].covered = o.lines[m].covered := by
  obtain ⟨_, _, _, _, _, hcovered, _⟩ := resolve_same t o m
  exact hcovered

theorem osResolve_stays (s : State) : Stays s (osResolve s) :=
  .of_blank rfl (fun m h => (resolve_covered _ _ m).trans h) rfl

/-- An OS event that uncovers no line. -/
theorem osEvent_stays {f : OutputStage → OutputStage} (s : State)
    (h : ∀ m : Fin 16, s.os.lines[m].covered = true → (f s.os).lines[m].covered = true) : Stays s (osEvent f s) :=
  .of_blank rfl (fun m hm => (resolve_covered _ _ m).trans (h m hm)) rfl

theorem suppress_covered (o : OutputStage) (m : Fin 16) : o.suppress.lines[m].covered = o.lines[m].covered := by
  simp only [OutputStage.suppress, mapLines_line]
  split <;> rfl

theorem suppressShoot_stays (s : State) : Stays s (suppressShoot s) where
  latch h := by simpa using h
  sources i h := by simpa using h
  mask i h := by simpa using h
  covered m h := by
    rw [suppressShoot_os]
    exact (suppress_covered _ m).trans h
  input n := by simp
  escalated n h := by simpa using h
  holds i h := by simpa using h

theorem ask_covered (v : Level) (l : Line) : (l.ask v).covered = l.covered := by
  unfold Line.ask
  split <;> rfl

theorem endLevels_covered (o : OutputStage) (m : Fin 16) : o.endLevels.lines[m].covered = o.lines[m].covered := by
  simp only [OutputStage.endLevels, mapLines_line]
  split
  · exact ask_covered _ _
  · rfl

theorem osEndLevels_stays (s : State) : Stays s (osEndLevels s) := by
  have hlevels : Stays s { s with os := s.os.endLevels } :=
    { Stays.refl s with covered := fun m h => (endLevels_covered _ m).trans h }
  exact (osResolve_stays _).after ((suppressShoot_stays _).after hlevels)

theorem enterStopping_stays (o : ProgramOutcome) (r : Reason) (s : State) : Stays s (enterStopping o r s) := by
  have hclosed : Stays s (noticeClosed s) := .of_eq (by simp) (by simp) (by simp)
  unfold enterStopping
  dsimp only
  split
  · exact (osEndLevels_stays _).after (hclosed.trans (.of_eq rfl rfl rfl))
  · exact hclosed.trans (.of_eq rfl rfl rfl)

theorem takeTripAbort_stays (s : State) : Stays s (takeTripAbort s) := by
  unfold takeTripAbort
  split
  · exact enterStopping_stays _ _ s
  · exact .refl s

theorem cover_line (mask : Half) (o : OutputStage) (m : Fin 16) :
    (o.cover mask).lines[m].covered = (mask.getLsbD m.val || o.lines[m].covered) := by
  simp only [OutputStage.cover, mapLines_line]
  split
  next h => rw [h, Bool.true_or]
  next h => rw [Bool.eq_false_iff.mpr h, Bool.false_or]

theorem coverLines_stays (mask : Half) (s : State) : Stays s (coverLines mask s) :=
  osEvent_stays s fun m h => by rw [cover_line, h, Bool.or_true]

/-- The lines of a coverage notice are covered once it is taken (R114). -/
theorem coverLines_covers (mask : Half) (s : State) {m : Fin 16} (h : mask.getLsbD m.val = true) :
    (coverLines mask s).os.lines[m].covered = true := by
  refine (resolve_covered _ _ m).trans ?_
  rw [cover_line, h, Bool.true_or]

theorem deliverTrip_stays (s : State) : Stays s (deliverTrip s) := by
  unfold deliverTrip
  split
  · exact .refl s
  next mask _ =>
    have htaken : Stays s (afterDraw { s with gu := { s.gu with tripNotice := none } }) :=
      { Stays.refl s with }
    dsimp only
    split
    · exact (coverLines_stays _ _).after ((takeTripAbort_stays _).after htaken)
    · exact (takeTripAbort_stays _).after ((coverLines_stays _ _).after htaken)

theorem deliverTrip_covers {s : State} {mask : Half} (hnotice : s.gu.tripNotice = some mask) {m : Fin 16}
    (h : mask.getLsbD m.val = true) : (deliverTrip s).os.lines[m].covered = true := by
  unfold deliverTrip
  rw [hnotice]
  dsimp only
  split
  · exact coverLines_covers _ _ h
  · exact (takeTripAbort_stays _).covered m (coverLines_covers _ _ h)

/-! ## New Limits (R112, R132, R179) -/

theorem newDeadTimes_covered (t : Time) (l : Limits) (o : OutputStage) (m : Fin 16) :
    (o.newDeadTimes t l).lines[m].covered = o.lines[m].covered := by
  simp only [OutputStage.newDeadTimes, mapLines_line, Line.recomputeDeferral]
  split <;> rfl

theorem osNewDeadTimes_stays (m : Limits) (s : State) : Stays s (osNewDeadTimes m s) :=
  osEvent_stays s fun n h => (newDeadTimes_covered _ _ _ n).trans h

theorem setInput_same (g : GuardUnit) (n : Fin 4) (i : FaultInput) : (g.setInput n i).inputs[n] = i := by
  simp [GuardUnit.setInput]

theorem setInput_other (g : GuardUnit) {n k : Fin 4} (i : FaultInput) (h : k ≠ n) :
    (g.setInput n i).inputs[k] = g.inputs[k] := by
  have hne : n.val ≠ k.val := fun e => h (Fin.ext e.symm)
  simp [GuardUnit.setInput, hne]

/-- An input replaced by one with the same state and level, not less escalated. -/
theorem setInput_stays {s : State} {n : Fin 4} {i : FaultInput} (hstate : i.state = s.gu.inputs[n].state)
    (hasserted : i.asserted = s.gu.inputs[n].asserted)
    (hescalated : s.gu.inputs[n].escalated = true → i.escalated = true) :
    Stays s { s with gu := s.gu.setInput n i } :=
  { Stays.refl s with
    input := fun k => by
      by_cases h : k = n
      · subst h
        dsimp only
        rw [setInput_same]
        exact ⟨hstate, hasserted⟩
      · dsimp only
        rw [setInput_other _ _ h]
        exact ⟨rfl, rfl⟩
    escalated := fun k hk => by
      by_cases h : k = n
      · subst h
        dsimp only
        rw [setInput_same]
        exact hescalated hk
      · dsimp only
        rw [setInput_other _ _ h]
        exact hk }

theorem removeGuardHold_stays (n : Fin 4) (s : State) : Stays s (removeGuardHold n s) :=
  { Stays.refl s with
    holds := fun i h => by simp [removeGuardHold, h] }

theorem takeTripAction_stays (n : Fin 4) (s : State) : Stays s (takeTripAction n s) :=
  { Stays.refl s with
    latch := fun _ => rfl
    sources := fun i h => by simp [takeTripAction, GuardUnit.takeTrip, h]
    mask := fun i h => by simp [takeTripAction, GuardUnit.takeTrip, h] }

theorem escalateTrip_stays (n : Fin 4) (s : State) : Stays s (escalateTrip n s) :=
  (takeTripAction_stays n _).after ((removeGuardHold_stays n _).after (setInput_stays rfl rfl fun _ => rfl))

theorem reportEscalation_stays (n : Fin 4) (s : State) : Stays s (reportEscalation n s) := .of_eq rfl rfl rfl

theorem escalate_stays (n : Fin 4) (s : State) : Stays s (escalate n s) :=
  (escalateTrip_stays n s).trans (reportEscalation_stays n _)

theorem guNewLimits_stays (m : Limits) (s : State) : Stays s (guNewLimits m s) := by
  have hlimits : Stays s { s with gu := s.gu.setLimits m } :=
    { Stays.refl s with
      input := fun n => by
        dsimp only [GuardUnit.setLimits]
        rw [GuardUnit.mapInputs_input]
        exact ⟨rfl, rfl⟩
      escalated := fun n h => by
        dsimp only [GuardUnit.setLimits]
        rw [GuardUnit.mapInputs_input]
        exact h }
  refine foldl_inv (Stays s) judgeHold (fun t n ht => ht.trans ?_) _ _ hlimits
  unfold judgeHold
  split
  · exact escalate_stays n t
  · exact .refl t

theorem deliverLimits_stays (m : Limits) (s : State) : Stays s (deliverLimits m s) := by
  have hdrawn : Stays s (afterDraw s) := .of_eq rfl rfl rfl
  unfold deliverLimits
  split
  · exact (osNewDeadTimes_stays _ _).after ((guNewLimits_stays _ _).after hdrawn)
  · exact (guNewLimits_stays _ _).after ((osNewDeadTimes_stays _ _).after hdrawn)

/-! ## The end of an event -/

theorem applyStaged_parts (s : State) : (applyStaged s).gu = s.gu ∧ (applyStaged s).os = s.os ∧ (applyStaged s).tb = s.tb := by
  unfold applyStaged
  split <;> exact ⟨rfl, rfl, rfl⟩

theorem completeStop_parts (b : Bool) (s : State) :
    (completeStop b s).gu = s.gu ∧ (completeStop b s).os = s.os ∧ (completeStop b s).tb = s.tb := by
  unfold completeStop
  split <;> exact ⟨rfl, rfl, rfl⟩

theorem programEnded_parts (b : Bool) (s : State) :
    (programEnded b s).gu = s.gu ∧ (programEnded b s).os = s.os ∧ (programEnded b s).tb = s.tb := by
  unfold programEnded
  dsimp only
  obtain ⟨hgu, hos, htb⟩ := applyStaged_parts { s with su := { s.su with program := .idle, retireIncomplete := b } }
  obtain ⟨kgu, kos, ktb⟩ := completeStop_parts b (raise .programEnd (offer (endedRecord
    (applyStaged { s with su := { s.su with program := .idle, retireIncomplete := b } }) b)
    (applyStaged { s with su := { s.su with program := .idle, retireIncomplete := b } })))
  exact ⟨kgu.trans hgu, kos.trans hos, ktb.trans htb⟩

theorem programEnd_stays (b : Bool) (s : State) : Stays s (programEnd b s) := by
  obtain ⟨hgu, hos, htb⟩ := programEnded_parts b s
  have hended : Stays s (programEnded b s) := .of_eq hgu hos htb
  rw [programEnd_eq]
  split
  · exact hended.trans (deliverLimits_stays _ _)
  · exact hended

theorem takeRetirementDone_stays (s : State) : Stays s (takeRetirementDone s) := by
  unfold takeRetirementDone
  split
  · split
    · exact (programEnd_stays _ _).after (.of_eq rfl rfl rfl)
    · exact .refl s
  · exact .refl s

theorem reportStarved_stays (s : State) : Stays s (reportStarved s) := .of_eq (by simp) (by simp) (by simp)

/-- What follows the first trip notice leaves the guard's state standing. -/
theorem deliveredTrip_stays (s : State) : Stays (deliverTrip s) (takeNotices s) := by
  have hjudged : Stays (deliverTrip s) (fuEvaluate (deliverTrip s)) := .of_eq rfl rfl rfl
  exact (reportStarved_stays _).after ((deliverTrip_stays _).after ((takeRetirementDone_stays _).after hjudged))

theorem pump_stays (s : State) : Stays s (pump s) := .of_eq (by simp) (by simp) (by simp)

theorem settle_stays (s : State) : Stays s (settle s) :=
  (pump_stays _).after ((deliveredTrip_stays s).after (deliverTrip_stays s))

/-- The lines of a trip that is out are covered at the end of the event (R128). -/
theorem settle_covers {s : State} {mask : Half} (hnotice : s.gu.tripNotice = some mask) {m : Fin 16}
    (h : mask.getLsbD m.val = true) : (settle s).os.lines[m].covered = true :=
  ((pump_stays _).after (deliveredTrip_stays s)).covered m (deliverTrip_covers hnotice h)

end Sys2Proof.Machine
end

/-! The pin events of the fault inputs and their tick events (R121, R124 to R131, R136). -/
section
namespace Sys2Proof.Machine

/-! ## One input and one record -/

theorem faultBit_getLsbD (n k : Fin 4) : (faultBit n).getLsbD k.val = decide (k = n) := by
  revert n k
  decide

theorem fieldAt_zero {w : Nat} (x : BitVec w) : fieldAt 0 x.toNat = x.setWidth 32 := by
  apply BitVec.eq_of_toNat_eq
  simp [fieldAt]

theorem fieldAt_sixteen {w : Nat} (x : BitVec w) : fieldAt 16 x.toNat = x.setWidth 32 <<< 16 := by
  apply BitVec.eq_of_toNat_eq
  simp [fieldAt, Nat.shiftLeft_eq]

/-- A GUARD record, field by field (R136). -/
theorem guardRecord_eq (s : State) (n : Fin 4) (flags : Byte) (a : GuardAction) :
    guardRecord s n flags a =
      { kind := .guard, source := BitVec.ofNat 8 n.val, flags := flags, stamp := s.tb.tl.setWidth 40,
        value1 := BitVec.ofNat 32 a.code, value2 := s.gu.mask.setWidth 32 ||| s.gu.sources.setWidth 32 <<< 16 } := by
  simp only [guardRecord, guardValue2, fieldAt_zero, fieldAt_sixteen]
  rfl

/-- An OS event moves of an input its blank window alone. -/
theorem osEvent_input (f : OutputStage → OutputStage) (s : State) (n : Fin 4) :
    let i := (osEvent f s).gu.inputs[n]
    i.state = s.gu.inputs[n].state ∧ i.asserted = s.gu.inputs[n].asserted ∧
      i.escalated = s.gu.inputs[n].escalated ∧ i.holdStart = s.gu.inputs[n].holdStart := by
  have hsame := blank_input s.tb.tl (drivenChanges (f s.os) ((f s.os).resolve s.tb.tl)) s.gu n
  exact ⟨(congrArg FaultInput.state hsame :), (congrArg FaultInput.asserted hsame :),
    (congrArg FaultInput.escalated hsame :), (congrArg FaultInput.holdStart hsame :)⟩

/-- An event that leaves the JW and the bus alone leaves it no request to make. -/
theorem jwRun_of_rested {s u : State} (h : Rested s) (hjw : u.jw = s.jw) (hbp : u.bp = s.bp) : jwRun u = u := by
  have hrests : JwRests u := h.jwRests.of_same (by rw [hjw]; exact id) (by rw [hbp])
  obtain ⟨_, _, hgrant⟩ := h
  rw [jwRun, jwPump_of_rests hrests, grant, hbp, hgrant, ← hbp]

/-! ## DEASSERTION (R121, R129) -/

theorem exec_deassertion (n : Fin 4) (s : State) : exec (.deassertion n) s = .next (takeDeassertion n s) := rfl

theorem takeDeassertion_of_not {n : Fin 4} {s : State}
    (h : s.gu.inputs[n].state = .off ∨ s.gu.inputs[n].asserted = false) : takeDeassertion n s = s :=
  if_neg (by
    unfold canDeassert
    rcases h with h | h <;> simp only [h] <;> simp)

theorem takeDeassertion_eq {n : Fin 4} {s : State} (hst : s.gu.inputs[n].state ≠ .off)
    (hasserted : s.gu.inputs[n].asserted = true) :
    takeDeassertion n s = jwRun (recognizeDeassertion n (levelDeasserted n s)) :=
  if_pos (by
    unfold canDeassert
    simp only [hasserted, Bool.and_true, bne_iff_ne]
    exact hst)

theorem clampOff_line (n : Fin 4) (opt : Bool) (o : OutputStage) (m : Fin 16) :
    ((o.clampOff n opt).lines[m].clampSet.getLsbD n.val = false) ∧
      (o.lines[m].clampSet.getLsbD n.val = true → opt = true → (o.clampOff n opt).lines[m].await = true) := by
  simp only [OutputStage.clampOff, mapLines_line]
  split
  next h =>
    refine ⟨?_, fun _ ho => ?_⟩
    · have hbit := faultBit_getLsbD n n
      simp only [BitVec.getLsbD_and, BitVec.getLsbD_not, hbit]
      simp
    · simp [ho]
  next h => exact ⟨Bool.eq_false_iff.mpr h, fun hset => absurd hset h⟩

/-- The state in which the notices of a release are sent: the input is QUIET and its RELEASE record offered. -/
theorem release_eq (n : Fin 4) (s : State) :
    release n s = notifyRelease n (offer
      { kind := .guard, source := BitVec.ofNat 8 n.val, flags := 0x02#8, stamp := s.tb.tl.setWidth 40,
        value1 := BitVec.ofNat 32 s.gu.inputs[n].action.code,
        value2 := s.gu.mask.setWidth 32 ||| s.gu.sources.setWidth 32 <<< 16 }
      { s with gu := s.gu.setInput n s.gu.inputs[n].release }) := by
  have haction : (s.gu.setInput n s.gu.inputs[n].release).inputs[n].action = s.gu.inputs[n].action := by
    rw [setInput_same]
    rfl
  rw [release, reportRelease, guardRecord_eq]
  simp only [releaseInput, haction]
  rfl

/-- What the notices of a release leave of the Guard Unit. -/
theorem notifyRelease_keeps (n : Fin 4) (s : State) :
    let i := (notifyRelease n s).gu.inputs[n]
    i.state = s.gu.inputs[n].state ∧ i.asserted = s.gu.inputs[n].asserted ∧ i.escalated = s.gu.inputs[n].escalated ∧
      i.holdStart = s.gu.inputs[n].holdStart ∧ (notifyRelease n s).gu.latch = s.gu.latch ∧
        (notifyRelease n s).gu.sources = s.gu.sources ∧ (notifyRelease n s).gu.mask = s.gu.mask := by
  have hclamp := osEvent_input (OutputStage.clampOff n (awaitOption s.gu.inputs[n])) s n
  obtain ⟨hstate, hasserted, hescalated, hstart⟩ := hclamp
  unfold notifyRelease
  split
  · exact ⟨rfl, rfl, rfl, rfl, rfl, rfl, rfl⟩
  · exact ⟨hstate, hasserted, hescalated, hstart, rfl, rfl, rfl⟩
  · exact ⟨hstate, hasserted, hescalated, hstart, rfl, rfl, rfl⟩
  · exact ⟨rfl, rfl, rfl, rfl, rfl, rfl, rfl⟩

/-- The clamp-off notice of a CLAMP or a HOLD, and no notice to the OS of another. -/
theorem notifyRelease_os {n : Fin 4} {s : State} :
    (s.gu.inputs[n].action = .clamp ∨ s.gu.inputs[n].action = .hold →
      (notifyRelease n s).os = (s.os.clampOff n (awaitOption s.gu.inputs[n])).resolve s.tb.tl) ∧
      (s.gu.inputs[n].action = .note ∨ s.gu.inputs[n].action = .trip →
        notifyRelease n s = s) ∧
        (s.gu.inputs[n].action = .hold → (notifyRelease n s).tb.guardHolds = s.tb.guardHolds &&& ~~~faultBit n) := by
  unfold notifyRelease
  refine ⟨fun h => ?_, fun h => ?_, fun h => ?_⟩
  · rcases h with h | h <;> rw [h] <;> rfl
  · rcases h with h | h <;> rw [h]
  · rw [h]
    rfl

/-- The release of an ACTIVE input, up to its notices: it is QUIET, and its RELEASE record offered (R129, R136). -/
def releaseReported (n : Fin 4) (s : State) : State :=
  offer
    { kind := .guard, source := BitVec.ofNat 8 n.val, flags := 0x02#8, stamp := s.tb.tl.setWidth 40,
      value1 := BitVec.ofNat 32 s.gu.inputs[n].action.code,
      value2 := s.gu.mask.setWidth 32 ||| s.gu.sources.setWidth 32 <<< 16 }
    { levelDeasserted n s with gu := (levelDeasserted n s).gu.setInput n s.gu.inputs[n].deassertLevel.release }

theorem releaseReported_input (n : Fin 4) (s : State) :
    (releaseReported n s).gu.inputs[n] = s.gu.inputs[n].deassertLevel.release := setInput_same _ _ _

theorem takeDeassertion_releases {n : Fin 4} {s : State} (hst : s.gu.inputs[n].state = .active)
    (hasserted : s.gu.inputs[n].asserted = true) :
    takeDeassertion n s = jwRun (notifyRelease n (releaseReported n s)) := by
  have hinput : (levelDeasserted n s).gu.inputs[n] = s.gu.inputs[n].deassertLevel := setInput_same _ _ _
  have hreleases : recognizeDeassertion n (levelDeasserted n s) = release n (levelDeasserted n s) :=
    if_pos (by rw [hinput]; exact hst)
  rw [takeDeassertion_eq (by rw [hst]; decide) hasserted, hreleases, release_eq, hinput]
  rfl

/-- Settles O40: the input goes QUIET with its record, and its action says what its notices undo. -/
theorem deassertionReleases : Obligations.DeassertionReleases := by
  intro n s i
  rw [exec_deassertion]
  refine ⟨fun h => next_congr (takeDeassertion_of_not h), fun hst hasserted hrested => ?_, fun hst hasserted => ?_⟩
  · have hnot : recognizeDeassertion n (levelDeasserted n s) = levelDeasserted n s := if_neg fun h => by
      rw [show (levelDeasserted n s).gu.inputs[n] = s.gu.inputs[n].deassertLevel from setInput_same _ _ _] at h
      exact absurd (hst.symm.trans h) (by decide)
    rw [takeDeassertion_eq (fun h => absurd (hst.symm.trans h) (by decide)) hasserted, hnot,
      jwRun_of_rested (u := levelDeasserted n s) hrested rfl rfl]
    exact ⟨_, rfl, rfl, rfl, rfl, rfl, rfl, rfl, rfl, rfl, rfl⟩
  · obtain ⟨kstate, kasserted, kescalated, kstart, klatch, ksources, kmask⟩ :=
      notifyRelease_keeps n (releaseReported n s)
    obtain ⟨hclamps, hstands, hholds⟩ := notifyRelease_os (n := n) (s := releaseReported n s)
    have haction : (releaseReported n s).gu.inputs[n].action = i.action := by rw [releaseReported_input]; rfl
    rw [releaseReported_input] at kstate kasserted kescalated kstart
    rw [haction] at hclamps hstands hholds
    rw [takeDeassertion_releases hst hasserted]
    have hgu : (jwRun (notifyRelease n (releaseReported n s))).gu = (notifyRelease n (releaseReported n s)).gu := by simp
    have hos : (jwRun (notifyRelease n (releaseReported n s))).os = (notifyRelease n (releaseReported n s)).os := by simp
    have htb : (jwRun (notifyRelease n (releaseReported n s))).tb = (notifyRelease n (releaseReported n s)).tb := by simp
    refine ⟨_, rfl, ?_, ?_, ?_, ?_, ?_, ?_, fun h m => ?_, fun h => ⟨?_, ?_⟩, fun h => ⟨?_, ?_⟩, ?_, ?_, ?_, ?_, ?_⟩
    · rw [hgu]
      exact kstate
    · rw [hgu]
      exact kasserted
    · rw [hgu]
      exact kescalated
    · rw [hgu]
      exact klatch
    · rw [hgu]
      exact ksources
    · rw [hgu]
      exact kmask
    · obtain ⟨_, _, _, hset, hawait, _⟩ :=
        resolve_same s.tb.tl (s.os.clampOff n (awaitOption s.gu.inputs[n].deassertLevel.release)) m
      obtain ⟨hoff, hawaits⟩ := clampOff_line n (awaitOption s.gu.inputs[n].deassertLevel.release) s.os m
      rw [hos, hclamps h, releaseReported_input]
      exact ⟨(congrArg (fun c : FaultSet => c.getLsbD n.val) hset).trans hoff,
        fun hclamped hpolicy => hawait.trans (hawaits hclamped (beq_iff_eq.mpr hpolicy))⟩
    · rw [htb]
      exact hholds h
    · rw [hgu, kstart]
      exact if_pos h
    · rw [hos, hstands h]
      rfl
    · rw [htb, hstands h]
      rfl
    · simp [releaseReported, levelDeasserted]
    · simp [releaseReported, levelDeasserted]
    · simp [releaseReported, levelDeasserted]
    · simp [releaseReported, levelDeasserted]
    · simp [releaseReported, levelDeasserted, i]

end Sys2Proof.Machine
end

/-! HOLD_ESCALATION (R131) and the activations of the fault inputs (R124 to R128, R136). -/
section
namespace Sys2Proof.Machine

theorem offer_tally (r : Record) (s : State) {i : Fin 16} (h : i ≠ 4 ∧ i ≠ 5 ∧ i ≠ 10 ∧ i ≠ 11) :
    (offer r s).ev.tallies[i] = s.ev.tallies[i] := (tally_stands h _).offer r s rfl

/-! ## HOLD_ESCALATION (R131) -/

theorem exec_holdEscalation (n : Fin 4) (s : State) : exec (.holdEscalation n) s = .next (takeEscalation n s) := rfl

theorem watched_iff (i : FaultInput) :
    i.watched = true ↔ i.state = .active ∧ i.action = .hold ∧ i.escalated = false ∧ i.holdLimit ≠ 0#32 := by
  simp [FaultInput.watched, and_assoc]

theorem holdExpires_iff {n : Fin 4} {s : State} {h : Time} (hstart : s.gu.inputs[n].holdStart = some h) :
    holdExpires n s = true ↔
      s.gu.inputs[n].watched = true ∧ h + s.gu.inputs[n].holdLimit.setWidth 48 = s.tb.tl := by
  unfold holdExpires
  rw [Bool.and_eq_true, hstart, expiresAt_some, BitVec.ofNat_toNat]

theorem takeEscalation_of_not {n : Fin 4} {s : State} (h : ¬holdExpires n s = true) : takeEscalation n s = s := if_neg h

/-- An escalation, part by part (R131). -/
theorem escalate_eq (n : Fin 4) (s : State) :
    escalate n s = count .trips 1 (raise .trip (raise .guard (count .holdEscalations 1 (offer
      { kind := .guard, source := BitVec.ofNat 8 n.val, flags := 0x0C#8, stamp := s.tb.tl.setWidth 40, value1 := 2#32,
        value2 := (s.gu.mask ||| s.gu.inputs[n].clampMask).setWidth 32 |||
          (s.gu.sources ||| faultBit n).setWidth 32 <<< 16 }
      (escalateTrip n s))))) := by
  have hinput : (s.gu.setInput n { s.gu.inputs[n] with escalated := true }).inputs[n] =
      { s.gu.inputs[n] with escalated := true } := setInput_same _ _ _
  have hmask : (escalateTrip n s).gu.mask = s.gu.mask ||| s.gu.inputs[n].clampMask :=
    (congrArg (fun i : FaultInput => s.gu.mask ||| i.clampMask) hinput :)
  rw [escalate, reportEscalation, guardRecord_eq, hmask]
  rfl

theorem escalate_jw (n : Fin 4) (s : State) :
    (escalate n s).jw = s.jw.offer
      { kind := .guard, source := BitVec.ofNat 8 n.val, flags := 0x0C#8, stamp := s.tb.tl.setWidth 40, value1 := 2#32,
        value2 := (s.gu.mask ||| s.gu.inputs[n].clampMask).setWidth 32 |||
          (s.gu.sources ||| faultBit n).setWidth 32 <<< 16 } := by
  rw [escalate_eq]
  rfl

theorem escalate_gu (n : Fin 4) (s : State) :
    (escalate n s).gu.latch = true ∧ (escalate n s).gu.sources = s.gu.sources ||| faultBit n ∧
      (escalate n s).gu.mask = s.gu.mask ||| s.gu.inputs[n].clampMask ∧
        (escalate n s).gu.tripNotice = some (s.gu.tripNotice.getD 0#16 ||| s.gu.inputs[n].clampMask) ∧
          (escalate n s).gu.inputs[n] = { s.gu.inputs[n] with escalated := true } := by
  have hinput : (s.gu.setInput n { s.gu.inputs[n] with escalated := true }).inputs[n] =
      { s.gu.inputs[n] with escalated := true } := setInput_same _ _ _
  refine ⟨rfl, rfl, ?_, ?_, hinput⟩
  · exact (congrArg (fun i : FaultInput => s.gu.mask ||| i.clampMask) hinput :)
  · exact (congrArg (fun i : FaultInput => some (s.gu.tripNotice.getD 0#16 ||| i.clampMask)) hinput :)

/-- The counters of an escalation. -/
theorem escalate_tallies (n : Fin 4) (s : State) :
    (escalate n s).ev.tallies[8] = satAdd s.ev.tallies[8] 1 ∧ (escalate n s).ev.tallies[7] = satAdd s.ev.tallies[7] 1 ∧
      (escalate n s).ev.tallies[6] = s.ev.tallies[6] := by
  rw [escalate_eq]
  obtain ⟨r, hr⟩ : ∃ r, r = offer
      { kind := .guard, source := BitVec.ofNat 8 n.val, flags := 0x0C#8, stamp := s.tb.tl.setWidth 40, value1 := 2#32,
        value2 := (s.gu.mask ||| s.gu.inputs[n].clampMask).setWidth 32 |||
          (s.gu.sources ||| faultBit n).setWidth 32 <<< 16 } (escalateTrip n s) := ⟨_, rfl⟩
  have h8 : r.ev.tallies[8] = s.ev.tallies[8] := by rw [hr]; exact offer_tally (i := 8) _ _ (by decide)
  have h7 : r.ev.tallies[7] = s.ev.tallies[7] := by rw [hr]; exact offer_tally (i := 7) _ _ (by decide)
  have h6 : r.ev.tallies[6] = s.ev.tallies[6] := by rw [hr]; exact offer_tally (i := 6) _ _ (by decide)
  rw [← hr, ← h8, ← h7, ← h6]
  simp [count, raise, EventUnit.count, EventUnit.raise, Tally.index]

/-- The causes of an escalation. -/
theorem escalate_pending (n : Fin 4) (s : State) :
    pendingCause .guard (escalate n s) = true ∧ pendingCause .trip (escalate n s) = true := by
  rw [escalate_eq]
  exact ⟨(cause_stays .guard).raise .trip _ (raise_pending .guard _), raise_pending .trip _⟩

/-- Settles O35: the end of the event cannot undo what the escalation has set. -/
theorem holdEscalates : Obligations.HoldEscalates := by
  intro n s
  simp only [exec_holdEscalation]
  refine ⟨fun h hst haction hfresh hlimit hstart hdue => ?_, fun hnot => next_congr (takeEscalation_of_not ?_),
    fun h hstart hdue => next_congr (takeEscalation_of_not fun hexp => hdue ((holdExpires_iff hstart).mp hexp).2)⟩
  · have hexp : holdExpires n s = true :=
      (holdExpires_iff hstart).mpr ⟨(watched_iff _).mpr ⟨hst, haction, hfresh, hlimit⟩, hdue⟩
    have htaken : takeEscalation n s = settle (escalate n s) := if_pos hexp
    obtain ⟨hlatch, hsources, hmask, hnotice, hinput⟩ := escalate_gu n s
    obtain ⟨h8, h7, h6⟩ := escalate_tallies n s
    obtain ⟨hguard, htrip⟩ := escalate_pending n s
    have hstays := settle_stays (escalate n s)
    have hgated := settle_gated (TripGate.of_notice (escalate_notice n s))
    have hbit := faultBit_getLsbD n n
    rw [htaken]
    refine ⟨_, rfl, hstays.latch hlatch, hstays.sources _ ?_, fun m hm => ⟨hstays.mask _ ?_, settle_covers hnotice ?_⟩,
      hstays.escalated n ?_, ((hstays.input n).1).trans ?_, hgated.2 (hstays.latch hlatch), settle_pending hguard,
      settle_pending htrip, by simp, by simp, by simp, by simp, hstays.holds _ ?_, ?_, fun hstaged => ⟨?_, ?_, ?_⟩⟩
    · simp [hsources, hbit]
    · rw [hmask, BitVec.getLsbD_or, hm, Bool.or_true]
    · rw [BitVec.getLsbD_or, hm, Bool.or_true]
    · rw [hinput]
    · rw [hinput]
      exact hst
    · rw [escalate_eq]
      simp [count, raise, offer, escalateTrip, takeTripAction, removeGuardHold, hbit]
    · rw [← escalate_jw]
      exact settle_fifo_grows _
    · exact (settle_tally (i := 8) (by decide) (by decide) (by simpa using hstaged)).trans h8
    · exact (settle_tally (i := 7) (by decide) (by decide) (by simpa using hstaged)).trans h7
    · exact (settle_tally (i := 6) (by decide) (by decide) (by simpa using hstaged)).trans h6
  · intro hexp
    have hwatched : s.gu.inputs[n].watched = true := (Bool.and_eq_true _ _ ▸ hexp).1
    obtain ⟨hst, haction, hfresh, hlimit⟩ := (watched_iff _).mp hwatched
    rcases hnot with hnot | hnot | hnot | hnot | hnot
    · exact hnot hst
    · exact hnot haction
    · exact absurd (hfresh.symm.trans hnot) (by decide)
    · exact hlimit hnot
    · rw [holdExpires, hnot] at hexp
      simp [expiresAt] at hexp

end Sys2Proof.Machine
end

/-! The activations of the fault inputs (R121, R124 to R128, R136). -/
section
namespace Sys2Proof.Machine

/-! ## An activation, part by part (R125 to R128) -/

/-- The input is sampled anew: it is asserted, and what the activation reads of it is as it was. -/
structure Sampled (n : Fin 4) (s v : State) : Prop where
  asserted : v.gu.inputs[n].asserted = true
  action : v.gu.inputs[n].action = s.gu.inputs[n].action
  clampMask : v.gu.inputs[n].clampMask = s.gu.inputs[n].clampMask
  latch : v.gu.latch = s.gu.latch
  sources : v.gu.sources = s.gu.sources
  mask : v.gu.mask = s.gu.mask
  tripNotice : v.gu.tripNotice = s.gu.tripNotice
  os : v.os = s.os
  tb : v.tb = s.tb
  su : v.su = s.su
  fu : v.fu = s.fu
  jw : v.jw = s.jw
  ev : v.ev = s.ev
  cp : v.cp = s.cp
  cx : v.cx = s.cx

/-- An activation up to its notices to the OS and the TB: the input is ACTIVE, its action has taken the latch, its record
is offered and counted. -/
def activationReported (n : Fin 4) (s : State) : State := reportActivation n (tripIfTrip n (activateInput n s))

theorem activate_eq (n : Fin 4) (s : State) : activate n s = notifyActivation n (activationReported n s) := rfl

theorem activateInput_input (n : Fin 4) (s : State) :
    (activateInput n s).gu.inputs[n] = s.gu.inputs[n].activate s.tb.tl := setInput_same _ _ _

/-- The Guard Unit of an activation that is not a trip, and of one that is. -/
theorem activationReported_gu (n : Fin 4) (s : State) :
    (s.gu.inputs[n].action ≠ .trip → (activationReported n s).gu = (activateInput n s).gu) ∧
      (s.gu.inputs[n].action = .trip → (activationReported n s).gu = (activateInput n s).gu.takeTrip n) := by
  have haction : (activateInput n s).gu.inputs[n].action = s.gu.inputs[n].action := by rw [activateInput_input]; rfl
  have hreported (u : State) : (reportActivation n u).gu = u.gu := by simp
  unfold activationReported tripIfTrip
  rw [haction, hreported]
  exact ⟨fun h => by rw [if_neg h], fun h => by rw [if_pos h]; rfl⟩

/-- The input of an activation, whatever its action. -/
theorem activationReported_input (n : Fin 4) (s : State) :
    (activationReported n s).gu.inputs[n] = s.gu.inputs[n].activate s.tb.tl := by
  obtain ⟨hother, htrip⟩ := activationReported_gu n s
  by_cases h : s.gu.inputs[n].action = .trip
  · rw [htrip h]
    exact activateInput_input n s
  · rw [hother h]
    exact activateInput_input n s

/-- The counters and the causes that come with the record of an activation (R125, R128). -/
theorem reportActivation_eq (n : Fin 4) (s : State) :
    reportActivation n s =
      if s.gu.inputs[n].action = .trip then
        count .trips 1 (count .guardActivations 1 (raise .trip (raise .guard
          (offer (guardRecord s n 0x09#8 .trip) s))))
      else
        count .guardActivations 1 (raise .guard (offer (guardRecord s n 0x01#8 s.gu.inputs[n].action) s)) := by
  unfold reportActivation
  split
  next h => rw [if_pos h]; rfl
  next h => rw [if_neg h]; rfl

theorem count_trips_activation (s : State) :
    (count .trips 1 (count .guardActivations 1 (raise .trip (raise .guard s)))).ev.tallies[6] =
        satAdd s.ev.tallies[6] 1 ∧
      (count .trips 1 (count .guardActivations 1 (raise .trip (raise .guard s)))).ev.tallies[7] =
        satAdd s.ev.tallies[7] 1 := by
  simp [count, raise, EventUnit.count, EventUnit.raise, Tally.index]

theorem count_activation (s : State) :
    (count .guardActivations 1 (raise .guard s)).ev.tallies[6] = satAdd s.ev.tallies[6] 1 ∧
      (count .guardActivations 1 (raise .guard s)).ev.tallies[7] = s.ev.tallies[7] := by
  simp [count, raise, EventUnit.count, EventUnit.raise, Tally.index]

/-- The record of an activation that is no trip, its cause and its count. -/
theorem activationReported_of_not_trip {n : Fin 4} {s : State} (h : s.gu.inputs[n].action ≠ .trip) :
    activationReported n s = count .guardActivations 1 (raise .guard (offer
      { kind := .guard, source := BitVec.ofNat 8 n.val, flags := 0x01#8, stamp := s.tb.tl.setWidth 40,
        value1 := BitVec.ofNat 32 s.gu.inputs[n].action.code,
        value2 := s.gu.mask.setWidth 32 ||| s.gu.sources.setWidth 32 <<< 16 } (activateInput n s))) := by
  have haction : (activateInput n s).gu.inputs[n].action = s.gu.inputs[n].action := by rw [activateInput_input]; rfl
  rw [activationReported, tripIfTrip, if_neg (by rw [haction]; exact h), reportActivation_eq,
    if_neg (by rw [haction]; exact h), guardRecord_eq, haction]
  rfl

/-- The record of a TRIP action, its causes and its counts. -/
theorem activationReported_of_trip {n : Fin 4} {s : State} (h : s.gu.inputs[n].action = .trip) :
    activationReported n s = count .trips 1 (count .guardActivations 1 (raise .trip (raise .guard (offer
      { kind := .guard, source := BitVec.ofNat 8 n.val, flags := 0x09#8, stamp := s.tb.tl.setWidth 40,
        value1 := BitVec.ofNat 32 GuardAction.trip.code,
        value2 := (s.gu.mask ||| s.gu.inputs[n].clampMask).setWidth 32 |||
          (s.gu.sources ||| faultBit n).setWidth 32 <<< 16 } (takeTripAction n (activateInput n s)))))) := by
  have hinput := activateInput_input n s
  have haction : (activateInput n s).gu.inputs[n].action = .trip := by rw [hinput]; exact h
  have hmask : (takeTripAction n (activateInput n s)).gu.mask = s.gu.mask ||| s.gu.inputs[n].clampMask :=
    (congrArg (fun i : FaultInput => s.gu.mask ||| i.clampMask) hinput :)
  have htaken : (takeTripAction n (activateInput n s)).gu.inputs[n].action = .trip := haction
  rw [activationReported, tripIfTrip, if_pos haction, reportActivation_eq, if_pos htaken, guardRecord_eq, hmask]
  rfl

/-- The record, the causes and the counters of an activation. -/
theorem activationReported_reports (n : Fin 4) (s : State) :
    let i := s.gu.inputs[n]
    let trips : Bool := i.action == .trip
    let mask : Half := if trips then s.gu.mask ||| i.clampMask else s.gu.mask
    let sources : FaultSet := if trips then s.gu.sources ||| faultBit n else s.gu.sources
    let t := activationReported n s
    t.jw = s.jw.offer
        { kind := .guard, source := BitVec.ofNat 8 n.val, flags := if trips then 0x09#8 else 0x01#8,
          stamp := s.tb.tl.setWidth 40, value1 := BitVec.ofNat 32 i.action.code,
          value2 := mask.setWidth 32 ||| sources.setWidth 32 <<< 16 } ∧
      pendingCause .guard t = true ∧ (i.action = .trip → pendingCause .trip t = true) ∧
        t.ev.tallies[6] = satAdd s.ev.tallies[6] 1 ∧
          t.ev.tallies[7] = satAdd s.ev.tallies[7] (if i.action = .trip then 1 else 0) := by
  have h6 (r : Record) (u : State) : (offer r u).ev.tallies[6] = u.ev.tallies[6] := offer_tally (i := 6) r u (by decide)
  have h7 (r : Record) (u : State) : (offer r u).ev.tallies[7] = u.ev.tallies[7] := offer_tally (i := 7) r u (by decide)
  dsimp only
  by_cases h : s.gu.inputs[n].action = .trip
  · rw [activationReported_of_trip h, h]
    refine ⟨rfl, (cause_stays .guard).raise .trip _ (raise_pending .guard _), fun _ => raise_pending .trip _, ?_, ?_⟩
    · exact (count_trips_activation _).1.trans (congrArg (satAdd · 1) (h6 _ _))
    · exact (count_trips_activation _).2.trans (congrArg (satAdd · 1) (h7 _ _))
  · have hb : (s.gu.inputs[n].action == GuardAction.trip) = false := beq_eq_false_iff_ne.mpr h
    rw [activationReported_of_not_trip h, hb, if_neg h]
    refine ⟨rfl, raise_pending .guard _, fun htrip => absurd htrip h, ?_, ?_⟩
    · exact (count_activation _).1.trans (congrArg (satAdd · 1) (h6 _ _))
    · exact ((count_activation _).2.trans (h7 _ _)).trans (satAdd_zero _).symm

@[simp] theorem activationReported_frame (n : Fin 4) (s : State) :
    (activationReported n s).os = s.os ∧ (activationReported n s).tb = s.tb ∧ (activationReported n s).su = s.su ∧
      (activationReported n s).fu = s.fu ∧ (activationReported n s).cx = s.cx ∧ (activationReported n s).cp = s.cp ∧
        (activationReported n s).bp = s.bp := by
  simp [activationReported, activateInput]

/-! ## The notices of an activation (R126, R127) -/

/-- A line that is forced to safe takes its safe level in the resolution (R108). -/
theorem resolve_driven_of_forced (t : Time) (o : OutputStage) {m : Fin 16} (hrole : o.lines[m].role = .sequenced)
    (hforced : o.lines[m].forced = true) : (o.resolve t).lines[m].driven = o.lines[m].safe := by
  have htarget : o.lines[m].target = o.lines[m].safe := by rw [Line.target, hrole, hforced]; rfl
  have hfall : (o.lines[m].settleFall t).driven = o.lines[m].safe := by
    unfold Line.settleFall
    rw [htarget, hforced]
    split
    next h => exact h.symm
    next => rfl
  have hsame : (o.lines[m].settleFall t).target = o.lines[m].safe := (settleFall_same t _).target.trans htarget
  simp only [OutputStage.resolve, OutputStage.judgeRises, OutputStage.settleFalls, mapLines_line]
  unfold Line.judgeRise
  rw [if_neg (fun h => h.2.1 (by rw [hfall, ← hsame]; exact h.1))]
  exact hfall

/-- The clamp of a SEQUENCED line of the mask. -/
theorem clampOn_line {n : Fin 4} {mask : Half} {o : OutputStage} {m : Fin 16} (hmask : mask.getLsbD m.val = true)
    (hrole : o.lines[m].role = .sequenced) :
    (o.clampOn n mask).lines[m].clampSet.getLsbD n.val = true ∧ (o.clampOn n mask).lines[m].forced = true ∧
      (o.clampOn n mask).lines[m].role = .sequenced ∧ (o.clampOn n mask).lines[m].safe = o.lines[m].safe := by
  have hline : (o.clampOn n mask).lines[m] = { o.lines[m] with clampSet := o.lines[m].clampSet ||| faultBit n } := by
    simp only [OutputStage.clampOn, mapLines_line]
    exact if_pos ⟨hmask, hrole⟩
  have hset : (o.lines[m].clampSet ||| faultBit n).getLsbD n.val = true := by
    rw [BitVec.getLsbD_or, faultBit_getLsbD]
    simp
  rw [hline]
  refine ⟨hset, ?_, hrole, rfl⟩
  have hne : (o.lines[m].clampSet ||| faultBit n) ≠ 0#4 := fun h => by rw [h] at hset; simp at hset
  simp only [Line.forced, bne_iff_ne.mpr hne, Bool.true_or]

theorem clampOn_resolved {n : Fin 4} {mask : Half} {o : OutputStage} {m : Fin 16} (hmask : mask.getLsbD m.val = true)
    (hrole : o.lines[m].role = .sequenced) (t : Time) :
    ((o.clampOn n mask).resolve t).lines[m].clampSet.getLsbD n.val = true ∧
      ((o.clampOn n mask).resolve t).lines[m].driven = o.lines[m].safe := by
  obtain ⟨hset, hforced, hsequenced, hsafe⟩ := clampOn_line (n := n) hmask hrole
  obtain ⟨_, _, _, hkept, _⟩ := resolve_same t (o.clampOn n mask) m
  exact ⟨(congrArg (fun c : FaultSet => c.getLsbD n.val) hkept).trans hset,
    (resolve_driven_of_forced t _ hsequenced hforced).trans hsafe⟩

/-- What the notices of an activation leave of the Guard Unit, the SU and the FU. -/
theorem notifyActivation_keeps (n : Fin 4) (s : State) :
    let u := notifyActivation n s
    u.gu.inputs[n].state = s.gu.inputs[n].state ∧ u.gu.inputs[n].asserted = s.gu.inputs[n].asserted ∧
      u.gu.inputs[n].holdStart = s.gu.inputs[n].holdStart ∧ u.gu.latch = s.gu.latch ∧ u.gu.sources = s.gu.sources ∧
        u.gu.mask = s.gu.mask ∧ u.gu.tripNotice = s.gu.tripNotice := by
  obtain ⟨hstate, hasserted, _, hstart⟩ := osEvent_input (OutputStage.clampOn n s.gu.inputs[n].clampMask) s n
  unfold notifyActivation
  split
  · exact ⟨rfl, rfl, rfl, rfl, rfl, rfl, rfl⟩
  · exact ⟨hstate, hasserted, hstart, rfl, rfl, rfl, rfl⟩
  · exact ⟨hstate, hasserted, hstart, rfl, rfl, rfl, rfl⟩
  · exact ⟨rfl, rfl, rfl, rfl, rfl, rfl, rfl⟩

theorem notifyActivation_os {n : Fin 4} {s : State}
    (h : s.gu.inputs[n].action = .clamp ∨ s.gu.inputs[n].action = .hold) :
    (notifyActivation n s).os = (s.os.clampOn n s.gu.inputs[n].clampMask).resolve s.tb.tl := by
  unfold notifyActivation
  rcases h with h | h <;> rw [h] <;> rfl

theorem notifyActivation_holds {n : Fin 4} {s : State} (h : s.gu.inputs[n].action = .hold) :
    (notifyActivation n s).tb.guardHolds = s.tb.guardHolds ||| faultBit n := by
  unfold notifyActivation
  rw [h]
  rfl

theorem notifyActivation_ev {P : State → Prop} (h : Reporting P) (n : Fin 4) : Keeps P (notifyActivation n) := by
  intro s hs
  unfold notifyActivation
  split
  · exact hs
  · exact h.osEvent _ s hs
  · exact h.same (h.osEvent _ s hs) rfl rfl
  · exact hs

/-- The Guard Unit after a TRIP action. -/
theorem activationReported_trip {n : Fin 4} {s : State} (h : s.gu.inputs[n].action = .trip) :
    (activationReported n s).gu.latch = true ∧ (activationReported n s).gu.sources = s.gu.sources ||| faultBit n ∧
      (activationReported n s).gu.mask = s.gu.mask ||| s.gu.inputs[n].clampMask ∧
        (activationReported n s).gu.tripNotice =
          some (s.gu.tripNotice.getD 0#16 ||| s.gu.inputs[n].clampMask) := by
  have hinput := activateInput_input n s
  rw [(activationReported_gu n s).2 h]
  exact ⟨rfl, rfl, (congrArg (fun i : FaultInput => s.gu.mask ||| i.clampMask) hinput :),
    (congrArg (fun i : FaultInput => some (s.gu.tripNotice.getD 0#16 ||| i.clampMask)) hinput :)⟩

/-! ## The end of an activation's event -/

/-- The input of an activation at the end of its event. -/
theorem activate_input (n : Fin 4) (s : State) :
    (activate n s).gu.inputs[n].state = .active ∧
      (activate n s).gu.inputs[n].asserted = s.gu.inputs[n].asserted ∧
        (s.gu.inputs[n].action = .hold → (activate n s).gu.inputs[n].holdStart = some s.tb.tl) := by
  obtain ⟨kstate, kasserted, kstart, _⟩ := notifyActivation_keeps n (activationReported n s)
  have hinput := activationReported_input n s
  refine ⟨kstate.trans ?_, kasserted.trans ?_, fun hhold => kstart.trans ?_⟩
  · rw [hinput]; rfl
  · rw [hinput]; rfl
  · rw [hinput]; exact if_pos hhold

/-- What an activation reports stands at the end of its event. -/
theorem activate_reports (n : Fin 4) (s : State) :
    (activationReported n s).jw.fifo <+: (settle (activate n s)).jw.fifo ∧
      pendingCause .guard (settle (activate n s)) = true ∧
        (s.gu.inputs[n].action = .trip → pendingCause .trip (settle (activate n s)) = true) ∧
          (s.cp.staged = none →
            (settle (activate n s)).ev.tallies[6] = satAdd s.ev.tallies[6] 1 ∧
              (settle (activate n s)).ev.tallies[7] =
                satAdd s.ev.tallies[7] (if s.gu.inputs[n].action = .trip then 1 else 0)) := by
  obtain ⟨_, hguard, htrip, h6, h7⟩ := activationReported_reports n s
  have hcause (c : Cause) := notifyActivation_ev (cause_stays c).toReporting n (activationReported n s)
  refine ⟨((notifyActivation_ev (fifo_grows _).toReporting n) _ (List.prefix_refl _)).trans (settle_fifo_grows _),
    settle_pending (hcause .guard hguard), fun h => settle_pending (hcause .trip (htrip h)), fun hstaged => ?_⟩
  have hnone : (activate n s).cp.staged = none := by simpa using hstaged
  exact ⟨(settle_tally (i := 6) (by decide) (by decide) hnone).trans
      (notifyActivation_ev (tally_stands (i := 6) (by decide) _) n _ h6),
    (settle_tally (i := 7) (by decide) (by decide) hnone).trans
      (notifyActivation_ev (tally_stands (i := 7) (by decide) _) n _ h7)⟩

/-- An activation that is no trip leaves no notice out, so its event ends with the pump. -/
theorem settle_activate_of_not_trip {n : Fin 4} {s v : State} (hv : Sampled n s v) (hquiet : Quiet s)
    (h : v.gu.inputs[n].action ≠ .trip) : settle (activate n v) = pump (activate n v) := by
  obtain ⟨_, _, _, _, _, _, knotice⟩ := notifyActivation_keeps n (activationReported n v)
  have hnotice : (activationReported n v).gu.tripNotice = v.gu.tripNotice := by
    rw [(activationReported_gu n v).1 h]; rfl
  have hsame : SameNotices s (activate n v) :=
    ⟨(knotice.trans hnotice).trans hv.tripNotice, by simpa using hv.su, by simpa using hv.fu⟩
  exact congrArg pump (takeNotices_of_quiet (hquiet.of_same hsame))

/-- An input that becomes ACTIVE in an event of a state with no notice out acts as its action says. -/
theorem activate_acts {n : Fin 4} {s v : State} (hv : Sampled n s v) (hquiet : Quiet s) :
    GuardActed n s (settle (activate n v)) := by
  obtain ⟨hfifo, hguard, htrip, htallies⟩ := activate_reports n v
  obtain ⟨hactive, hasserted, hstart⟩ := activate_input n v
  obtain ⟨_, _, _, klatch, ksources, kmask, knotice⟩ := notifyActivation_keeps n (activationReported n v)
  have hstays := settle_stays (activate n v)
  have hjw := (activationReported_reports n v).1
  rw [hjw] at hfifo
  rw [hv.action] at hfifo htrip htallies hstart
  rw [hv.clampMask, hv.mask, hv.sources, hv.jw, hv.tb] at hfifo
  rw [hv.cp, hv.ev] at htallies
  have hpumped (h : s.gu.inputs[n].action ≠ .trip) :=
    settle_activate_of_not_trip hv hquiet (by rw [hv.action]; exact h)
  refine ⟨((hstays.input n).1).trans hactive, ((hstays.input n).2).trans (hasserted.trans hv.asserted), hguard, ?_,
    ?_, ?_, hfifo, htallies, fun hclamp m hm hrole => ?_, fun hhold => ⟨?_, ?_⟩, fun hother => ?_, fun htaken => ?_⟩
  · simpa using hv.cx
  · simp [hv.tb]
  · simp [hv.tb]
  · have hother : s.gu.inputs[n].action ≠ .trip := by
      rcases hclamp with h | h <;> rw [h] <;> decide
    have hinput := activationReported_input n v
    have haction : (activationReported n v).gu.inputs[n].action = s.gu.inputs[n].action := by
      rw [hinput]; exact hv.action
    have hmask : (activationReported n v).gu.inputs[n].clampMask = s.gu.inputs[n].clampMask := by
      rw [hinput]; exact hv.clampMask
    have hos : (activate n v).os = (s.os.clampOn n s.gu.inputs[n].clampMask).resolve (activationReported n v).tb.tl := by
      rw [activate_eq, notifyActivation_os (by rw [haction]; exact hclamp), hmask, (activationReported_frame n v).1, hv.os]
    rw [hpumped hother, (pump_frame _).2.2.1, hos]
    exact clampOn_resolved hm hrole _
  · have hother : s.gu.inputs[n].action ≠ .trip := by rw [hhold]; decide
    have haction : (activationReported n v).gu.inputs[n].action = .hold := by
      rw [activationReported_input]; exact hv.action.trans hhold
    rw [hpumped hother, (pump_frame _).1, activate_eq, notifyActivation_holds haction, (activationReported_frame n v).2.1,
      hv.tb]
  · have hother : s.gu.inputs[n].action ≠ .trip := by rw [hhold]; decide
    rw [hpumped hother, (pump_frame _).2.2.2.1, hstart hhold, hv.tb]
  · have hgu := (activationReported_gu n v).1 (by rw [hv.action]; exact hother)
    rw [hpumped hother, (pump_frame _).2.2.2.1]
    exact ⟨klatch.trans ((congrArg GuardUnit.latch hgu).trans hv.latch),
      ksources.trans ((congrArg GuardUnit.sources hgu).trans hv.sources),
      kmask.trans ((congrArg GuardUnit.mask hgu).trans hv.mask)⟩
  · obtain ⟨tlatch, tsources, tmask, tnotice⟩ := activationReported_trip (hv.action.trans htaken)
    have hlatch : (activate n v).gu.latch = true := klatch.trans tlatch
    have hnotice := knotice.trans tnotice
    have hgated := settle_gated (TripGate.of_notice (s := activate n v) (by rw [activate_eq, hnotice]; simp))
    refine ⟨hstays.latch hlatch, hstays.sources _ ?_, htrip htaken, hgated.2 (hstays.latch hlatch),
      fun m hm => ⟨hstays.mask _ ?_, settle_covers hnotice ?_⟩⟩
    · rw [activate_eq, ksources, tsources]
      simp [faultBit_getLsbD]
    · rw [activate_eq, kmask, tmask, BitVec.getLsbD_or, hv.clampMask, hm, Bool.or_true]
    · rw [BitVec.getLsbD_or, hv.clampMask, hm, Bool.or_true]

/-! ## CANDIDATE_ASSERTION (R121, R124) -/

theorem exec_candidateAssertion (n : Fin 4) (s : State) :
    exec (.candidateAssertion n) s = .next (takeAssertion n s) := rfl

theorem canAssert_iff {n : Fin 4} {s : State} :
    canAssert n s = true ↔ s.gu.inputs[n].state ≠ .off ∧ s.gu.inputs[n].asserted = false := by
  rw [canAssert, Bool.and_eq_true, bne_iff_ne, Bool.not_eq_true']

/-- The sample of an input's asserted level. -/
theorem levelAsserted_sampled (n : Fin 4) (s : State) : Sampled n s (levelAsserted n s) := by
  have hinput : (levelAsserted n s).gu.inputs[n] = s.gu.inputs[n].assertLevel := setInput_same _ _ _
  constructor <;> (try rw [hinput]) <;> rfl

/-- Settles O39: an unblanked input acts, a blanked one only takes its level. -/
theorem assertionActs : Obligations.AssertionActs := by
  intro n s hquiet
  simp only [exec_candidateAssertion]
  have hinput : (levelAsserted n s).gu.inputs[n] = s.gu.inputs[n].assertLevel := setInput_same _ _ _
  refine ⟨fun hnot => next_congr (if_neg fun hcan => ?_), fun hst hlevel hblank hrested => ?_, fun hst hlevel hblank => ?_⟩
  · obtain ⟨hst, hlevel⟩ := canAssert_iff.mp hcan
    rcases hnot with h | h
    · exact hst h
    · exact absurd (h.symm.trans hlevel) (by decide)
  · have hcan : canAssert n s = true := canAssert_iff.mpr ⟨by rw [hst]; decide, hlevel⟩
    have hrecognized : recognizeAssertion n (levelAsserted n s) = levelAsserted n s :=
      if_neg fun h => hblank (by have := h.2; rw [hinput] at this; exact this)
    have hsettled : takeAssertion n s = levelAsserted n s := by
      rw [takeAssertion, if_pos hcan, hrecognized]
      exact settle_of_between (hquiet.of_same ⟨rfl, rfl, rfl⟩) (hrested.undisturbed (.of_eq rfl rfl rfl rfl rfl))
    rw [hsettled]
    exact ⟨_, rfl, rfl, rfl, rfl, rfl, rfl, rfl, rfl, rfl, rfl⟩
  · have hcan : canAssert n s = true := canAssert_iff.mpr ⟨by rw [hst]; decide, hlevel⟩
    have hrecognized : recognizeAssertion n (levelAsserted n s) = activate n (levelAsserted n s) :=
      if_pos (by rw [hinput]; exact ⟨hst, hblank⟩)
    refine ⟨_, rfl, ?_⟩
    rw [takeAssertion, if_pos hcan, hrecognized]
    exact activate_acts (levelAsserted_sampled n s) hquiet

/-! ## BLANK_END (R124) -/

theorem exec_blankEnd (n : Fin 4) (s : State) : exec (.blankEnd n) s = .next (takeBlankEnd n s) := rfl

theorem blankEnds_iff {n : Fin 4} {s : State} : blankEnds n s = true ↔ s.gu.inputs[n].blankUntil = some s.tb.tl :=
  beq_iff_eq

/-- The end of the window of an input that is asserted samples it anew. -/
theorem clearBlank_sampled {n : Fin 4} {s : State} (h : s.gu.inputs[n].asserted = true) :
    Sampled n s (clearBlank n s) := by
  have hinput : (clearBlank n s).gu.inputs[n] = { s.gu.inputs[n] with blankUntil := none } := setInput_same _ _ _
  exact ⟨by rw [hinput]; exact h, by rw [hinput], by rw [hinput], rfl, rfl, rfl, rfl, rfl, rfl, rfl, rfl, rfl, rfl, rfl, rfl⟩

/-- Settles O34: the end of a window recognizes a QUIET input that is asserted. -/
theorem blankWindowEnds : Obligations.BlankWindowEnds := by
  intro n s
  simp only [exec_blankEnd]
  have hinput : (clearBlank n s).gu.inputs[n] = { s.gu.inputs[n] with blankUntil := none } := setInput_same _ _ _
  refine ⟨fun hnot => next_congr (if_neg fun h => hnot (blankEnds_iff.mp h)), fun hends => ⟨fun hst hlevel => ?_,
    fun hnot hquiet hrested => next_congr ?_⟩⟩
  · have hjudged : endBlank n s = activate n (clearBlank n s) := if_pos (by rw [hinput]; exact ⟨hst, hlevel⟩)
    have htaken : takeBlankEnd n s = settle (activate n (clearBlank n s)) := by
      rw [takeBlankEnd, if_pos (blankEnds_iff.mpr hends), hjudged]
    rw [htaken]
    have hstays := settle_stays (activate n (clearBlank n s))
    exact ⟨_, rfl, ((hstays.input n).1).trans (activate_input n _).1, (activate_reports n _).2.1, by simp, by simp, by simp,
      by simp, activate_acts (clearBlank_sampled hlevel)⟩
  · have hjudged : endBlank n s = clearBlank n s := if_neg (by
      rw [hinput]
      rintro ⟨hst, hlevel⟩
      rcases hnot with h | h
      · exact h hst
      · exact absurd (h.symm.trans hlevel) (by decide))
    rw [takeBlankEnd, if_pos (blankEnds_iff.mpr hends), hjudged]
    exact settle_of_between (hquiet.of_same ⟨rfl, rfl, rfl⟩) (hrested.undisturbed (.of_eq rfl rfl rfl rfl rfl))

end Sys2Proof.Machine
end

/-! The end of an event that leaves no trip out and tracks a strip: the FU's slots are judged, STARVED is reported, the
requests follow, and nothing else moves (R27, R32). -/
section
namespace Sys2Proof.Machine

/-! ## Notices of a state that tracks a strip -/

/-- The event leaves no trip out and no end of retirement: the notices come to the judgment of the slots. -/
structure Tracking (u : State) : Prop where
  trip : u.gu.tripNotice = none
  tracked : u.fu.state = .stopped → u.fu.table ≠ []
  done : u.su.program = .stopping → u.fu.doneNotice = none

/-- The state with its slots judged (R27). -/
def marked (u : State) : State := { u with fu := u.fu.markReady }

theorem markReady_table_eq_nil (f : FetchUnit) : f.markReady.table = [] ↔ f.table = [] := List.map_eq_nil_iff

theorem Tracking.fuEvaluate {u : State} (h : Tracking u) : fuEvaluate u = marked u := by
  have hunfinished : ¬(u.fu.markReady.state = .stopped ∧ u.fu.markReady.table = []) := fun ⟨hst, htable⟩ =>
    h.tracked hst ((markReady_table_eq_nil _).mp htable)
  rw [Machine.fuEvaluate, FetchUnit.finish, if_neg hunfinished]
  rfl

/-- A state in which no end of retirement waits for the program. -/
theorem takeRetirementDone_of_none {u : State} (h : u.su.program = .stopping → u.fu.doneNotice = none) :
    takeRetirementDone u = u := by
  unfold takeRetirementDone
  split
  next _ hdone => exact if_neg fun hst => by rw [h hst] at hdone; cases hdone
  next => rfl

theorem Tracking.takeNotices {u : State} (h : Tracking u) : takeNotices u = reportStarved (marked u) := by
  have htrip : (marked u).gu.tripNotice = none := h.trip
  have hdone : takeRetirementDone (marked u) = marked u := takeRetirementDone_of_none h.done
  rw [Machine.takeNotices, deliverTrip_none h.trip, h.fuEvaluate, hdone, deliverTrip_none htrip]

theorem Quiet.tracking {u : State} (h : Quiet u) : Tracking u := by
  obtain ⟨htrip, _, hidle, hdone, _⟩ := h
  exact ⟨htrip, fun hst htable => hidle ⟨hst, htable⟩, hdone⟩

theorem Tracking.of_same {s u : State} (hs : Tracking s) (h : SameNotices s u) : Tracking u := by
  obtain ⟨htrip, htracked, hdone⟩ := hs
  refine ⟨h.trip.trans htrip, ?_, ?_⟩
  · rw [h.fu]; exact htracked
  · rw [h.fu, h.su]; exact hdone

/-- A report of starvation touches the FU's own mark and the cause alone. -/
theorem reportStarved_fu (s : State) :
    (reportStarved s).fu.table = s.fu.table ∧ (reportStarved s).fu.state = s.fu.state ∧
      (reportStarved s).fu.nextAddress = s.fu.nextAddress ∧ (reportStarved s).fu.nextSequence = s.fu.nextSequence ∧
        (reportStarved s).fu.rereadWanted = s.fu.rereadWanted ∧ (reportStarved s).fu.watchStart = s.fu.watchStart ∧
          (reportStarved s).fu.link = s.fu.link ∧ (reportStarved s).fu.doneNotice = s.fu.doneNotice := by
  unfold reportStarved
  split <;> exact ⟨rfl, rfl, rfl, rfl, rfl, rfl, rfl, rfl⟩

theorem reportStarved_tallies (s : State) : (reportStarved s).ev.tallies = s.ev.tallies := by
  unfold reportStarved
  split <;> rfl

theorem reportStarved_pendingCause {c : Cause} (s : State) (h : c ≠ .starved) :
    pendingCause c (reportStarved s) = pendingCause c s := by
  unfold reportStarved
  split
  · have hraised := s.ev.raise_getLsbD .starved c
    rw [decide_eq_false (Ne.symm h), Bool.false_or] at hraised
    exact hraised
  · rfl

/-- Only a RUNNING program starves. -/
theorem reportStarved_of_not_running {s : State} (h : s.su.program ≠ .running) : reportStarved s = s := by
  refine if_neg fun hstarves => h ?_
  simp only [starving, Bool.and_eq_true, beq_iff_eq] at hstarves
  exact hstarves.1.1.1.1

theorem closeAsked_reportStarved {u : State} (hclose : CloseAsked u) : CloseAsked (reportStarved (marked u)) := by
  unfold CloseAsked at *
  simpa [marked] using hclose

theorem reportStarved_marked_bp (u : State) : (reportStarved (marked u)).bp = u.bp := by simp [marked]

/-! ## The end of such an event -/

section
variable {u : State} (h : Tracking u)
include h

theorem Tracking.settle : settle u = pump (reportStarved (marked u)) := congrArg pump h.takeNotices

theorem Tracking.settle_parts :
    (Machine.settle u).su = u.su ∧ (Machine.settle u).os = u.os ∧ (Machine.settle u).gu = u.gu ∧
      (Machine.settle u).tb = u.tb ∧ (Machine.settle u).oracle = u.oracle := by
  rw [h.settle]
  simp [marked]

theorem Tracking.settle_table :
    (Machine.settle u).fu.table = u.fu.markReady.table ∧ (Machine.settle u).fu.state = u.fu.state := by
  obtain ⟨htable, hstate, _⟩ := reportStarved_fu (marked u)
  rw [h.settle, (pump_fu _).1, (pump_fu _).2.1, htable, hstate]
  exact ⟨rfl, rfl⟩

theorem Tracking.settle_fifo : (Machine.settle u).jw.fifo = u.jw.fifo := by
  rw [h.settle, pump_fifo]
  simp [marked]

theorem Tracking.settle_tally {i : Fin 16} (hi : i ≠ 14) : (Machine.settle u).ev.tallies[i] = u.ev.tallies[i] := by
  rw [h.settle, pump_tally _ hi, reportStarved_tallies]
  rfl

theorem Tracking.settle_pendingCause {c : Cause} (hdone : c ≠ .cmdDone) (hstarved : c ≠ .starved) :
    pendingCause c (Machine.settle u) = pendingCause c u := by
  rw [h.settle, pump_pendingCause _ hdone, reportStarved_pendingCause _ hstarved]
  rfl

theorem Tracking.settle_kept (hclose : CloseAsked u) :
    (Machine.settle u).cp = u.cp ∧ (Machine.settle u).jw.state = u.jw.state ∧
      (Machine.settle u).jw.lostCount = u.jw.lostCount := by
  obtain ⟨hcp, hstate, hlost, _⟩ := pump_kept (closeAsked_reportStarved hclose)
  rw [h.settle, hcp, hstate, hlost]
  simp [marked]

theorem Tracking.settle_counted {n : Nat} {s : State} (hclose : CloseAsked u) (hs : OffersCounted n s u) :
    OffersCounted n s (Machine.settle u) := by
  obtain ⟨hlost, hunjournaled, hcount, hcause⟩ := hs
  exact ⟨(h.settle_tally (i := 10) (by decide)).trans hlost, (h.settle_tally (i := 11) (by decide)).trans hunjournaled,
    (h.settle_kept hclose).2.2.trans hcount, (h.settle_pendingCause (by decide) (by decide)).trans hcause⟩

/-- STARVED is judged against any state whose episode and cause are those of the event. -/
theorem Tracking.settle_starved {s : State} (hcause : pendingCause .starved u = pendingCause .starved s)
    (hepisode : u.fu.starvedReported = s.fu.starvedReported) : StarvedJudged s (Machine.settle u) := by
  rw [h.settle]
  have hjudged := (reportStarved_judged (marked u)).pump
  unfold StarvedJudged at *
  have hmarked : pendingCause .starved (marked u) = pendingCause .starved s := hcause
  have hreported : (marked u).fu.starvedReported = s.fu.starvedReported := hepisode
  rwa [hmarked, hreported] at hjudged

theorem Tracking.settle_fetchAsked (hfiled : u.bp.Filed) (hout : u.bp.outstanding .fu = false) :
    FetchAsked (Machine.settle u) := by
  rw [h.settle]
  exact pump_fetchAsked _ (by rw [reportStarved_marked_bp]; exact hfiled)
    (by rw [reportStarved_marked_bp]; exact hout)

end

end Sys2Proof.Machine
end

/-! Counting the offers of an event that takes several steps: the counts of its steps add up (R107, R131, R153). -/
section
namespace Sys2Proof.Machine

/-! ## Counts that add up -/

theorem satAdd_satAdd (x : Word) (m n : Nat) : satAdd (satAdd x m) n = satAdd x (m + n) := by
  have hx := x.isLt
  unfold satAdd
  by_cases hm : x.toNat + m < 2 ^ 32
  · rw [if_pos hm, BitVec.toNat_ofNat, Nat.mod_eq_of_lt hm, Nat.add_assoc]
  · have hfull : ∀ y : Nat, x.toNat + (m + y) < 2 ^ 32 → False := fun y hy => hm (by omega)
    have hones : (BitVec.allOnes 32).toNat = 2 ^ 32 - 1 := rfl
    rw [if_neg hm, if_neg (hfull n), hones]
    split
    next hzero => rw [show n = 0 by omega]; rfl
    next => rfl

/-- The journal takes records (R153). -/
def Taking (s : State) : Prop := s.jw.state = .seeking ∨ s.jw.state = .opened ∨ s.jw.state = .blocked

/-- From `s` to `t` there are `n` offers, `k` suppressed pairs among them and `e` escalated holds. -/
structure Counted (n k e : Nat) (s t : State) : Prop where
  state : t.jw.state = s.jw.state
  held : Taking s → t.jw.fifo.length = max s.jw.fifo.length (min 16 (s.jw.fifo.length + n))
  shoots : t.ev.tallies[4] = satAdd s.ev.tallies[4] k
  escalations : t.ev.tallies[8] = satAdd s.ev.tallies[8] e
  offers : OffersCounted n s t

theorem Counted.same {s t : State} (hstate : t.jw.state = s.jw.state) (hfifo : t.jw.fifo = s.jw.fifo)
    (hlost : t.jw.lostCount = s.jw.lostCount) (htallies : t.ev.tallies = s.ev.tallies)
    (hcause : pendingCause .recordsLost t = pendingCause .recordsLost s) : Counted 0 0 0 s t := by
  refine ⟨hstate, fun _ => by rw [hfifo]; omega, by rw [htallies, satAdd_zero], by rw [htallies, satAdd_zero], ?_⟩
  simp [OffersCounted, htallies, hlost, hcause, satAdd_zero]

theorem Counted.of_eq {s t : State} (hev : t.ev = s.ev) (hjw : t.jw = s.jw) : Counted 0 0 0 s t :=
  .same (by rw [hjw]) (by rw [hjw]) (by rw [hjw]) (by rw [hev]) (by rw [pendingCause, hev]; rfl)

theorem Counted.refl (s : State) : Counted 0 0 0 s s := .of_eq rfl rfl

theorem Counted.trans {n k e m l d : Nat} {s t u : State} (h : Counted n k e s t) (g : Counted m l d t u) :
    Counted (n + m) (k + l) (e + d) s u := by
  have htaking : Taking t ↔ Taking s := by unfold Taking; rw [h.state]
  refine ⟨g.state.trans h.state, fun hs => ?_, ?_, ?_, ?_⟩
  · rw [g.held (htaking.mpr hs), h.held hs]; omega
  · rw [g.shoots, h.shoots, satAdd_satAdd]
  · rw [g.escalations, h.escalations, satAdd_satAdd]
  · obtain ⟨hlost, hunjournaled, hcount, hcause⟩ := h.offers
    obtain ⟨glost, gunjournaled, gcount, gcause⟩ := g.offers
    unfold OffersCounted
    dsimp only at *
    have hheld := h.held
    unfold Taking at htaking hheld
    by_cases hs : s.jw.state = .seeking ∨ s.jw.state = .opened ∨ s.jw.state = .blocked
    · rw [if_pos hs] at hlost hunjournaled hcount hcause
      rw [if_pos (htaking.mpr hs)] at glost gunjournaled gcount gcause
      have hsum : n - (16 - s.jw.fifo.length) + (m - (16 - t.jw.fifo.length)) = n + m - (16 - s.jw.fifo.length) := by
        rw [hheld hs]; omega
      rw [if_pos hs, if_pos hs, ← hsum, glost, gunjournaled, gcount, gcause, hlost, hunjournaled, hcount, hcause,
        satAdd_satAdd, satAdd_satAdd, satAdd_satAdd]
      refine ⟨rfl, rfl, rfl, ?_⟩
      rw [Bool.or_assoc, ← Bool.decide_or]
      congr 2
      exact propext (by omega)
    · rw [if_neg hs] at hlost hunjournaled hcount hcause
      rw [if_neg (fun h => hs (htaking.mp h))] at glost gunjournaled gcount gcause
      rw [if_neg hs, if_neg hs, glost, gunjournaled, gcount, gcause, hlost, hunjournaled, hcount, hcause,
        satAdd_satAdd, satAdd_satAdd, satAdd_satAdd]
      simp

/-- The counts of a first step that offers nothing, and of a last one. -/
theorem Counted.after {n k e : Nat} {s t u : State} (g : Counted n k e t u) (h : Counted 0 0 0 s t) :
    Counted n k e s u := by
  have hboth := h.trans g
  rwa [Nat.zero_add, Nat.zero_add, Nat.zero_add] at hboth

theorem Counted.then {n k e : Nat} {s t u : State} (h : Counted n k e s t) (g : Counted 0 0 0 t u) :
    Counted n k e s u := h.trans g

theorem Counted.with {n k e : Nat} {s t : State} (h : Counted (n + k + e) k e s t) (hk : k ≤ 8) (he : e ≤ 4) :
    OffersCountedWith n s t := ⟨⟨k, by omega⟩, ⟨e, by omega⟩, h.shoots, h.escalations, h.offers⟩

/-! ## The steps of an event -/

theorem raise_counted {c : Cause} (s : State) (h : c ≠ .recordsLost) : Counted 0 0 0 s (raise c s) := by
  refine .same rfl rfl rfl (EventUnit.raise_tallies _ _) ?_
  have hraised := s.ev.raise_getLsbD c .recordsLost
  rw [decide_eq_false h, Bool.false_or] at hraised
  exact hraised

theorem count_counted {t : Tally} (n : Nat) (s : State) (h : t.index ≠ 4 ∧ t.index ≠ 8 ∧ t.index ≠ 10 ∧ t.index ≠ 11) :
    Counted 0 0 0 s (count t n s) := by
  obtain ⟨h4, h8, h10, h11⟩ := h
  have hstands {i : Fin 16} (hi : t.index ≠ i) : (count t n s).ev.tallies[i] = s.ev.tallies[i] :=
    (s.ev.count_tally t n i).trans (if_neg (Ne.symm hi))
  refine ⟨rfl, fun _ => ?_, ?_, ?_, ?_⟩
  · show s.jw.fifo.length = _
    omega
  · exact (hstands (i := 4) h4).trans (satAdd_zero _).symm
  · exact (hstands (i := 8) h8).trans (satAdd_zero _).symm
  · unfold OffersCounted
    dsimp only
    refine ⟨(hstands (i := 10) h10).trans ?_, (hstands (i := 11) h11).trans ?_, ?_, ?_⟩
    all_goals simp [satAdd_zero]
    all_goals rfl

theorem offer_length (r : Record) (s : State) (h : Taking s) :
    (offer r s).jw.fifo.length = max s.jw.fifo.length (min 16 (s.jw.fifo.length + 1)) := by
  have htakes : s.jw.state.takes = true := by
    rcases h with h | h | h <;> rw [h] <;> rfl
  dsimp only [offer, JournalWriter.offer]
  rw [if_pos htakes]
  split
  next hroom =>
    have hlt : s.jw.fifo.length < 16 := hroom
    simp only [List.length_append, List.length_cons, List.length_nil]
    omega
  next hfull =>
    have hge : ¬s.jw.fifo.length < 16 := hfull
    show s.jw.fifo.length = _
    omega

theorem offer_state (r : Record) (s : State) : (offer r s).jw.state = s.jw.state := by
  dsimp only [offer, JournalWriter.offer]
  repeat' split
  all_goals rfl

theorem offer_tally_of_other (r : Record) (s : State) {i : Fin 16} (h : i ≠ 10 ∧ i ≠ 11) :
    (offer r s).ev.tallies[i] = s.ev.tallies[i] := by
  dsimp only [offer, EventUnit.offer]
  split
  · split
    · rfl
    · exact lose_tally 1 _ h.1
  · exact (s.ev.count_tally .recordsUnjournaled 1 i).trans (if_neg h.2)

theorem offer_counts (r : Record) (s : State) : Counted 1 0 0 s (offer r s) :=
  ⟨offer_state r s, offer_length r s, (offer_tally_of_other (i := 4) r s (by decide)).trans (satAdd_zero _).symm,
    (offer_tally_of_other (i := 8) r s (by decide)).trans (satAdd_zero _).symm, offer_counted r s⟩

/-- Offers one after the other. -/
theorem foldl_offer_counts {α : Type} (f : α → State → Record) (l : List α) (s : State) :
    Counted l.length 0 0 s (l.foldl (fun t x => offer (f x t) t) s) := by
  induction l generalizing s with
  | nil => exact .refl s
  | cons x l ih =>
    have hboth := (offer_counts (f x s) s).trans (ih (offer (f x s) s))
    rwa [Nat.add_comm] at hboth

/-- A suppression counts its pairs and offers a record for each (R107). -/
theorem suppressShoot_counted (s : State) :
    Counted s.os.shootPairs.length s.os.shootPairs.length 0 s (suppressShoot s) := by
  obtain ⟨t, ht⟩ : ∃ t : State, t = { s with
      os := s.os.suppress, ev := s.ev.count .shootThroughs s.os.shootPairs.length } := ⟨_, rfl⟩
  have hcount (i : Fin 16) : t.ev.tallies[i] =
      if i = 4 then satAdd s.ev.tallies[i] s.os.shootPairs.length else s.ev.tallies[i] := by
    rw [ht]; exact s.ev.count_tally .shootThroughs _ i
  have hjw : t.jw = s.jw := by rw [ht]
  have hevents : t.ev.events = s.ev.events := by rw [ht]; rfl
  have hcounted : Counted 0 s.os.shootPairs.length 0 s t := by
    refine ⟨by rw [hjw], fun _ => by rw [hjw]; omega, (hcount 4).trans (if_pos rfl),
      ((hcount 8).trans (if_neg (by decide))).trans (satAdd_zero _).symm, ?_⟩
    refine ⟨((hcount 10).trans (if_neg (by decide))).trans ?_, ((hcount 11).trans (if_neg (by decide))).trans ?_, ?_, ?_⟩
    · simp [satAdd_zero]
    · simp [satAdd_zero]
    · simp [hjw, satAdd_zero]
    · simp [pendingCause, hevents]
  have hboth := hcounted.trans (foldl_offer_counts (fun k u => shootRecord u.tb.tl k) s.os.shootPairs t)
  rw [Nat.zero_add, Nat.add_zero] at hboth
  rw [ht] at hboth
  exact hboth

theorem shootPairs_length (o : OutputStage) : o.shootPairs.length ≤ 8 := by
  have hle := List.length_filter_le o.bothHigh (List.finRange 8)
  rwa [List.length_finRange] at hle

theorem osResolve_counted (s : State) : Counted 0 0 0 s (osResolve s) :=
  (count_counted (t := .risesDeferred) (s.os.newDeferrals s.tb.tl).length s (by decide)).then (.of_eq rfl rfl)

theorem osEvent_counted (f : OutputStage → OutputStage) (s : State) : Counted 0 0 0 s (osEvent f s) :=
  (osResolve_counted _).after (.of_eq rfl rfl)

theorem osEndLevels_counted (s : State) : ∃ k ≤ 8, Counted k k 0 s (osEndLevels s) :=
  ⟨_, shootPairs_length _, (((suppressShoot_counted { s with os := s.os.endLevels }).then (osResolve_counted _)).after
    (.of_eq rfl rfl))⟩

theorem enterStopping_counted (o : ProgramOutcome) (r : Reason) (s : State) :
    ∃ k ≤ 8, Counted k k 0 s (enterStopping o r s) := by
  unfold enterStopping
  dsimp only
  split
  · obtain ⟨k, hk, hcounted⟩ := osEndLevels_counted
      (discardAgenda { noticeClosed s with su := (noticeClosed s).su.stop o r })
    exact ⟨k, hk, hcounted.after (.of_eq (by simp [discardAgenda]) (by simp [discardAgenda]))⟩
  · exact ⟨0, by omega, .of_eq (by simp [discardAgenda]) (by simp [discardAgenda])⟩

/-- An escalation offers its record and counts (R131). -/
theorem escalate_counted (n : Fin 4) (s : State) : Counted 1 0 1 s (escalate n s) := by
  rw [escalate_eq]
  obtain ⟨t, ht⟩ : ∃ t, t = offer
      { kind := .guard, source := BitVec.ofNat 8 n.val, flags := 0x0C#8, stamp := s.tb.tl.setWidth 40, value1 := 2#32,
        value2 := (s.gu.mask ||| s.gu.inputs[n].clampMask).setWidth 32 |||
          (s.gu.sources ||| faultBit n).setWidth 32 <<< 16 } (escalateTrip n s) := ⟨_, rfl⟩
  have hoffered : Counted 1 0 0 s t := by
    rw [ht]
    exact (offer_counts _ _).after (.of_eq rfl rfl)
  rw [← ht]
  have hcount (i : Fin 16) : (count .holdEscalations 1 t).ev.tallies[i] =
      if i = 8 then satAdd t.ev.tallies[i] 1 else t.ev.tallies[i] := t.ev.count_tally .holdEscalations 1 i
  have hescalated : Counted 0 0 1 t (count .holdEscalations 1 t) := by
    refine ⟨rfl, fun _ => ?_, ((hcount 4).trans (if_neg (by decide))).trans (satAdd_zero _).symm,
      (hcount 8).trans (if_pos rfl), ((hcount 10).trans (if_neg (by decide))).trans ?_,
      ((hcount 11).trans (if_neg (by decide))).trans ?_, ?_, ?_⟩
    · show t.jw.fifo.length = _
      omega
    all_goals simp [satAdd_zero]
    all_goals rfl
  have hguard := raise_counted (c := .guard) (count .holdEscalations 1 t) (by decide)
  have htrip := raise_counted (c := .trip) (raise .guard (count .holdEscalations 1 t)) (by decide)
  exact (((hoffered.trans hescalated).then hguard).then htrip).then (count_counted (t := .trips) 1 _ (by decide))

theorem foldl_judgeHold_counted (l : List (Fin 4)) (s : State) :
    ∃ e ≤ l.length, Counted e 0 e s (l.foldl judgeHold s) := by
  induction l generalizing s with
  | nil => exact ⟨0, le_rfl, .refl s⟩
  | cons n l ih =>
    obtain ⟨e, he, hcounted⟩ := ih (judgeHold s n)
    by_cases hover : overLimit n s = true
    · have hjudged : judgeHold s n = escalate n s := if_pos hover
      have hfirst := escalate_counted n s
      rw [← hjudged] at hfirst
      exact ⟨1 + e, by rw [List.length_cons]; omega, hfirst.trans hcounted⟩
    · have hjudged : judgeHold s n = s := if_neg hover
      exact ⟨e, by rw [List.length_cons]; omega, hcounted.after (by rw [hjudged]; exact .refl s)⟩

theorem guNewLimits_counted (m : Limits) (s : State) : ∃ e ≤ 4, Counted e 0 e s (guNewLimits m s) := by
  obtain ⟨e, he, hcounted⟩ := foldl_judgeHold_counted (List.finRange 4) { s with gu := s.gu.setLimits m }
  exact ⟨e, by rwa [List.length_finRange] at he, hcounted.after (.of_eq rfl rfl)⟩

/-- The delivery of a block to the OS and the GU, in either order (R179). -/
theorem deliverLimits_counted (m : Limits) (s : State) : ∃ e ≤ 4, Counted e 0 e s (deliverLimits m s) := by
  have hdrawn : Counted 0 0 0 s (afterDraw s) := .of_eq rfl rfl
  unfold deliverLimits
  split
  · obtain ⟨e, he, hcounted⟩ := guNewLimits_counted m (afterDraw s)
    exact ⟨e, he, (hcounted.then (osEvent_counted _ _)).after hdrawn⟩
  · obtain ⟨e, he, hcounted⟩ := guNewLimits_counted m (osNewDeadTimes m (afterDraw s))
    exact ⟨e, he, hcounted.after (hdrawn.then (osEvent_counted _ _))⟩

theorem complete_counted (r : Result) (s : State) : Counted 0 0 0 s (complete r s) :=
  (raise_counted (c := .cmdDone) s (by decide)).then (.of_eq rfl rfl)

/-- The trip notice of a program that is not active covers lines and no more. -/
theorem deliverTrip_counted {s : State} (h : s.su.program.active = false) : Counted 0 0 0 s (deliverTrip s) := by
  unfold deliverTrip
  split
  · exact .refl s
  · dsimp only
    split
    · rw [takeTripAbort_inactive (by simpa using h)]
      exact (osEvent_counted _ _).after (.of_eq rfl rfl)
    · rw [takeTripAbort_inactive (by simpa using h)]
      exact (osEvent_counted _ _).after (.of_eq rfl rfl)

/-- The requests at the end of an event offer nothing. -/
theorem pump_counted {s : State} (h : CloseAsked s) : Counted 0 0 0 s (pump s) := by
  obtain ⟨_, hstate, hlost, _⟩ := pump_kept h
  have htally {i : Fin 16} (hi : i ≠ 14) := pump_tally s hi
  refine ⟨hstate, fun _ => by rw [pump_fifo]; omega, (htally (i := 4) (by decide)).trans (satAdd_zero _).symm,
    (htally (i := 8) (by decide)).trans (satAdd_zero _).symm, (htally (i := 10) (by decide)).trans ?_,
    (htally (i := 11) (by decide)).trans ?_, ?_, ?_⟩
  · simp [satAdd_zero]
  · simp [satAdd_zero]
  · simp [hlost, satAdd_zero]
  · simp [pump_pendingCause s (c := .recordsLost) (by decide)]

theorem reportStarved_counted (s : State) : Counted 0 0 0 s (reportStarved s) :=
  .same (by simp) (by simp) (by simp) (reportStarved_tallies s) (reportStarved_pendingCause s (by decide))

theorem Tracking.settle_counts {u : State} (h : Tracking u) (hclose : CloseAsked u) :
    Counted 0 0 0 u (Machine.settle u) := by
  have hmarked : Counted 0 0 0 u (marked u) := .of_eq rfl rfl
  rw [h.settle]
  exact (hmarked.then (reportStarved_counted _)).then (pump_counted (closeAsked_reportStarved hclose))

end Sys2Proof.Machine
end

/-! The end of a program by an abort or a drain: what it leaves while the FU retires strips, and what it leaves when the FU
tracks none and the program is IDLE in the same event (R30, R94, R95). -/
section
namespace Sys2Proof.Machine

/-! ## The FU in an abort -/

/-- A released action changes slots and no more. -/
theorem released_parts (n : Fin 8) (d : Bool) (f : FetchUnit) :
    (f.released n d).state = f.state ∧ (f.released n d).doneNotice = f.doneNotice ∧
      (f.released n d).abandoned = f.abandoned ∧ (f.released n d).table.length = f.table.length :=
  ⟨rfl, rfl, rfl, List.length_map _⟩

theorem foldl_released_parts (l : List Entry) (f : FetchUnit) :
    let g := l.foldl (fun f e => f.released e.slot true) f
    g.state = f.state ∧ g.doneNotice = f.doneNotice ∧ g.abandoned = f.abandoned ∧ g.table.length = f.table.length := by
  induction l generalizing f with
  | nil => exact ⟨rfl, rfl, rfl, rfl⟩
  | cons e l ih =>
    obtain ⟨hstate, hdone, habandoned, hlength⟩ := ih (f.released e.slot true)
    exact ⟨hstate, hdone, habandoned, hlength.trans (released_parts e.slot true f).2.2.2⟩

/-- The FU after an abort: closed if admission was open, and with every entry of the agenda released (R30, R80). -/
def abortedFetch (s : State) : FetchUnit :=
  (agendaOrder s.su.agenda).foldl (fun f e => f.released e.slot true) (if s.su.admissionOpen then s.fu.close else s.fu)

theorem enterStopping_fu (o : ProgramOutcome) (r : Reason) (s : State) : (enterStopping o r s).fu = abortedFetch s := by
  have hclosed : (noticeClosed s).fu = if s.su.admissionOpen then s.fu.close else s.fu := by
    unfold noticeClosed
    split <;> rfl
  have hagenda : (noticeClosed s).su.agenda = s.su.agenda := by simp
  have hdiscarded : (discardAgenda { noticeClosed s with su := (noticeClosed s).su.stop o r }).fu = abortedFetch s := by
    rw [abortedFetch, ← hclosed, ← hagenda]
    rfl
  unfold enterStopping
  dsimp only
  split
  · simpa using hdiscarded
  · exact hdiscarded

theorem close_parts (f : FetchUnit) :
    f.close.state ≠ .fetching ∧ f.close.state ≠ .watching ∧ f.close.doneNotice = f.doneNotice ∧
      f.close.abandoned = f.abandoned ∧ f.close.table = f.table := by
  unfold FetchUnit.close
  split
  next => exact ⟨nofun, nofun, rfl, rfl, rfl⟩
  next h => exact ⟨fun hf => h (.inl hf), fun hw => h (.inr hw), rfl, rfl, rfl⟩

theorem abortedFetch_parts (s : State) :
    (abortedFetch s).doneNotice = s.fu.doneNotice ∧ (abortedFetch s).abandoned = s.fu.abandoned ∧
      (abortedFetch s).table.length = s.fu.table.length ∧
        (s.su.admissionOpen = true → (abortedFetch s).state = s.fu.close.state) ∧
          (s.su.admissionOpen = false → (abortedFetch s).state = s.fu.state) := by
  obtain ⟨hstate, hdone, habandoned, hlength⟩ := foldl_released_parts (agendaOrder s.su.agenda)
    (if s.su.admissionOpen then s.fu.close else s.fu)
  obtain ⟨_, _, kdone, kabandoned, ktable⟩ := close_parts s.fu
  unfold abortedFetch
  by_cases hopen : s.su.admissionOpen = true
  · rw [if_pos hopen] at hstate hdone habandoned hlength
    rw [if_pos hopen]
    exact ⟨hdone.trans kdone, habandoned.trans kabandoned, hlength.trans (by rw [ktable]), fun _ => hstate,
      fun h => absurd (hopen.symm.trans h) (by decide)⟩
  · rw [if_neg hopen] at hstate hdone habandoned hlength
    rw [if_neg hopen]
    exact ⟨hdone, habandoned, hlength, fun h => absurd h hopen, fun _ => hstate⟩

/-! ## The lines in an abort (R94, R117) -/

theorem osEndLevels_os (s : State) : (osEndLevels s).os = s.os.endLevels.suppress.resolve s.tb.tl := by
  simp [osEndLevels, osResolve, suppressShoot_os]

theorem osEndLevels_gu (s : State) :
    (osEndLevels s).gu = s.gu.blank s.tb.tl
      (drivenChanges s.os.endLevels.suppress (s.os.endLevels.suppress.resolve s.tb.tl)) := by
  simp [osEndLevels, osResolve, suppressShoot_os]

theorem osEndLevels_congr {s t : State} (hos : t.os = s.os) (hgu : t.gu = s.gu) (htb : t.tb.tl = s.tb.tl) :
    (osEndLevels t).os = (osEndLevels s).os ∧ (osEndLevels t).gu = (osEndLevels s).gu := by
  rw [osEndLevels_os, osEndLevels_os, osEndLevels_gu, osEndLevels_gu, hos, hgu, htb]
  exact ⟨rfl, rfl⟩

theorem enterStopping_levels {o : ProgramOutcome} (ho : o.changesLevels = true) (r : Reason) (s : State) :
    (enterStopping o r s).os = (osEndLevels s).os ∧ (enterStopping o r s).gu = (osEndLevels s).gu := by
  unfold enterStopping
  dsimp only
  rw [if_pos ho]
  exact osEndLevels_congr (by simp [discardAgenda]) (by simp [discardAgenda]) (by simp [discardAgenda])

theorem enterStopping_steady {o : ProgramOutcome} (ho : o.changesLevels = false) (r : Reason) (s : State) :
    (enterStopping o r s).os = s.os ∧ (enterStopping o r s).gu = s.gu ∧ (enterStopping o r s).ev = s.ev ∧
      (enterStopping o r s).jw = s.jw := by
  unfold enterStopping
  dsimp only
  rw [if_neg (by rw [ho]; decide)]
  simp [discardAgenda]

theorem enterStopping_bp (o : ProgramOutcome) (r : Reason) (s : State) :
    (enterStopping o r s).bp = if s.su.admissionOpen then s.bp.discardIf TransferKind.isFetchRead else s.bp := by
  have hclosed : (noticeClosed s).bp = if s.su.admissionOpen then s.bp.discardIf TransferKind.isFetchRead else s.bp := by
    unfold noticeClosed
    split <;> rfl
  rw [← hclosed]
  unfold enterStopping
  dsimp only
  split <;> simp [discardAgenda]

theorem enterStopping_alike (o : ProgramOutcome) (r : Reason) (s : State) : s.bp.Alike (enterStopping o r s).bp := by
  rw [enterStopping_bp]
  split
  · exact s.bp.discardIf_alike _
  · exact .refl _

theorem enterStopping_closeAsked {s : State} (h : CloseAsked s) (o : ProgramOutcome) (r : Reason) :
    CloseAsked (enterStopping o r s) := by
  obtain ⟨_, _, hcounted⟩ := enterStopping_counted o r s
  intro hclosing
  rw [(enterStopping_alike o r s).outstanding]
  exact h (hcounted.state.symm.trans hclosing)

/-! ## An abort while the FU tracks a strip -/

/-- The state that an abort finds is `s` but for what the abort discards and for what the event has left to the JW, the
Event Unit, the FU and the CP. -/
structure AbortBase (s v : State) : Prop where
  su : ∀ o r, { v.su.stop o r with agenda := [] } = { s.su.stop o r with agenda := [] }
  opened : v.su.admissionOpen = s.su.admissionOpen
  os : v.os = s.os
  gu : v.gu = s.gu
  tb : v.tb = s.tb
  cx : v.cx = s.cx
  pins : v.pins = s.pins
  resetAsserted : v.resetAsserted = s.resetAsserted
  pending : v.pending = s.pending

theorem enterStopping_tracking {v : State} (htrip : v.gu.tripNotice = none) (hretiring : Retiring v)
    (o : ProgramOutcome) (r : Reason) : Tracking (enterStopping o r v) := by
  obtain ⟨htable, hdone⟩ := hretiring
  obtain ⟨kdone, _, klength, _⟩ := abortedFetch_parts v
  refine ⟨by simpa using htrip, fun _ hnil => htable ?_, fun _ => ?_⟩
  · rw [enterStopping_fu] at hnil
    rw [hnil] at klength
    exact List.length_eq_zero_iff.mp klength.symm
  · rw [enterStopping_fu, kdone, hdone]

theorem settle_enterStopping_closed {v : State} (htrip : v.gu.tripNotice = none) (hretiring : Retiring v)
    (hopen : v.su.admissionOpen = true) (o : ProgramOutcome) (r : Reason) :
    (settle (enterStopping o r v)).fu.state ≠ .fetching ∧ (settle (enterStopping o r v)).fu.state ≠ .watching := by
  obtain ⟨hfetching, hwatching, _⟩ := close_parts v.fu
  rw [(enterStopping_tracking htrip hretiring o r).settle_table.2, enterStopping_fu,
    (abortedFetch_parts v).2.2.2.1 hopen]
  exact ⟨hfetching, hwatching⟩

theorem aborted_of_base {o : ProgramOutcome} {s v : State} (ho : o.changesLevels = true) (hbase : AbortBase s v)
    (htrip : v.gu.tripNotice = none) (hretiring : Retiring v) (r : Reason) :
    Aborted o r s (settle (enterStopping o r v)) := by
  have htracking := enterStopping_tracking htrip hretiring o r
  obtain ⟨hsu, hos, hgu, htb, _⟩ := htracking.settle_parts
  obtain ⟨los, lgu⟩ := enterStopping_levels ho r v
  obtain ⟨bos, bgu⟩ := osEndLevels_congr hbase.os hbase.gu (congrArg Timebase.tl hbase.tb)
  refine ⟨?_, hos.trans (los.trans bos), hgu.trans (lgu.trans bgu), htb.trans ?_, ?_, ?_, ?_, ?_, fun hopen =>
    settle_enterStopping_closed htrip hretiring (hbase.opened.trans hopen) o r⟩
  · rw [hsu, enterStopping_su]
    exact hbase.su o r
  · simpa using hbase.tb
  · simpa using hbase.cx
  · simpa using hbase.pins
  · simpa using hbase.resetAsserted
  · simpa using hbase.pending

/-- What an abort counts, beside what the event has offered before it. -/
theorem aborted_counted {n : Nat} {s v : State} (hcounted : Counted n 0 0 s v) (htrip : v.gu.tripNotice = none)
    (hretiring : Retiring v) (hclose : CloseAsked v) (o : ProgramOutcome) (r : Reason) :
    OffersCountedWith n s (settle (enterStopping o r v)) := by
  obtain ⟨k, hk, hstopped⟩ := enterStopping_counted o r v
  have hsettled := (enterStopping_tracking htrip hretiring o r).settle_counts (enterStopping_closeAsked hclose o r)
  have hall := (hcounted.trans hstopped).then hsettled
  rw [Nat.zero_add] at hall
  exact hall.with hk (Nat.zero_le _)

theorem aborted_cp {v : State} (htrip : v.gu.tripNotice = none) (hretiring : Retiring v) (hclose : CloseAsked v)
    (o : ProgramOutcome) (r : Reason) : (settle (enterStopping o r v)).cp = v.cp := by
  rw [((enterStopping_tracking htrip hretiring o r).settle_kept (enterStopping_closeAsked hclose o r)).1]
  simp

theorem enterStopping_fifo (o : ProgramOutcome) (r : Reason) (s : State) :
    s.jw.fifo <+: (enterStopping o r s).jw.fifo := (fifo_grows _).enterStopping o r s (List.prefix_refl _)

theorem aborted_fifo (o : ProgramOutcome) (r : Reason) (s : State) :
    s.jw.fifo <+: (settle (enterStopping o r s)).jw.fifo :=
  (enterStopping_fifo o r s).trans (settle_fifo_grows _)

/-- What is pending before an abort is pending at the end of its event. -/
theorem aborted_pending {c : Cause} {s : State} (h : pendingCause c s = true) (o : ProgramOutcome) (r : Reason) :
    pendingCause c (settle (enterStopping o r s)) = true :=
  settle_pending ((cause_stays c).enterStopping o r s h)

/-! ## The end of retirement (R30, R95) -/

/-- The event stops a FU that tracks no strip, under a program in STOPPING. -/
structure Finishing (u : State) : Prop where
  trip : u.gu.tripNotice = none
  stopped : u.fu.state = .stopped
  empty : u.fu.table = []
  stopping : u.su.program = .stopping

/-- The state in which the program's end is taken: the FU IDLE, its notice taken. -/
def finished (u : State) : State :=
  { u with fu := { u.fu with table := [], state := .idle, doneNotice := none } }

/-- The trip notice of a program that is not active leaves the bus. -/
theorem deliverTrip_bp {s : State} (h : s.su.program.active = false) : (deliverTrip s).bp = s.bp := by
  unfold deliverTrip
  split
  · rfl
  · dsimp only
    split <;> rw [takeTripAbort_inactive (by simpa using h)] <;> simp

theorem programEnd_inactive (b : Bool) (s : State) : (programEnd b s).su.program.active = false := by
  rw [programEnd_program]; rfl

theorem Finishing.takeNotices {u : State} (h : Finishing u) :
    takeNotices u = deliverTrip (programEnd u.fu.abandoned (finished u)) := by
  obtain ⟨htrip, hstopped, hempty, hstopping⟩ := h
  have hmarked : u.fu.markReady = { u.fu with table := [] } := by
    rw [FetchUnit.markReady, hempty]; rfl
  have hevaluated : Machine.fuEvaluate u =
      { u with fu := { u.fu with table := [], state := .idle, doneNotice := some u.fu.abandoned } } := by
    rw [Machine.fuEvaluate, hmarked, FetchUnit.finish, if_pos ⟨hstopped, rfl⟩]
  have hended : Machine.takeRetirementDone
      { u with fu := { u.fu with table := [], state := .idle, doneNotice := some u.fu.abandoned } } =
        programEnd u.fu.abandoned (finished u) := if_pos hstopping
  have hinactive := programEnd_inactive u.fu.abandoned (finished u)
  have hidle : (deliverTrip (programEnd u.fu.abandoned (finished u))).su.program ≠ .running := by
    rw [(deliverTrip_inactive hinactive).1, programEnd_program]; decide
  rw [Machine.takeNotices, deliverTrip_none htrip, hevaluated, hended, reportStarved_of_not_running hidle]

theorem programEnd_pending (b : Bool) (s : State) : pendingCause .programEnd (programEnd b s) = true := by
  have hended : pendingCause .programEnd (programEnded b s) = true :=
    (cause_stays .programEnd).completeStop _ _ (raise_pending .programEnd _)
  rw [programEnd_eq]
  split
  · exact (cause_stays .programEnd).deliverLimits _ _ hended
  · exact hended

theorem applyStaged_of_none {s : State} (h : s.cp.staged = none) : applyStaged s = s := by
  unfold applyStaged
  rw [h]

section
variable {u : State} (h : Finishing u)
include h

theorem Finishing.settle_parts :
    (settle u).su = { u.su with program := .idle, retireIncomplete := u.fu.abandoned } ∧ (settle u).fu.state = .idle ∧
      (settle u).fu.table = [] ∧ pendingCause .programEnd (settle u) = true := by
  obtain ⟨hsu, hfu⟩ := deliverTrip_inactive (programEnd_inactive u.fu.abandoned (finished u))
  have hended : (programEnd u.fu.abandoned (finished u)).fu = (finished u).fu := by simp
  have hpending := (cause_stays .programEnd).deliverTrip _ (programEnd_pending u.fu.abandoned (finished u))
  refine ⟨?_, ?_, ?_, ?_⟩
  · rw [settle, h.takeNotices, (pump_frame _).2.1, hsu, programEnd_su]
    rfl
  · rw [settle, h.takeNotices, (pump_fu _).2.1, hfu, hended]
    rfl
  · rw [settle, h.takeNotices, (pump_fu _).1, hfu, hended]
    rfl
  · rw [settle, h.takeNotices]
    exact pump_pending hpending

/-- With no block staged the program's own part of its end is all there is. -/
theorem Finishing.settle_of_none (hstaged : u.cp.staged = none) :
    settle u = pump (programEnded u.fu.abandoned (finished u)) := by
  have hnone : (finished u).cp.staged = none := hstaged
  have hended : programEnd u.fu.abandoned (finished u) = programEnded u.fu.abandoned (finished u) := by
    rw [programEnd_eq, if_neg (by rw [hnone]; decide)]
  have htrip : (programEnded u.fu.abandoned (finished u)).gu.tripNotice = none := by
    rw [(programEnded_parts _ _).1]
    exact h.trip
  rw [settle, h.takeNotices, hended, deliverTrip_none htrip]

theorem Finishing.settle_steady (hstaged : u.cp.staged = none) :
    (settle u).tb = u.tb ∧ (settle u).os = u.os ∧ (settle u).gu = u.gu := by
  obtain ⟨hgu, hos, htb⟩ := programEnded_parts u.fu.abandoned (finished u)
  rw [h.settle_of_none hstaged, (pump_frame _).1, (pump_frame _).2.2.1, (pump_frame _).2.2.2.1, hgu, hos, htb]
  exact ⟨rfl, rfl, rfl⟩

end

theorem programEnded_of_none {s : State} (hstaged : s.cp.staged = none) (b : Bool) :
    (programEnded b s).cp =
        (if inProgressIs stopCode s then { s.cp with inProgress := none, lastResult := stopResult b } else s.cp) ∧
      (programEnded b s).jw = s.jw.offer
        (endedRecord { s with su := { s.su with program := .idle, retireIncomplete := b } } b) ∧
        (programEnded b s).bp = s.bp := by
  unfold programEnded
  rw [applyStaged_of_none (s := { s with su := { s.su with program := .idle, retireIncomplete := b } }) hstaged]
  dsimp only
  unfold completeStop
  by_cases hstop : inProgressIs stopCode s = true
  · rw [if_pos hstop, if_pos (by exact hstop)]
    exact ⟨rfl, rfl, rfl⟩
  · rw [if_neg hstop, if_neg (by exact hstop)]
    exact ⟨rfl, rfl, rfl⟩

theorem applyStaged_counted (s : State) : Counted (if s.cp.staged.isSome then 1 else 0) 0 0 s (applyStaged s) := by
  unfold applyStaged
  cases s.cp.staged with
  | some b => exact (offer_counts _ _).after (.of_eq rfl rfl)
  | none => exact .refl s

theorem completeStop_counted (b : Bool) (s : State) : Counted 0 0 0 s (completeStop b s) := by
  unfold completeStop
  split
  · exact complete_counted _ s
  · exact .refl s

/-- The records of a program's end: ENDED, and LIMITS if a block was staged. -/
theorem programEnded_counted (b : Bool) (s : State) :
    Counted (if s.cp.staged.isSome then 2 else 1) 0 0 s (programEnded b s) := by
  obtain ⟨n, hn⟩ : ∃ n, n = applyStaged { s with su := { s.su with program := .idle, retireIncomplete := b } } := ⟨_, rfl⟩
  have happlied := (applyStaged_counted { s with su := { s.su with program := .idle, retireIncomplete := b } }).after
    (Counted.of_eq (s := s) rfl rfl)
  have hended : programEnded b s = completeStop b (raise .programEnd (offer (endedRecord n b) n)) := by
    rw [hn]; rfl
  have hall := ((happlied.trans (by rw [← hn]; exact offer_counts (endedRecord n b) n)).then
    (raise_counted (c := .programEnd) _ (by decide))).then (completeStop_counted b _)
  rw [hended]
  by_cases hs : s.cp.staged.isSome = true
  · rw [if_pos hs]
    rwa [if_pos hs] at hall
  · rw [if_neg hs]
    rwa [if_neg hs] at hall

theorem programEnd_counted (b : Bool) (s : State) :
    ∃ e ≤ 4, Counted ((if s.cp.staged.isSome then 2 else 1) + e) 0 e s (programEnd b s) := by
  have hended := programEnded_counted b s
  rw [programEnd_eq]
  by_cases hstaged : s.cp.staged.isSome = true
  · rw [if_pos hstaged] at hended ⊢
    rw [if_pos hstaged]
    obtain ⟨e, he, hdelivered⟩ := deliverLimits_counted (programEnded b s).cp.active (programEnded b s)
    have hall := hended.trans hdelivered
    rw [Nat.zero_add e] at hall
    exact ⟨e, he, hall⟩
  · rw [if_neg hstaged] at hended ⊢
    rw [if_neg hstaged]
    exact ⟨0, Nat.zero_le _, hended⟩

theorem closeAsked_of_counted {n k e : Nat} {s t : State} (hs : CloseAsked s) (h : Counted n k e s t)
    (hbp : t.bp.outstanding .jw = s.bp.outstanding .jw) : CloseAsked t := fun hclosing =>
  hbp.trans (hs (h.state.symm.trans hclosing))

theorem Finishing.settle_counts {u : State} (h : Finishing u) (hclose : CloseAsked u) :
    ∃ e ≤ 4, Counted ((if u.cp.staged.isSome then 2 else 1) + e) 0 e u (settle u) := by
  have hfinished : Counted 0 0 0 u (finished u) := .of_eq rfl rfl
  obtain ⟨e, he, hended⟩ := programEnd_counted u.fu.abandoned (finished u)
  have hdelivered := (hended.after hfinished).then (deliverTrip_counted (programEnd_inactive _ _))
  refine ⟨e, he, ?_⟩
  rw [settle, h.takeNotices]
  refine hdelivered.then (pump_counted (closeAsked_of_counted hclose hdelivered ?_))
  rw [deliverTrip_bp (programEnd_inactive _ _)]
  simp [finished]

/-! ## A program that ends in the event that ends it (R30, R95) -/

theorem endedAtOnce_of_finishing {o : ProgramOutcome} {r : Reason} {s u : State} (h : Finishing u)
    (hsu : u.su = { s.su.stop o r with agenda := [] }) (habandoned : u.fu.abandoned = false) (hcx : u.cx = s.cx)
    (hpins : u.pins = s.pins) (hstaged : u.cp.staged = s.cp.staged) (htb : u.tb = s.tb)
    (hos : u.os = if o.changesLevels then (osEndLevels s).os else s.os) : EndedAtOnce o r s (settle u) := by
  obtain ⟨ksu, kstate, ktable, kcause⟩ := h.settle_parts
  refine ⟨?_, kstate, ktable, kcause, ?_, ?_, fun hnone => ?_⟩
  · rw [ksu, hsu, habandoned]
    rfl
  · simpa using hcx
  · simpa using hpins
  · obtain ⟨ktb, kos, _⟩ := h.settle_steady (hstaged.trans hnone)
    exact ⟨ktb.trans htb, kos.trans hos⟩

/-- An abort of an open program whose FU tracks no strip finishes its retirement. -/
theorem enterStopping_finishing {v : State} (htrip : v.gu.tripNotice = none) (h : Untracked v) (o : ProgramOutcome)
    (r : Reason) : Finishing (enterStopping o r v) := by
  obtain ⟨hfetching, hempty, _, _, hopen⟩ := h
  obtain ⟨_, _, hlength, hstate, _⟩ := abortedFetch_parts v
  refine ⟨by simpa using htrip, ?_, ?_, by simp [ScheduleUnit.stop]⟩
  · rw [enterStopping_fu, hstate hopen, FetchUnit.close, if_pos (.inl hfetching)]
  · rw [enterStopping_fu]
    exact List.length_eq_zero_iff.mp (hlength.trans (by rw [hempty]; rfl))

theorem enterStopping_os (o : ProgramOutcome) (r : Reason) (s : State) :
    (enterStopping o r s).os = if o.changesLevels then (osEndLevels s).os else s.os := by
  by_cases ho : o.changesLevels = true
  · rw [if_pos ho, (enterStopping_levels ho r s).1]
  · rw [if_neg ho, (enterStopping_steady (by simpa using ho) r s).1]

theorem endedAtOnce_of_base {s v : State} (hbase : AbortBase s v) (hstaged : v.cp.staged = s.cp.staged)
    (htrip : v.gu.tripNotice = none) (h : Untracked v) (o : ProgramOutcome) (r : Reason) :
    EndedAtOnce o r s (settle (enterStopping o r v)) := by
  have hfinishing := enterStopping_finishing htrip h o r
  obtain ⟨_, _, _, habandoned, _⟩ := h
  refine endedAtOnce_of_finishing hfinishing ?_ ?_ ?_ ?_ ?_ ?_ ?_
  · rw [enterStopping_su]
    exact hbase.su o r
  · rw [enterStopping_fu, (abortedFetch_parts v).2.1, habandoned]
  · simpa using hbase.cx
  · simpa using hbase.pins
  · simpa using hstaged
  · simpa using hbase.tb
  · rw [enterStopping_os, (osEndLevels_congr hbase.os hbase.gu (congrArg Timebase.tl hbase.tb)).1, hbase.os]

/-- What such an abort counts: the ENDED record, a LIMITS record if a block was staged, and what goes with them. -/
theorem endedAtOnce_counted {n : Nat} {s v : State} (hcounted : Counted n 0 0 s v) (hstaged : v.cp.staged = s.cp.staged)
    (htrip : v.gu.tripNotice = none) (h : Untracked v) (hclose : CloseAsked v) (o : ProgramOutcome) (r : Reason) :
    OffersCountedWith (n + if s.cp.staged.isSome then 2 else 1) s (settle (enterStopping o r v)) := by
  obtain ⟨k, hk, hstopped⟩ := enterStopping_counted o r v
  obtain ⟨e, he, hended⟩ := (enterStopping_finishing htrip h o r).settle_counts (enterStopping_closeAsked hclose o r)
  have hall := (hcounted.trans hstopped).trans hended
  have hsame : (enterStopping o r v).cp.staged = s.cp.staged := by simpa using hstaged
  rw [Nat.zero_add, Nat.add_zero, Nat.zero_add, hsame] at hall
  refine Counted.with (k := k) (e := e) ?_ hk he
  have hsum : n + k + ((if s.cp.staged.isSome then 2 else 1) + e) =
      n + (if s.cp.staged.isSome then 2 else 1) + k + e := by omega
  rwa [hsum] at hall

end Sys2Proof.Machine
end

/-! TIME_RANGE, WAIT_TIMEOUT and STOP_PROGRAM AT_ONCE: events that end a program (R60, R90, R91, R94, R95). -/
section
namespace Sys2Proof.Machine

theorem AbortBase.refl (s : State) : AbortBase s s := ⟨fun _ _ => rfl, rfl, rfl, rfl, rfl, rfl, rfl, rfl, rfl⟩

theorem suFault_of_active {s : State} (h : s.su.program = .running ∨ s.su.program = .draining) (r : Reason) :
    suFault r s = enterStopping .faulted r s := if_pos (by rcases h with h | h <;> rw [h] <;> rfl)

theorem suFault_of_inactive {s : State} (h : s.su.program = .idle ∨ s.su.program = .stopping) (r : Reason) :
    suFault r s = s := if_neg (by rcases h with h | h <;> rw [h] <;> decide)

/-! ## TIME_RANGE (R8, R91) -/

theorem exec_timeRange (s : State) : exec .timeRange s = .next (takeTimeRange s) := rfl

/-- The notice of the TB has been taken. -/
def rangeTaken (s : State) : State := { s with tb := { s.tb with timeRangeNotice := false } }

theorem takeTimeRange_of_notice {s : State} (h : s.tb.timeRangeNotice = true) :
    takeTimeRange s = settle (suFault .timeRange (rangeTaken s)) := if_pos h

/-- Settles O29: the fault aborts an active program, or finds none. -/
theorem timeRangeFaults : Obligations.TimeRangeFaults := by
  intro s
  simp only [exec_timeRange]
  refine ⟨fun hnone => next_congr (if_neg (by rw [hnone]; decide)), fun hnotice hquiet hrested => ?_⟩
  have htaken := takeTimeRange_of_notice hnotice
  have htrip : (rangeTaken s).gu.tripNotice = none := hquiet.tracking.trip
  have hclose : CloseAsked (rangeTaken s) := hrested.closeAsked
  refine ⟨fun hactive hretiring => ⟨_, rfl, ?_⟩, fun hrunning huntracked => ⟨_, rfl, ?_⟩, fun hinactive => next_congr ?_⟩
  · have hretained : Retiring (rangeTaken s) := hretiring
    rw [htaken, suFault_of_active (by exact hactive)]
    exact ⟨aborted_of_base rfl (AbortBase.refl _) htrip hretained _, aborted_cp htrip hretained hclose _ _⟩
  · rw [htaken, suFault_of_active (by exact .inl hrunning)]
    exact endedAtOnce_of_base (AbortBase.refl _) rfl htrip huntracked _ _
  · rw [htaken, suFault_of_inactive (by exact hinactive)]
    exact settle_of_between (hquiet.of_same ⟨rfl, rfl, rfl⟩) (hrested.undisturbed (.of_eq rfl rfl rfl rfl rfl))

/-! ## WAIT_TIMEOUT (R60) -/

theorem exec_waitTimeout (s : State) : exec .waitTimeout s = .next (takeWaitTimeout s) := rfl

theorem takeWaitTimeout_of_none {s : State} (h : s.su.waiter = none) : takeWaitTimeout s = s := by
  unfold takeWaitTimeout
  rw [h]

theorem takeWaitTimeout_of_early {s : State} {w : Waiter} (h : s.su.waiter = some w) (hearly : w.deadline ≠ some s.tb.pt) :
    takeWaitTimeout s = s := by
  unfold takeWaitTimeout
  rw [h]
  exact if_neg hearly

theorem takeWaitTimeout_of_due {s : State} {w : Waiter} (h : s.su.waiter = some w) (hdue : w.deadline = some s.tb.pt) :
    takeWaitTimeout s = settle (endWait w s) := by
  unfold takeWaitTimeout
  rw [h]
  exact if_pos hdue

/-- The TIMEOUT record is offered. -/
def timeoutReported (w : Waiter) (s : State) : State :=
  offer
    { kind := .wait, source := BitVec.ofNat 8 w.channel.val, flags := 0#8, stamp := s.tb.tl.setWidth 40, value1 := 1#32,
      value2 := s.tb.pt.setWidth 32 } s

/-- The waiter of an expired wait is disarmed. -/
def disarmed (s : State) : State := { s with su := { s.su with waiter := none } }

theorem endWait_of_stop {w : Waiter} (h : w.timeoutStop = true) (s : State) :
    endWait w s = suFault .waitTimeout (disarmed (timeoutReported w s)) := if_pos h

theorem endWait_of_continue {w : Waiter} (h : w.timeoutStop = false) (s : State) :
    endWait w s =
      { timeoutReported w s with su := { s.su with waiter := none, anchor := s.tb.pt, cursor := s.tb.pt } } :=
  if_neg (by rw [h]; decide)

theorem disarmed_counted (w : Waiter) (s : State) : Counted 1 0 0 s (disarmed (timeoutReported w s)) :=
  (offer_counts _ s).then (.of_eq rfl rfl)

theorem CloseAsked.offer {s : State} (h : CloseAsked s) (r : Record) : CloseAsked (offer r s) :=
  closeAsked_of_counted h (offer_counts r s) rfl

theorem offer_pendingCause {c : Cause} (r : Record) (s : State) (h : c ≠ .recordsLost) :
    pendingCause c (offer r s) = pendingCause c s := by
  dsimp only [pendingCause, offer, EventUnit.offer]
  split
  · split
    · rfl
    · rw [EventUnit.lose, if_neg (by decide), EventUnit.raise_getLsbD, decide_eq_false (Ne.symm h)]
      rfl
  · rfl

theorem timeoutReported_starved (w : Waiter) (s : State) :
    pendingCause .starved (timeoutReported w s) = pendingCause .starved s := offer_pendingCause _ s (by decide)

/-- Settles O37: a timeout goes on at PT, or ends the program. -/
theorem waitTimesOut : Obligations.WaitTimesOut := by
  intro s
  simp only [exec_waitTimeout]
  refine ⟨fun hnone => next_congr (takeWaitTimeout_of_none hnone), fun w hw =>
    ⟨fun hearly => next_congr (takeWaitTimeout_of_early hw hearly), fun hdue hquiet hrested => ?_⟩⟩
  have htaken := takeWaitTimeout_of_due hw hdue
  have htrip : (disarmed (timeoutReported w s)).gu.tripNotice = none := hquiet.tracking.trip
  have hclose : CloseAsked (disarmed (timeoutReported w s)) := hrested.closeAsked.offer _
  have hbase : AbortBase s (disarmed (timeoutReported w s)) := ⟨fun _ _ => rfl, rfl, rfl, rfl, rfl, rfl, rfl, rfl, rfl⟩
  have hcounted := disarmed_counted w s
  refine ⟨fun hcontinue => ⟨_, rfl, ?_⟩, fun hstop hrunning hretiring => ⟨_, rfl, ?_⟩,
    fun hstop hrunning huntracked => ⟨_, rfl, ?_⟩⟩
  · rw [htaken, endWait_of_continue hcontinue]
    obtain ⟨u, hu⟩ : ∃ u : State, u = { timeoutReported w s with
        su := { s.su with waiter := none, anchor := s.tb.pt, cursor := s.tb.pt } } := ⟨_, rfl⟩
    have hreported : Counted 1 0 0 s u := by
      rw [hu]
      exact (offer_counts _ s).then (.of_eq rfl rfl)
    have htracking : Tracking u := by
      obtain ⟨qtrip, qtracked, qdone⟩ := hquiet.tracking
      rw [hu]
      exact ⟨qtrip, qtracked, qdone⟩
    have hasked : CloseAsked u := by
      rw [hu]
      exact hrested.closeAsked.offer _
    obtain ⟨ksu, kos, kgu, ktb, _⟩ := htracking.settle_parts
    rw [← hu]
    refine ⟨ksu.trans (by rw [hu]), htracking.settle_fifo.trans (by rw [hu]; rfl),
      htracking.settle_counted hasked hreported.offers, htracking.settle_starved ?_ (by rw [hu]; rfl),
      kos.trans (by rw [hu]; rfl), kgu.trans (by rw [hu]; rfl), ktb.trans (by rw [hu]; rfl), ?_,
      (htracking.settle_kept hasked).1.trans (by rw [hu]; rfl), ?_⟩
    · rw [hu]
      exact timeoutReported_starved w s
    · simp [hu, timeoutReported]
    · simp [hu, timeoutReported]
  · have hretained : Retiring (disarmed (timeoutReported w s)) := hretiring
    rw [htaken, endWait_of_stop hstop, suFault_of_active (by exact .inl hrunning)]
    exact ⟨aborted_of_base rfl hbase htrip hretained _, aborted_cp htrip hretained hclose _ _, aborted_fifo .faulted .waitTimeout (disarmed (timeoutReported w s)),
      aborted_counted hcounted htrip hretained hclose _ _⟩
  · rw [htaken, endWait_of_stop hstop, suFault_of_active (by exact .inl hrunning)]
    have hended := endedAtOnce_counted hcounted rfl htrip huntracked hclose .faulted .waitTimeout
    refine ⟨endedAtOnce_of_base hbase rfl htrip huntracked _ _, aborted_fifo .faulted .waitTimeout (disarmed (timeoutReported w s)), ?_⟩
    by_cases hstaged : s.cp.staged.isSome = true
    · rw [if_pos hstaged] at hended ⊢
      exact hended
    · rw [if_neg hstaged] at hended ⊢
      exact hended

/-! ## Entries discarded by slot (R80) -/

theorem insertEntry_perm (e : Entry) (l : List Entry) : (insertEntry e l).Perm (e :: l) := by
  induction l with
  | nil => exact .refl _
  | cons x l ih =>
    unfold insertEntry
    split
    · exact .refl _
    · exact (ih.cons x).trans (.swap e x l)

/-- The order of the agenda is an order of its entries. -/
theorem agendaOrder_perm (l : List Entry) : (agendaOrder l).Perm l := by
  induction l with
  | nil => exact .refl _
  | cons e l ih => exact (insertEntry_perm e _).trans (ih.cons e)

/-- The entries of a slot in a list. -/
def entriesOf (n : Fin 8) (l : List Entry) : Nat := (l.filter fun e => e.slot == n).length

theorem entriesOf_agendaOrder (n : Fin 8) (l : List Entry) : entriesOf n (agendaOrder l) = entriesOf n l :=
  ((agendaOrder_perm l).filter _).length_eq

/-- What the discard of a list of entries makes of a slot that is not RETIRE_READY (R26, R80). -/
def Slot.discarded (l : List Entry) (sl : Slot) : Slot :=
  { sl with
    outstanding := sl.outstanding - entriesOf sl.number l
    entryDiscarded := sl.entryDiscarded || decide (0 < entriesOf sl.number l) }

theorem entriesOf_cons (n : Fin 8) (e : Entry) (l : List Entry) :
    entriesOf n (e :: l) = entriesOf n l + if e.slot = n then 1 else 0 := by
  unfold entriesOf
  by_cases h : e.slot = n <;> simp [h]

/-- The release of one entry, in the slot of an index. -/
theorem released_getElem? (n : Fin 8) (d : Bool) (f : FetchUnit) (i : Nat) :
    (f.released n d).table[i]? = (f.table[i]?).map (Slot.onNotice n fun sl =>
      { sl with outstanding := sl.outstanding - 1, entryDiscarded := sl.entryDiscarded || d }) := List.getElem?_map

theorem foldl_released_getElem? {l : List Entry} {f : FetchUnit} {i : Nat} {sl : Slot} (h : f.table[i]? = some sl)
    (hready : sl.state ≠ .retireReady) :
    (l.foldl (fun f e => f.released e.slot true) f).table[i]? = some (sl.discarded l) := by
  induction l generalizing f sl with
  | nil => simpa [Slot.discarded, entriesOf] using h
  | cons e l ih =>
    have hnext := released_getElem? e.slot true f i
    rw [h, Option.map_some, Slot.onNotice] at hnext
    by_cases hslot : sl.number = e.slot
    · rw [if_pos ⟨hslot, hready⟩] at hnext
      refine (ih hnext hready).trans ?_
      simp [Slot.discarded, entriesOf_cons, hslot, Nat.sub_sub, Nat.add_comm]
    · rw [if_neg fun h => hslot h.1] at hnext
      refine (ih hnext hready).trans ?_
      simp [Slot.discarded, entriesOf_cons, Ne.symm hslot]

/-! ## STOP_PROGRAM AT_ONCE (R90, R94) -/

/-- A slot of a stopped unit with nothing outstanding becomes RETIRE_READY with its outcome (R27, R28). -/
theorem markReady_getElem?_of_stopped {f : FetchUnit} (hstopped : f.state = .stopped) {i : Nat} {sl : Slot}
    (h : f.table[i]? = some sl) (hready : sl.state ≠ .retireReady) (hdone : sl.outstanding = 0) :
    f.markReady.table[i]? = some sl.makeReady := by
  have hretirable : f.retirable sl = true := by
    simp [FetchUnit.retirable, FetchUnit.isTail, hstopped, hready, hdone]
  have hmapped : f.markReady.table[i]? =
      (f.table[i]?).map fun sl => if f.retirable sl then sl.makeReady else sl := List.getElem?_map
  rw [hmapped, h, Option.map_some, if_pos hretirable]

/-- The FU of an abort is stopped when it was fetching for an open program, or stopped already. -/
theorem abortedFetch_stopped {s : State}
    (h : (s.su.admissionOpen = true ∧ (s.fu.state = .fetching ∨ s.fu.state = .watching)) ∨ s.fu.state = .stopped) :
    (abortedFetch s).state = .stopped := by
  obtain ⟨_, _, _, hopened, hclosed⟩ := abortedFetch_parts s
  have hstays : s.fu.state = .stopped → s.fu.close.state = .stopped := fun hst => by
    rw [FetchUnit.close, if_neg (by rw [hst]; decide)]
    exact hst
  rcases h with ⟨hopen, hfetching⟩ | hstopped
  · rw [hopened hopen, FetchUnit.close, if_pos hfetching]
  · by_cases hopen : s.su.admissionOpen = true
    · rw [hopened hopen]
      exact hstays hstopped
    · rw [hclosed (by simpa using hopen)]
      exact hstopped

/-- The slot at an index after the discard of the agenda. -/
theorem abortedFetch_getElem? {s : State} {i : Nat} {sl : Slot} (h : s.fu.table[i]? = some sl)
    (hready : sl.state ≠ .retireReady) : (abortedFetch s).table[i]? = some (sl.discarded (agendaOrder s.su.agenda)) := by
  refine foldl_released_getElem? ?_ hready
  split
  · rw [(close_parts s.fu).2.2.2.2]
    exact h
  · exact h

/-- The outcome of a slot all of whose entries the abort discards. -/
theorem discarded_makeReady {sl : Slot} {l : List Entry} (h : entriesOf sl.number l = sl.outstanding) :
    (sl.discarded l).outstanding = 0 ∧ (sl.discarded l).makeReady.state = .retireReady ∧
      (sl.discarded l).makeReady.outcome = some (if sl.outstanding = 0 ∧ sl.entryDiscarded = false ∧
        (sl.stepsAdmitted = sl.stepCount.toNat ∨ sl.endAdmitted = true) then .played else .cut) := by
  refine ⟨?_, rfl, congrArg some ?_⟩
  · simp [Slot.discarded, h]
  · unfold Slot.fixedOutcome Slot.discarded
    rw [h]
    by_cases hzero : sl.outstanding = 0
    · cases hd : sl.entryDiscarded <;> simp [hzero]
    · simp [hzero, Nat.pos_of_ne_zero hzero]

theorem inProgressIs_portTaken (code : Byte) (op : Half) (s : State) : inProgressIs code (portTaken code op s) = true :=
  beq_iff_eq.mpr rfl

/-- Settles O20: the abort of an accepted AT_ONCE. -/
theorem stopAtOnceAccepted : Obligations.StopAtOnceAccepted := by
  intro s hready hquiet hrested hactive
  rw [exec_stopProgramAtOnce_of_ready hready, takeStopAtOnce_of_active (by exact hactive)]
  have hbase : AbortBase s (portTaken 4#8 2#16 s) := ⟨fun _ _ => rfl, rfl, rfl, rfl, rfl, rfl, rfl, rfl, rfl⟩
  have htrip : (portTaken 4#8 2#16 s).gu.tripNotice = none := hquiet.tracking.trip
  have hclose : CloseAsked (portTaken 4#8 2#16 s) := hrested.closeAsked
  refine ⟨fun hretiring => ?_, fun huntracked => ?_⟩
  · have hretained : Retiring (portTaken 4#8 2#16 s) := hretiring
    have htable := (enterStopping_tracking htrip hretained .stopped .none).settle_table.1
    rw [enterStopping_fu] at htable
    refine ⟨_, rfl, aborted_of_base rfl hbase htrip hretained _, aborted_cp htrip hretained hclose _ _,
      fun hfetch i sl hslot hfresh hcount => ?_⟩
    have hentries : entriesOf sl.number (agendaOrder s.su.agenda) = sl.outstanding :=
      (entriesOf_agendaOrder _ _).trans hcount
    obtain ⟨hdone, hstate, houtcome⟩ := discarded_makeReady hentries
    have hfound := abortedFetch_getElem? (s := portTaken 4#8 2#16 s) hslot hfresh
    have hmarked := markReady_getElem?_of_stopped (abortedFetch_stopped (s := portTaken 4#8 2#16 s) hfetch) hfound
      hfresh hdone
    exact ⟨_, by rw [htable]; exact hmarked, hstate, houtcome⟩
  · refine ⟨_, rfl, endedAtOnce_of_base hbase rfl htrip huntracked _ _, fun hstaged => ?_⟩
    have hfinishing := enterStopping_finishing htrip huntracked .stopped .none
    have hnone : (enterStopping .stopped .none (portTaken 4#8 2#16 s)).cp.staged = none := by
      simpa using show (portTaken 4#8 2#16 s).cp.staged = none from hstaged
    obtain ⟨u, hu⟩ : ∃ u, u = finished (enterStopping .stopped .none (portTaken 4#8 2#16 s)) := ⟨_, rfl⟩
    have hcp : u.cp = (portTaken 4#8 2#16 s).cp := by simp [hu, finished]
    have habandoned : (enterStopping .stopped .none (portTaken 4#8 2#16 s)).fu.abandoned = false := by
      rw [enterStopping_fu, (abortedFetch_parts _).2.1]
      exact huntracked.2.2.2.1
    obtain ⟨kcp, _, kbp⟩ := programEnded_of_none (s := u) (by rw [hcp]; exact hstaged) false
    have hcounted := programEnded_counted false u
    have hasked : CloseAsked u := by
      rw [hu]
      exact enterStopping_closeAsked hclose _ _
    have hstop : inProgressIs stopCode u = true := by
      rw [inProgressIs, hcp]
      exact inProgressIs_portTaken 4#8 2#16 s
    rw [hfinishing.settle_of_none hnone, habandoned, ← hu,
      (pump_kept (closeAsked_of_counted hasked hcounted (by rw [kbp]))).1, kcp, if_pos hstop, hcp]
    rfl

end Sys2Proof.Machine
end

/-! STOP_PROGRAM DRAIN of a running program (R88, R89, R30). -/
section
namespace Sys2Proof.Machine

/-! ## Reads marked for discard (R30) -/

/-- Every read of the FU on the bus, waiting or in flight, is marked for discard. -/
def ReadsDiscarded (b : BusPort) : Prop :=
  ∀ t : Transfer, (b.jw = some t ∨ b.fu = some t ∨ b.cp = some t ∨ ∃ f, b.inFlight = some f ∧ f.transfer = t) →
    t.kind.isFetchRead = true → t.discard = true

theorem Transfer.discardIf_marked (t : Transfer) (h : (t.discardIf TransferKind.isFetchRead).kind.isFetchRead = true) :
    (t.discardIf TransferKind.isFetchRead).discard = true :=
  (Bool.or_eq_true _ _).mpr (.inr h)

theorem discardIf_readsDiscarded (b : BusPort) : ReadsDiscarded (b.discardIf TransferKind.isFetchRead) := by
  have hmapped {o : Option Transfer} {t : Transfer} (h : o.map (Transfer.discardIf TransferKind.isFetchRead) = some t)
      (hread : t.kind.isFetchRead = true) : t.discard = true := by
    obtain ⟨t', _, rfl⟩ := Option.map_eq_some_iff.mp h
    exact t'.discardIf_marked hread
  rintro t (h | h | h | ⟨f, h, rfl⟩) hread
  · exact hmapped h hread
  · exact hmapped h hread
  · exact hmapped h hread
  · obtain ⟨f', _, rfl⟩ := Option.map_eq_some_iff.mp h
    exact f'.transfer.discardIf_marked hread

theorem ReadsDiscarded.grant {b : BusPort} (h : ReadsDiscarded b) : ReadsDiscarded b.grant := by
  have hstart {t : Transfer} {f : Flight} (hf : some (Flight.start t) = some f) : f.transfer = t := by
    cases hf; rfl
  rcases b.grant_cases with hsame | ⟨_, ⟨t, ht, hg⟩ | ⟨t, ht, hg⟩ | ⟨t, ht, hg⟩⟩
  · rwa [hsame]
  all_goals
    rw [hg]
    rintro x (hx | hx | hx | ⟨f, hf, rfl⟩)
  · cases hx
  · exact h x (.inr (.inl hx))
  · exact h x (.inr (.inr (.inl hx)))
  · exact h _ (.inl (by rw [hstart hf]; exact ht))
  · exact h x (.inl hx)
  · cases hx
  · exact h x (.inr (.inr (.inl hx)))
  · exact h _ (.inr (.inl (by rw [hstart hf]; exact ht)))
  · exact h x (.inl hx)
  · exact h x (.inr (.inl hx))
  · cases hx
  · exact h _ (.inr (.inr (.inl (by rw [hstart hf]; exact ht))))

/-- A closed FU asks for a retire write at most. -/
theorem fuPump_of_closed {s : State} (h : s.fu.state ≠ .fetching ∧ s.fu.state ≠ .watching) :
    fuPump s = s ∨ ∃ sl, fuPump s = requestRetire sl s := by
  have hread : requestRead s = s := by
    unfold requestRead
    split
    next hst => exact absurd hst h.1
    next hst => exact absurd hst h.2
    next => rfl
    next => rfl
  unfold fuPump
  split
  · exact .inl rfl
  · split
    next sl _ _ =>
      split
      · exact .inr ⟨sl, rfl⟩
      · exact .inl hread
    next => exact .inl hread

theorem ReadsDiscarded.fuPump {s : State} (h : ReadsDiscarded s.bp) (hclosed : s.fu.state ≠ .fetching ∧ s.fu.state ≠ .watching) :
    ReadsDiscarded (fuPump s).bp := by
  rcases fuPump_of_closed hclosed with hsame | ⟨sl, hretire⟩
  · rwa [hsame]
  · rw [hretire]
    rintro t (ht | ht | ht | hf) hread
    · exact h t (.inl ht) hread
    · cases ht
      cases hread
    · exact h t (.inr (.inr (.inl ht))) hread
    · exact h t (.inr (.inr (.inr hf))) hread

/-! ## The program in DRAINING (R88) -/

/-- Notices of a DRAINING program: the FU judges its slots, and may finish, but the program goes on. -/
theorem takeNotices_of_draining {u : State} (htrip : u.gu.tripNotice = none) (hdraining : u.su.program = .draining) :
    takeNotices u = fuEvaluate u := by
  have hprogram : (fuEvaluate u).su.program = .draining := by simpa using hdraining
  have hdone : takeRetirementDone (fuEvaluate u) = fuEvaluate u :=
    takeRetirementDone_of_none fun h => by rw [hprogram] at h; cases h
  have hquietTrip : (fuEvaluate u).gu.tripNotice = none := by simpa using htrip
  rw [takeNotices, deliverTrip_none htrip, hdone, deliverTrip_none hquietTrip,
    reportStarved_of_not_running (by rw [hprogram]; decide)]

/-- The state of an accepted DRAIN before its end of event. -/
def drained (s : State) : State :=
  complete .ok { closeAdmission s with
    su := { (closeAdmission s).su with program := .draining, outcome := .drained, reason := .none } }

theorem drainProgram_eq (s : State) : drainProgram s = settle (drainEnd (drained s)) := rfl

theorem drained_closed (s : State) : (drained s).fu.state ≠ .fetching ∧ (drained s).fu.state ≠ .watching :=
  ⟨(close_parts s.fu).1, (close_parts s.fu).2.1⟩

theorem finish_closed {f : FetchUnit} (h : f.state ≠ .fetching ∧ f.state ≠ .watching) :
    f.finish.state ≠ .fetching ∧ f.finish.state ≠ .watching := by
  unfold FetchUnit.finish
  split
  · exact ⟨nofun, nofun⟩
  · exact h

theorem drained_jwPump {s : State} (hrested : Rested s) {u : State} (hjw : u.jw = s.jw) (hbp : s.bp.Alike u.bp) :
    jwPump u = u :=
  jwPump_of_rests (hrested.jwRests.of_same (by rw [hjw]; exact id) (hbp.outstanding .jw))

/-- The event of a DRAIN under which entries wait. -/
theorem drained_waits {s : State} (hquiet : Quiet s) (hrested : Rested s) (hagenda : s.su.agenda ≠ []) :
    let t := drainProgram (portTaken 4#8 1#16 s)
    t.cp = (answered 4#8 1#16 .ok s).cp ∧
      t.su = { s.su with program := .draining, outcome := .drained, reason := .none, admissionOpen := false, queue := [],
                         waiter := none } ∧
        t.fu.state ≠ .fetching ∧ t.fu.state ≠ .watching ∧ ReadsDiscarded t.bp ∧
            t.jw.fifo = s.jw.fifo ∧ t.os = s.os ∧ t.gu = s.gu ∧ t.tb = s.tb := by
  obtain ⟨u, hu⟩ : ∃ u, u = drained (portTaken 4#8 1#16 s) := ⟨_, rfl⟩
  have htrip : u.gu.tripNotice = none := by rw [hu]; exact hquiet.tracking.trip
  have hdraining : u.su.program = .draining := by rw [hu]; rfl
  have hwaits : drainEnd u = u := if_neg fun h => hagenda (by rw [hu] at h; exact h.2)
  have hsettled : drainProgram (portTaken 4#8 1#16 s) = pump (fuEvaluate u) := by
    rw [drainProgram_eq, ← hu, hwaits, settle, takeNotices_of_draining htrip hdraining]
  have hjw : u.jw = s.jw := by rw [hu]; rfl
  have hbp : u.bp = s.bp.discardIf TransferKind.isFetchRead := by rw [hu]; rfl
  have halike : s.bp.Alike u.bp := by rw [hbp]; exact s.bp.discardIf_alike _
  have hclosed : (fuEvaluate u).fu.state ≠ .fetching ∧ (fuEvaluate u).fu.state ≠ .watching := by
    have hdrained := drained_closed (portTaken 4#8 1#16 s)
    rw [← hu] at hdrained
    exact finish_closed (f := u.fu.markReady) hdrained
  have hstill : jwPump (fuEvaluate u) = fuEvaluate u :=
    drained_jwPump hrested (u := fuEvaluate u) (by simpa using hjw) (by simpa using halike)
  have hmarked : ReadsDiscarded (fuEvaluate u).bp := by
    have hevaluated : (fuEvaluate u).bp = u.bp := by simp
    rw [hevaluated, hbp]
    exact discardIf_readsDiscarded _
  have hpumped : pump (fuEvaluate u) = grant (fuPump (fuEvaluate u)) := by rw [pump, hstill]
  have hcp : u.cp = (answered 4#8 1#16 .ok s).cp := by
    rw [hu]
    exact (congrArg State.cp (complete_portTaken 4#8 1#16 .ok s) :)
  dsimp only
  rw [hsettled]
  refine ⟨?_, ?_, ?_, ?_, ?_, ?_, ?_, ?_, ?_⟩
  · rw [hpumped]
    simpa using hcp
  · simp [hu, drained, closeAdmission, fuAdmissionClosed, portTaken]
  · rw [(pump_fu _).2.1]; exact hclosed.1
  · rw [(pump_fu _).2.1]; exact hclosed.2
  · rw [hpumped]
    exact (hmarked.fuPump hclosed).grant
  · rw [pump_fifo]; simp [hjw]
  · simp [hu, drained, closeAdmission, fuAdmissionClosed, portTaken]
  · simp [hu, drained, closeAdmission, fuAdmissionClosed, portTaken]
  · simp [hu, drained, closeAdmission, fuAdmissionClosed, portTaken]

/-- With an empty agenda the drain is the end of the program. -/
theorem drainEnd_drained {s : State} (h : s.su.agenda = []) : drainEnd (drained s) = enterStopping .drained .none (drained s) :=
  if_pos ⟨rfl, h⟩

/-- The FU of a drained program with an empty agenda: closed, and nothing released. -/
theorem abortedFetch_drained {s : State} (h : s.su.agenda = []) : abortedFetch (drained s) = s.fu.close := by
  have hempty : (drained s).su.agenda = [] := h
  rw [abortedFetch, hempty]
  rfl

/-- The event of a DRAIN under which no entry waits and the FU tracks strips. -/
theorem drained_stops {s : State} (hquiet : Quiet s) (hrested : Rested s) (hagenda : s.su.agenda = [])
    (hretiring : Retiring s) :
    let t := drainProgram (portTaken 4#8 1#16 s)
    t.cp = (answered 4#8 1#16 .ok s).cp ∧
      t.su = { s.su with program := .stopping, outcome := .drained, reason := .none, admissionOpen := false,
                         queue := [], waiter := none } ∧
        t.fu.state ≠ .fetching ∧ t.fu.state ≠ .watching ∧ t.jw.fifo = s.jw.fifo ∧ t.os = s.os ∧ t.gu = s.gu ∧
          t.tb = s.tb := by
  obtain ⟨v, hv⟩ : ∃ v, v = drained (portTaken 4#8 1#16 s) := ⟨_, rfl⟩
  have hsettled : drainProgram (portTaken 4#8 1#16 s) = settle (enterStopping .drained .none v) := by
    rw [drainProgram_eq, drainEnd_drained (by exact hagenda), hv]
  have htrip : v.gu.tripNotice = none := by rw [hv]; exact hquiet.tracking.trip
  obtain ⟨_, _, kdone, _, ktable⟩ := close_parts s.fu
  have hretained : Retiring v := by
    rw [hv]
    exact ⟨fun h => hretiring.1 (ktable.symm.trans h), kdone.trans hretiring.2⟩
  have hclose : CloseAsked v := by
    rw [hv]
    exact hrested.closeAsked.congr rfl ((s.bp.discardIf_alike _).outstanding .jw)
  have htracking := enterStopping_tracking htrip hretained .drained .none
  obtain ⟨hsu, hos, hgu, htb, _⟩ := htracking.settle_parts
  obtain ⟨los, lgu, _, ljw⟩ := enterStopping_steady (o := .drained) rfl .none v
  have hstate := htracking.settle_table.2
  rw [enterStopping_fu, hv, abortedFetch_drained (by exact hagenda)] at hstate
  rw [← hv] at hstate
  dsimp only
  rw [hsettled]
  refine ⟨?_, ?_, ?_, ?_, ?_, ?_, ?_, ?_⟩
  · rw [aborted_cp htrip hretained hclose, hv]
    exact (congrArg State.cp (complete_portTaken 4#8 1#16 .ok s) :)
  · rw [hsu, enterStopping_su, hv]
    simp [ScheduleUnit.stop, drained, closeAdmission, fuAdmissionClosed, portTaken, hagenda]
  · rw [hstate]; exact (close_parts s.fu).1
  · rw [hstate]; exact (close_parts s.fu).2.1
  · rw [htracking.settle_fifo, ljw, hv]; rfl
  · rw [hos, los, hv]; rfl
  · rw [hgu, lgu, hv]; rfl
  · rw [htb, hv]
    simp [drained, closeAdmission, fuAdmissionClosed, portTaken]

/-- The event of a DRAIN under which no entry waits and the FU tracks no strip. -/
theorem drained_ends {s : State} (hquiet : Quiet s) (hrested : Rested s) (hagenda : s.su.agenda = [])
    (huntracked : Untracked s) :
    EndedAtOnce .drained .none s (drainProgram (portTaken 4#8 1#16 s)) ∧
      (s.cp.staged = none → (drainProgram (portTaken 4#8 1#16 s)).cp = (answered 4#8 1#16 .ok s).cp) := by
  obtain ⟨v, hv⟩ : ∃ v, v = drained (portTaken 4#8 1#16 s) := ⟨_, rfl⟩
  obtain ⟨u, hu⟩ : ∃ u, u = enterStopping .drained .none v := ⟨_, rfl⟩
  obtain ⟨hfetching, hempty, _, habandoned, _⟩ := huntracked
  have hsettled : drainProgram (portTaken 4#8 1#16 s) = settle u := by
    rw [drainProgram_eq, drainEnd_drained (by exact hagenda), hu, hv]
  have hcp : u.cp = (answered 4#8 1#16 .ok s).cp := by
    rw [hu, hv]
    exact (enterStopping_frame _ _ _).2.2.1.trans (congrArg State.cp (complete_portTaken 4#8 1#16 .ok s) :)
  have hfu : u.fu = s.fu.close := by
    rw [hu, enterStopping_fu, hv, abortedFetch_drained (by exact hagenda)]
    rfl
  obtain ⟨_, _, _, kabandoned, ktable⟩ := close_parts s.fu
  have hfinishing : Finishing u := by
    refine ⟨?_, ?_, ?_, ?_⟩
    · rw [hu, (enterStopping_trip _ _ _).1, hv]; exact hquiet.tracking.trip
    · rw [hfu, FetchUnit.close, if_pos (.inl hfetching)]
    · rw [hfu, ktable, hempty]
    · rw [hu, enterStopping_su]; rfl
  have hasked : CloseAsked u := by
    have hclose : CloseAsked v := by
      rw [hv]
      exact hrested.closeAsked.congr rfl ((s.bp.discardIf_alike _).outstanding .jw)
    rw [hu]
    exact enterStopping_closeAsked hclose _ _
  rw [hsettled]
  refine ⟨endedAtOnce_of_finishing hfinishing ?_ (by rw [hfu, kabandoned, habandoned]) ?_ ?_ (by rw [hcp]; rfl) ?_ ?_,
    fun hstaged => ?_⟩
  · rw [hu, enterStopping_su, hv]
    simp [ScheduleUnit.stop, drained, closeAdmission, fuAdmissionClosed, portTaken]
  · rw [hu, (enterStopping_frame _ _ _).2.1, hv]
    simp [drained, closeAdmission, fuAdmissionClosed, portTaken]
  · rw [hu, (enterStopping_frame _ _ _).2.2.2.1, hv]
    simp [drained, closeAdmission, fuAdmissionClosed, portTaken]
  · rw [hu, (enterStopping_frame _ _ _).1, hv]
    simp [drained, closeAdmission, fuAdmissionClosed, portTaken]
  · rw [hu, (enterStopping_steady (o := .drained) rfl .none v).1, hv]
    rfl
  · have hnone : (finished u).cp.staged = none := (congrArg (fun c => c.staged) hcp :).trans hstaged
    have hidle : inProgressIs stopCode (finished u) = false := by
      have hfinished : (finished u).cp = u.cp := rfl
      rw [inProgressIs, hfinished, hcp]
      rfl
    obtain ⟨kcp, _, kbp⟩ := programEnded_of_none hnone u.fu.abandoned
    rw [hfinishing.settle_of_none (by exact hnone),
      (pump_kept (closeAsked_of_counted (by exact hasked) (programEnded_counted _ (finished u)) (by rw [kbp]))).1, kcp,
      if_neg (by rw [hidle]; decide)]
    exact hcp

/-- Settles O19: the drain waits for its entries, for its strips, or for nothing. -/
theorem drainAccepted : Obligations.DrainAccepted := by
  intro s hready hquiet hrested hrunning
  have hexec : exec (.stopProgramDrain 1#16) s = .next (drainProgram (portTaken 4#8 1#16 s)) := by
    rw [exec_stopProgramDrain_of_ready hready, takeStop_drain, takeDrain_of_running (by exact hrunning)]
  rw [hexec]
  have hframe : (drainProgram (portTaken 4#8 1#16 s)).cx = s.cx ∧ (drainProgram (portTaken 4#8 1#16 s)).pins = s.pins := by
    simp [portTaken]
  obtain ⟨hcx, hpins⟩ := hframe
  refine ⟨fun hagenda => ?_, fun hagenda hretiring => ?_, fun hagenda huntracked => ?_⟩
  · obtain ⟨hcp, hsu, hfetching, hwatching, hmarked, hfifo, hos, hgu, htb⟩ := drained_waits hquiet hrested hagenda
    exact ⟨_, rfl, hcp, hsu, hfetching, hwatching,
      fun f hf hread => hmarked f.transfer (.inr (.inr (.inr ⟨f, hf, rfl⟩))) hread, hfifo, hos, hgu, htb, hcx, hpins⟩
  · obtain ⟨hcp, hsu, hfetching, hwatching, hfifo, hos, hgu, htb⟩ := drained_stops hquiet hrested hagenda hretiring
    exact ⟨_, rfl, hcp, hsu, hfetching, hwatching, hfifo, hos, hgu, htb, hcx, hpins⟩
  · exact ⟨_, rfl, drained_ends hquiet hrested hagenda huntracked⟩

end Sys2Proof.Machine
end

/-! The ends of the FU's transfers: the state that the FU finds once the bus is free, the judgment of its slots, and what a
fault leaves (R27, R33, R188, R189). -/
section
namespace Sys2Proof.Machine

/-! ## The judgment of slots (R27, R28) -/

theorem isTail_iff (f : FetchUnit) (sl : Slot) :
    f.isTail sl = true ↔ f.state = .watching ∧ (f.table.getLast?.map fun x => x.sequence) = some sl.sequence := by
  unfold FetchUnit.isTail FetchUnit.newest
  rw [Bool.and_eq_true, beq_iff_eq, beq_iff_eq]

theorem retirable_iff (f : FetchUnit) (sl : Slot) :
    f.retirable sl = true ↔ sl.state ≠ .retireReady ∧ (sl.stepsAdmitted = sl.stepCount.toNat ∨ f.state = .stopped) ∧
      sl.outstanding = 0 ∧
        ¬(f.state = .watching ∧ (f.table.getLast?.map fun x => x.sequence) = some sl.sequence) := by
  unfold FetchUnit.retirable
  rw [← isTail_iff]
  simp [and_assoc]

theorem fixedOutcome_eq (sl : Slot) :
    sl.fixedOutcome = if sl.entryDiscarded = false ∧ (sl.stepsAdmitted = sl.stepCount.toNat ∨ sl.endAdmitted = true)
      then .played else .cut := by
  unfold Slot.fixedOutcome
  cases sl.entryDiscarded <;> simp

/-- The FU's evaluation in the words of the statements. -/
theorem markReady_table (f : FetchUnit) : f.markReady.table = f.table.map (slotJudged f) := by
  refine List.map_congr_left fun sl _ => ?_
  unfold slotJudged
  by_cases h : f.retirable sl = true
  · rw [if_pos h, if_pos ((retirable_iff f sl).mp h), ← fixedOutcome_eq]
    rfl
  · rw [if_neg h, if_neg fun hready => h ((retirable_iff f sl).mpr hready)]

/-- The judgment depends on the unit's state, and on its table only while it watches the tail. -/
theorem slotJudged_congr {f g : FetchUnit} (hstate : f.state = g.state)
    (htail : g.state = .watching →
      (f.table.getLast?.map fun x => x.sequence) = g.table.getLast?.map fun x => x.sequence) :
    slotJudged f = slotJudged g := by
  funext sl
  unfold slotJudged
  rw [hstate]
  by_cases hw : g.state = .watching
  · rw [htail hw]
  · simp only [hw, false_and]

/-- A unit whose slots are judged: the judgment changes none. -/
theorem slotJudged_of_judged {f : FetchUnit} (h : f.markReady = f) {sl : Slot} (hmem : sl ∈ f.table) :
    slotJudged f sl = sl := by
  have htable : f.table.map (slotJudged f) = f.table := (markReady_table f).symm.trans (congrArg FetchUnit.table h)
  exact List.map_inj_left.mp (htable.trans (List.map_id _).symm) sl hmem

theorem slotJudged_of_ready {f : FetchUnit} {sl : Slot} (h : sl.state = .retireReady) : slotJudged f sl = sl :=
  if_neg fun hfresh => hfresh.1 h

/-! ## The bus once the transfer has ended (R188) -/

/-- The transfer in flight has ended; the next may have been granted. -/
def freed (s : State) : State := grantFirst (freeBus s)

theorem freed_frame (s : State) :
    (freed s).tb = s.tb ∧ (freed s).fu = s.fu ∧ (freed s).su = s.su ∧ (freed s).os = s.os ∧ (freed s).gu = s.gu ∧
      (freed s).cx = s.cx ∧ (freed s).jw = s.jw ∧ (freed s).ev = s.ev ∧ (freed s).cp = s.cp ∧ (freed s).pins = s.pins ∧
        (freed s).resetAsserted = s.resetAsserted ∧ (freed s).pending = s.pending := by
  simp [freed]

theorem freed_filed {s : State} (h : s.bp.Filed) : (freed s).bp.Filed := grantFirst_filed _ (freeBus_filed _ h)

/-- The requests of the other requesters stand. -/
theorem freed_outstanding {s : State} {f : Flight} {o : Requester} (hfiled : s.bp.Filed) (hf : s.bp.inFlight = some f)
    (ho : f.transfer.kind.owner ≠ o) : (freed s).bp.outstanding o = s.bp.outstanding o := by
  rw [freed, grantFirst_outstanding (freeBus_filed _ hfiled), freeBus_outstanding hf (.inr ho)]

/-- The requester whose transfer has ended has only what it had waiting. -/
theorem freed_outstanding_self {s : State} {o : Requester} (hfiled : s.bp.Filed) (h : s.bp.waiting o = none) :
    (freed s).bp.outstanding o = false := by
  rw [freed, grantFirst_outstanding (freeBus_filed _ hfiled)]
  have hwaiting : (freeBus s).bp.waiting o = none := by
    rw [← h]
    cases o <;> rfl
  rw [BusPort.outstanding, hwaiting]
  rfl

/-- What the end of one of the FU's transfers finds, of a state between events. -/
structure Freed (s u : State) : Prop where
  base : AbortBase s u
  same : SameNotices s u
  fu : u.fu = s.fu
  su : u.su = s.su
  jw : u.jw = s.jw
  ev : u.ev = s.ev
  cp : u.cp = s.cp
  tracking : Tracking u
  closeAsked : CloseAsked u
  filed : u.bp.Filed
  idle : s.bp.fu = none → u.bp.outstanding .fu = false

theorem freed_of_flight {s : State} {f : Flight} (hquiet : Quiet s) (hrested : Rested s) (hfiled : s.bp.Filed)
    (hf : s.bp.inFlight = some f) (ho : f.transfer.kind.owner = .fu) : Freed s (freed s) := by
  obtain ⟨htb, hfu, hsu, hos, hgu, hcx, hjw, hev, hcp, hpins, hreset, hpending⟩ := freed_frame s
  have hsame : SameNotices s (freed s) := ⟨by rw [hgu], hsu, hfu⟩
  have hclose : CloseAsked (freed s) :=
    hrested.closeAsked.congr (by rw [hjw]) (freed_outstanding hfiled hf (by rw [ho]; decide))
  exact ⟨⟨fun _ _ => by rw [hsu], by rw [hsu], hos, hgu, htb, hcx, hpins, hreset, hpending⟩, hsame, hfu, hsu, hjw, hev, hcp,
    hquiet.tracking.of_same hsame, hclose, freed_filed hfiled, fun hnone => freed_outstanding_self hfiled hnone⟩

theorem freed_of_inFlight {s : State} {kind : TransferKind} {a : Addr} (hquiet : Quiet s) (hrested : Rested s)
    (hfiled : s.bp.Filed) (h : inFlightIs s kind a) (ho : kind.owner = .fu) : Freed s (freed s) := by
  obtain ⟨f, hf, _, htransfer⟩ := h
  exact freed_of_flight hquiet hrested hfiled hf (by rw [htransfer]; exact ho)

/-! ## A fault of the FU (R34) -/

/-- The state that the FU's own part of an end leaves or a fault finds: the FU, the queue and the Event Unit apart, it is the
one before the end. -/
structure Ending (s v : State) : Prop where
  base : AbortBase s v
  cp : v.cp = s.cp
  closeAsked : CloseAsked v
  trip : v.gu.tripNotice = none
  program : v.su.program = s.su.program

theorem Freed.ending {s u : State} (h : Freed s u) (f : FetchUnit) : Ending s { u with fu := f } :=
  ⟨⟨h.base.su, h.base.opened, h.base.os, h.base.gu, h.base.tb, h.base.cx, h.base.pins, h.base.resetAsserted,
    h.base.pending⟩, h.cp, h.closeAsked, h.tracking.trip, by rw [← h.su]⟩

theorem Ending.busErrorRaised {s v : State} (h : Ending s v) : Ending s (busErrorRaised v) :=
  ⟨⟨h.base.su, h.base.opened, h.base.os, h.base.gu, h.base.tb, h.base.cx, h.base.pins, h.base.resetAsserted,
    h.base.pending⟩, h.cp, h.closeAsked, h.trip, h.program⟩

theorem Ending.aborted {s v : State} (h : Ending s v) (hactive : s.su.program = .running ∨ s.su.program = .draining)
    (hretiring : Retiring v) (r : Reason) : Aborted .faulted r s (settle (suFault r v)) ∧ (settle (suFault r v)).cp = s.cp := by
  rw [suFault_of_active (by rw [h.program]; exact hactive)]
  exact ⟨aborted_of_base rfl h.base h.trip hretiring r, (aborted_cp h.trip hretiring h.closeAsked _ _).trans h.cp⟩

theorem Ending.ended {s v : State} (h : Ending s v) (hactive : s.su.program = .running ∨ s.su.program = .draining)
    (huntracked : Untracked v) (r : Reason) : EndedAtOnce .faulted r s (settle (suFault r v)) := by
  rw [suFault_of_active (by rw [h.program]; exact hactive)]
  exact endedAtOnce_of_base h.base (by rw [h.cp]) h.trip huntracked _ _

/-- The FU's own part of an end goes on. -/
theorem Ending.withFetch {s v : State} (h : Ending s v) (f : FetchUnit) : Ending s { v with fu := f } :=
  ⟨⟨h.base.su, h.base.opened, h.base.os, h.base.gu, h.base.tb, h.base.cx, h.base.pins, h.base.resetAsserted,
    h.base.pending⟩, h.cp, h.closeAsked, h.trip, h.program⟩

/-- What the end of an event without a fault leaves. -/
theorem Ending.settled {s v : State} (h : Ending s v) (ht : Tracking v) :
    (settle v).os = s.os ∧ (settle v).gu = s.gu ∧ (settle v).tb = s.tb ∧ (settle v).cx = s.cx ∧ (settle v).cp = s.cp := by
  obtain ⟨_, kos, kgu, ktb, _⟩ := ht.settle_parts
  exact ⟨kos.trans h.base.os, kgu.trans h.base.gu, ktb.trans h.base.tb, by simpa using h.base.cx,
    (ht.settle_kept h.closeAsked).1.trans h.cp⟩

theorem suFault_pending {c : Cause} {s : State} (h : pendingCause c s = true) (r : Reason) :
    pendingCause c (settle (suFault r s)) = true := settle_pending ((cause_stays c).suFault r s h)

/-- A read of the FU ends ERROR. -/
theorem fetchError_aborted {s u : State} (h : Freed s u) (hactive : s.su.program = .running ∨ s.su.program = .draining)
    (hretiring : Retiring s) :
    Aborted .faulted .busRead s (settle (fetchError u)) ∧ pendingCause .busError (settle (fetchError u)) = true ∧
      (settle (fetchError u)).cp = s.cp := by
  have hending : Ending s (busErrorRaised u) := (h.ending u.fu).busErrorRaised
  have hretained : Retiring (busErrorRaised u) := by
    have hfu : (busErrorRaised u).fu = s.fu := h.fu
    unfold Retiring
    rw [hfu]
    exact hretiring
  obtain ⟨haborted, hcp⟩ := hending.aborted hactive hretained .busRead
  exact ⟨haborted, suFault_pending (busErrorRaised_pending u) _, hcp⟩

theorem fetchError_ended {s u : State} (h : Freed s u) (hactive : s.su.program = .running ∨ s.su.program = .draining)
    (huntracked : Untracked s) :
    EndedAtOnce .faulted .busRead s (settle (fetchError u)) ∧ pendingCause .busError (settle (fetchError u)) = true := by
  have hending : Ending s (busErrorRaised u) := (h.ending u.fu).busErrorRaised
  have hretained : Untracked (busErrorRaised u) := by
    have hfu : (busErrorRaised u).fu = s.fu := h.fu
    have hsu : (busErrorRaised u).su = s.su := h.su
    unfold Untracked
    rw [hfu, hsu]
    exact huntracked
  exact ⟨hending.ended hactive hretained .busRead, suFault_pending (busErrorRaised_pending u) _⟩

/-! ## Requests and the FU's own fields -/

theorem fuPump_link (s : State) : (fuPump s).fu.link = s.fu.link ∧ (fuPump s).fu.watchStart = s.fu.watchStart := by
  unfold fuPump requestRetire requestRead requestHeader requestSteps requestLink
  repeat' split
  all_goals exact ⟨rfl, rfl⟩

theorem pump_link (s : State) : (pump s).fu.link = s.fu.link ∧ (pump s).fu.watchStart = s.fu.watchStart := by
  obtain ⟨hlink, hstart⟩ := fuPump_link (jwPump s)
  have hjw : (jwPump s).fu = s.fu := by simp
  rw [hjw] at hlink hstart
  exact ⟨hlink, hstart⟩

theorem Tracking.settle_link {u : State} (h : Tracking u) :
    (Machine.settle u).fu.link = u.fu.link ∧ (Machine.settle u).fu.watchStart = u.fu.watchStart := by
  obtain ⟨_, _, _, _, _, hstart, hlink, _⟩ := reportStarved_fu (marked u)
  rw [h.settle, (pump_link _).1, (pump_link _).2, hlink, hstart]
  exact ⟨rfl, rfl⟩

end Sys2Proof.Machine
end

/-! STRIP_HEADER_READ_COMPLETE (R17 to R19, R34). -/
section
namespace Sys2Proof.Machine

theorem exec_stripHeaderReadComplete (r : ReadResult 32) (s : State) :
    exec (.stripHeaderReadComplete r) s = .next (endTransfer TransferKind.isHeaderRead (headerEnd r) s) := rfl

theorem endTransfer_of_idle {s : State} (h : s.bp.inFlight = none) (p : TransferKind → Bool)
    (act : Transfer → State → State) : endTransfer p act s = s := by
  unfold endTransfer
  rw [h]

theorem headerRead_ends {s : State} {q : Word} {a : Addr} (h : inFlightIs s (.stripHeaderRead q) a) (r : ReadResult 32) :
    endTransfer TransferKind.isHeaderRead (headerEnd r) s = headerEnd r (asked (.stripHeaderRead q) a) (freed s) :=
  endTransfer_of_inFlightIs h rfl

theorem badStrip_iff (h : StripHeader) :
    badStrip h = true ↔ h.stepCount.toNat = 0 ∨ 63 < h.stepCount.toNat ∨ h.retireState ≠ 0#8 := by
  simp [badStrip, Config.maxStepCount, or_assoc]

theorem takeHeader_of_good {h : StripHeader} (hgood : badStrip h = false) (a : Addr) (q : Word) (s : State) :
    takeHeader a q h s = { s with fu := s.fu.track (Slot.arrived a q h) h.link } := if_neg (by rw [hgood]; decide)

theorem takeHeader_of_bad {h : StripHeader} (hbad : badStrip h = true) (a : Addr) (q : Word) (s : State) :
    takeHeader a q h s = suFault .badStrip { s with fu := s.fu.track (Slot.arrived a q h).reject h.link } := if_pos hbad

/-! ## The table with a new strip -/

/-- A fresh strip with a step to come is not ready to retire. -/
theorem slotJudged_arrived {f : FetchUnit} (hf : f.state = .fetching) {a : Addr} {q : Word} {h : StripHeader}
    (hcount : h.stepCount.toNat ≠ 0) : slotJudged f (Slot.arrived a q h) = Slot.arrived a q h := by
  refine if_neg fun ⟨_, hdone, _⟩ => ?_
  rcases hdone with hnone | hstopped
  · exact hcount hnone.symm
  · exact absurd (hf.symm.trans hstopped) (by decide)

/-- The new strip of a FETCHING unit leaves the judgment of the others. -/
theorem markReady_track {f : FetchUnit} (hf : f.state = .fetching) (hjudged : f.markReady = f) {sl : Slot} {link : Addr}
    (hsl : slotJudged f sl = sl) : (f.track sl link).markReady.table = f.table ++ [sl] := by
  have hsame : slotJudged (f.track sl link) = slotJudged f :=
    slotJudged_congr rfl fun hw => absurd (hf.symm.trans hw) (by decide)
  have hold : f.table.map (slotJudged f) = f.table :=
    (markReady_table f).symm.trans (congrArg FetchUnit.table hjudged)
  rw [markReady_table, hsame]
  change (f.table ++ [sl]).map (slotJudged f) = _
  rw [List.map_append, hold]
  exact congrArg (f.table ++ [·]) hsl

/-- A RETIRE_READY slot is left by the discard of entries, so the newest of them stands through an abort. -/
theorem onNotice_of_ready {n : Fin 8} {g : Slot → Slot} {sl : Slot} (h : sl.state = .retireReady) :
    Slot.onNotice n g sl = sl := if_neg fun hfresh => hfresh.2 h

theorem foldl_released_newest {l : List Entry} {f : FetchUnit} {sl : Slot} (h : f.newest = some sl)
    (hready : sl.state = .retireReady) : (l.foldl (fun f e => f.released e.slot true) f).newest = some sl := by
  induction l generalizing f with
  | nil => exact h
  | cons e l ih =>
    refine ih ?_
    have hmapped : (f.released e.slot true).newest = f.newest.map (Slot.onNotice e.slot fun sl =>
        { sl with outstanding := sl.outstanding - 1, entryDiscarded := sl.entryDiscarded || true }) :=
      List.getLast?_map
    rw [hmapped, h, Option.map_some, onNotice_of_ready hready]

theorem markReady_newest {f : FetchUnit} {sl : Slot} (h : f.newest = some sl) (hready : sl.state = .retireReady) :
    f.markReady.newest = some sl := by
  have hmapped : f.markReady.newest = f.newest.map (slotJudged f) := by
    rw [FetchUnit.newest, markReady_table]
    exact List.getLast?_map
  rw [hmapped, h, Option.map_some, slotJudged_of_ready hready]

/-- The newest strip of an abort, when it is RETIRE_READY before it. -/
theorem aborted_newest {v : State} (htrip : v.gu.tripNotice = none) (hretiring : Retiring v) {sl : Slot}
    (h : v.fu.newest = some sl) (hready : sl.state = .retireReady) (o : ProgramOutcome) (r : Reason) :
    (settle (enterStopping o r v)).fu.newest = some sl := by
  have hclosed : (if v.su.admissionOpen then v.fu.close else v.fu).newest = some sl := by
    split
    · rw [FetchUnit.newest, (close_parts v.fu).2.2.2.2]
      exact h
    · exact h
  have haborted : (abortedFetch v).newest = some sl := foldl_released_newest hclosed hready
  rw [FetchUnit.newest, (enterStopping_tracking htrip hretiring o r).settle_table.1, enterStopping_fu]
  exact markReady_newest haborted hready

/-- The end of a good header's event. -/
theorem headerEnd_good {s u : State} (hf : Freed s u) (hquiet : Quiet s) (hst : s.fu.state = .fetching)
    (hdone : s.fu.doneNotice = none) {sl : Slot} {link : Addr} (hsl : slotJudged s.fu sl = sl) :
    let t := settle { u with fu := u.fu.track sl link }
    t.fu.table = s.fu.table ++ [sl] ∧ t.fu.link = link ∧ t.fu.state = .fetching ∧ (s.bp.fu = none → FetchAsked t) ∧
      t.su = s.su ∧ t.os = s.os ∧ t.gu = s.gu ∧ t.tb = s.tb ∧ t.cx = s.cx ∧ t.cp = s.cp ∧ t.jw.fifo = s.jw.fifo := by
  obtain ⟨v, hv⟩ : ∃ v : State, v = { u with fu := u.fu.track sl link } := ⟨_, rfl⟩
  have hfu : v.fu = s.fu.track sl link := by rw [hv, hf.fu]
  have hstate : v.fu.state = .fetching := by rw [hfu]; exact hst
  have htracking : Tracking v := by
    refine ⟨by rw [hv]; exact hf.tracking.trip, fun hstopped => ?_, fun _ => ?_⟩
    · exact absurd (hstate.symm.trans hstopped) (by decide)
    · rw [hfu]; exact hdone
  have hclose : CloseAsked v := by rw [hv]; exact hf.closeAsked
  obtain ⟨ksu, kos, kgu, ktb, _⟩ := htracking.settle_parts
  obtain ⟨ktable, kstate⟩ := htracking.settle_table
  dsimp only
  rw [← hv]
  refine ⟨ktable.trans ?_, (htracking.settle_link).1.trans (by rw [hfu]; rfl), kstate.trans hstate, fun hnone => ?_,
    ksu.trans ?_, kos.trans ?_, kgu.trans ?_, ktb.trans ?_, ?_, (htracking.settle_kept hclose).1.trans ?_,
    htracking.settle_fifo.trans ?_⟩
  · rw [hfu]
    exact markReady_track hst hquiet.2.1 hsl
  · refine htracking.settle_fetchAsked ?_ ?_
    · rw [hv]; exact hf.filed
    · rw [hv]; exact hf.idle hnone
  · rw [hv]; exact hf.su
  · rw [hv]; exact hf.base.os
  · rw [hv]; exact hf.base.gu
  · rw [hv]; exact hf.base.tb
  · simpa [hv] using hf.base.cx
  · rw [hv]; exact hf.cp
  · rw [hv]
    exact congrArg JournalWriter.fifo hf.jw

/-- Settles O44: a strip that arrives, is rejected, or does not arrive. -/
theorem stripHeaderArrives : Obligations.StripHeaderArrives := by
  intro s hquiet hrested hfiled hst hdone
  simp only [exec_stripHeaderReadComplete]
  refine ⟨fun r hidle => next_congr (endTransfer_of_idle hidle _ _), fun q a hflight => ?_⟩
  have hf : Freed s (freed s) := freed_of_inFlight hquiet hrested hfiled hflight rfl
  simp only [headerRead_ends hflight]
  refine ⟨fun d => ⟨fun hlow hhigh hblank => ?_, fun hbad hactive => ?_⟩, fun hactive htable => ?_,
    fun hrunning huntracked => ?_⟩
  · have hgood : badStrip (stripHeaderOf d.toList) = false := by
      by_contra hc
      rcases (badStrip_iff _).mp (by simpa using hc) with h | h | h
      · omega
      · omega
      · exact h hblank
    refine ⟨_, rfl, ?_⟩
    rw [headerEnd, show headerTaken (.ok d) (asked (.stripHeaderRead q) a) (freed s) =
      takeHeader a q (stripHeaderOf d.toList) (freed s) from rfl, takeHeader_of_good hgood]
    exact headerEnd_good hf hquiet hst hdone (slotJudged_arrived hst (by omega))
  · have hrejected : badStrip (stripHeaderOf d.toList) = true := (badStrip_iff _).mpr hbad
    obtain ⟨sl, hsl⟩ : ∃ sl, sl = (Slot.arrived a q (stripHeaderOf d.toList)).reject := ⟨_, rfl⟩
    obtain ⟨v, hv⟩ : ∃ v : State, v = { freed s with fu := (freed s).fu.track sl (stripHeaderOf d.toList).link } := ⟨_, rfl⟩
    have hfault : Ending s v := by rw [hv]; exact hf.ending _
    have hfu : v.fu = s.fu.track sl (stripHeaderOf d.toList).link := by rw [hv, hf.fu]
    have hretiring : Retiring v := by
      unfold Retiring
      rw [hfu]
      exact ⟨List.append_ne_nil_of_right_ne_nil _ (by simp), hdone⟩
    have hnewest : v.fu.newest = some sl := by
      rw [hfu]
      exact List.getLast?_concat
    obtain ⟨haborted, hcp⟩ := hfault.aborted hactive hretiring .badStrip
    refine ⟨settle (suFault .badStrip v), ?_, haborted, ?_, hcp⟩
    · rw [headerEnd, show headerTaken (.ok d) (asked (.stripHeaderRead q) a) (freed s) =
        takeHeader a q (stripHeaderOf d.toList) (freed s) from rfl, takeHeader_of_bad hrejected, hv, hsl]
    · rw [suFault_of_active (by rw [hfault.program]; exact hactive)]
      refine (aborted_newest hfault.trip hretiring hnewest (by rw [hsl]; rfl) _ _).trans ?_
      rw [hsl]
      rfl
  · obtain ⟨haborted, hpending, hcp⟩ := fetchError_aborted hf hactive ⟨htable, hdone⟩
    exact ⟨_, rfl, haborted, hpending, hcp⟩
  · exact ⟨_, rfl, fetchError_ended hf (.inl hrunning) huntracked⟩

end Sys2Proof.Machine
end

/-! STEP_READ_COMPLETE (R20, R21, R23, R34, R47). -/
section
namespace Sys2Proof.Machine

theorem exec_stepReadComplete (r : ReadResult 64) (s : State) :
    exec (.stepReadComplete r) s = .next (endTransfer TransferKind.isStepRead (stepsEnd r) s) := rfl

theorem stepRead_ends {s : State} {two : Bool} {a : Addr} (h : inFlightIs s (.stepRead two) a) (r : ReadResult 64) :
    endTransfer TransferKind.isStepRead (stepsEnd r) s = stepsEnd r (asked (.stepRead two) a) (freed s) :=
  endTransfer_of_inFlightIs h rfl

/-! ## The newest slot -/

theorem onNewest_newest {f : FetchUnit} {sl : Slot} (h : f.newest = some sl) (g : Slot → Slot) :
    (f.onNewest g).newest = some (g sl) := by
  have hlast : f.table.getLast? = some sl := h
  rw [FetchUnit.newest, FetchUnit.onNewest, hlast]
  exact List.getLast?_concat

theorem onNewest_length (f : FetchUnit) (g : Slot → Slot) : (f.onNewest g).table.length = f.table.length := by
  rcases List.eq_nil_or_concat f.table with hnil | ⟨l, x, htable⟩
  · simp [FetchUnit.onNewest, hnil]
  · simp [FetchUnit.onNewest, htable]

/-- The numbers of the slots stand when the newest is changed but for its number. -/
theorem onNewest_numbers (f : FetchUnit) {g : Slot → Slot} (hg : ∀ sl, (g sl).number = sl.number) :
    (f.onNewest g).table.map Slot.number = f.table.map Slot.number := by
  rcases List.eq_nil_or_concat f.table with hnil | ⟨l, x, htable⟩
  · simp [FetchUnit.onNewest, hnil]
  · simp [FetchUnit.onNewest, htable, hg]

theorem slotJudged_number (f : FetchUnit) (sl : Slot) : (slotJudged f sl).number = sl.number := by
  unfold slotJudged
  split <;> rfl

theorem markReady_numbers (f : FetchUnit) : f.markReady.table.map Slot.number = f.table.map Slot.number := by
  rw [markReady_table, List.map_map]
  exact List.map_congr_left fun sl _ => slotJudged_number f sl

/-- A slot that stands judged is not ready to retire. -/
theorem not_ready_of_judged {f : FetchUnit} {sl : Slot} (h : slotJudged f sl = sl) :
    ¬(sl.state ≠ .retireReady ∧ (sl.stepsAdmitted = sl.stepCount.toNat ∨ f.state = .stopped) ∧ sl.outstanding = 0 ∧
      ¬(f.state = .watching ∧ (f.table.getLast?.map fun x => x.sequence) = some sl.sequence)) := by
  intro hready
  have hfresh := hready.1
  rw [slotJudged, if_pos hready] at h
  exact hfresh (congrArg Slot.state h).symm

/-- The newest slot of a FETCHING unit that is judged, with steps arrived that are not the strip's last. -/
theorem slotJudged_stepsArrived {f : FetchUnit} {sl : Slot} (h : slotJudged f sl = sl) (hst : sl.state = .fetching) (n : Nat) :
    slotJudged f (sl.stepsArrived n) = sl.stepsArrived n := by
  refine if_neg fun ⟨_, hdone, hnone, htail⟩ => not_ready_of_judged h ⟨?_, hdone, hnone, htail⟩
  rw [hst]; decide

/-- The judgment of the newest slot, through the map. -/
theorem markReady_newest_of {f : FetchUnit} {sl : Slot} (h : f.newest = some sl) (hjudged : slotJudged f sl = sl) :
    f.markReady.newest = some sl := by
  have hmapped : f.markReady.newest = f.newest.map (slotJudged f) := by
    rw [FetchUnit.newest, markReady_table]
    exact List.getLast?_map
  rw [hmapped, h, Option.map_some, hjudged]

/-! ## Steps that arrive (R20) -/

/-- The state once the steps of a read have entered the queue and been counted. -/
def stepsQueued (two : Bool) (d : List Byte) (sl : Slot) (s : State) : State :=
  { s with
    fu := s.fu.onNewest (Slot.stepsArrived (readSteps two d).length)
    su := enqueueSteps (readSteps two d) sl.number s.su }

theorem takeSteps_of_newest {s : State} {sl : Slot} (h : s.fu.newest = some sl) (two : Bool) (d : List Byte) :
    takeSteps two d s =
      if (stepsQueued two d sl s).fu.newestFetched then takeLink (stepsQueued two d sl s) else stepsQueued two d sl s := by
  unfold takeSteps
  rw [h]
  rfl

theorem newestFetched_of_newest {f : FetchUnit} {sl : Slot} (h : f.newest = some sl) :
    f.newestFetched = (sl.state == .fetched) := by
  unfold FetchUnit.newestFetched
  rw [h]

/-- What the FU finds with the steps in: the queue has grown, the newest slot has counted. -/
structure Queued (two : Bool) (d : List Byte) (sl : Slot) (s v : State) : Prop where
  fu : v.fu = s.fu.onNewest (Slot.stepsArrived (readSteps two d).length)
  su : v.su = { s.su with queue := s.su.queue ++ (readSteps two d).map fun p => { step := p, slot := sl.number } }
  ending : Ending s v
  jw : v.jw = s.jw
  ev : v.ev = s.ev
  filed : v.bp.Filed
  idle : s.bp.fu = none → v.bp.outstanding .fu = false

theorem stepsQueued_queued {s u : State} (hf : Freed s u) (hopen : s.su.admissionOpen = true) (two : Bool)
    (d : List Byte) (sl : Slot) : Queued two d sl s (stepsQueued two d sl u) := by
  have hsu : (stepsQueued two d sl u).su =
      { s.su with queue := s.su.queue ++ (readSteps two d).map fun p => { step := p, slot := sl.number } } := by
    change enqueueSteps (readSteps two d) sl.number u.su = _
    rw [hf.su, enqueueSteps, if_pos hopen]
  have hfault := hf.ending (u.fu.onNewest (Slot.stepsArrived (readSteps two d).length))
  refine ⟨congrArg (FetchUnit.onNewest _) hf.fu, hsu, ⟨⟨fun _ _ => ?_, ?_, hf.base.os, hf.base.gu, hf.base.tb, hf.base.cx,
    hf.base.pins, hf.base.resetAsserted, hf.base.pending⟩, hf.cp, hf.closeAsked, hf.tracking.trip, ?_⟩, hf.jw, hf.ev,
    hf.filed, hf.idle⟩
  · rw [hsu]; rfl
  · rw [hsu]
  · rw [hsu]

theorem readSteps_ne_nil (two : Bool) (d : List Byte) : readSteps two d ≠ [] := by
  cases two <;> simp [readSteps]

section
variable {s v : State} {two : Bool} {d : List Byte} {sl : Slot} (hq : Queued two d sl s v)
include hq

theorem Queued.newest (h : s.fu.newest = some sl) : v.fu.newest = some (sl.stepsArrived (readSteps two d).length) := by
  rw [hq.fu]
  exact onNewest_newest h _

/-- A unit that goes on FETCHING or begins to watch tracks its strips still. -/
theorem Queued.tracking (hdone : s.fu.doneNotice = none) {f : FetchUnit} (hf : f.doneNotice = v.fu.doneNotice)
    (hst : f.state ≠ .stopped) : Tracking { v with fu := f } := by
  refine ⟨hq.ending.trip, fun h => absurd h hst, fun _ => ?_⟩
  change f.doneNotice = none
  rw [hf, hq.fu]
  exact hdone

/-- What an end that the FU goes on from leaves of the rest. -/
theorem Queued.settled {f : FetchUnit} (ht : Tracking { v with fu := f }) :
    let t := settle { v with fu := f }
    t.su = { s.su with queue := s.su.queue ++ (readSteps two d).map fun p => { step := p, slot := sl.number } } ∧
      t.os = s.os ∧ t.gu = s.gu ∧ t.tb = s.tb ∧ t.cx = s.cx ∧ t.cp = s.cp ∧ t.jw.fifo = s.jw.fifo := by
  obtain ⟨kos, kgu, ktb, kcx, kcp⟩ := (hq.ending.withFetch f).settled ht
  exact ⟨ht.settle_parts.1.trans hq.su, kos, kgu, ktb, kcx, kcp,
    ht.settle_fifo.trans (congrArg JournalWriter.fifo hq.jw)⟩

theorem Queued.fetchAsked {f : FetchUnit} (ht : Tracking { v with fu := f }) (hnone : s.bp.fu = none) :
    FetchAsked (settle { v with fu := f }) := ht.settle_fetchAsked hq.filed (hq.idle hnone)

end

/-! ## The link of a fetched strip (R21) -/

theorem takeLink_of_zero {s : State} (h : s.fu.link = 0#64) : takeLink s = { s with fu := s.fu.watch } := if_pos h

theorem badLink_eq_false {a : Addr} (h : a.toNat % 32 = 0) : badLink a = false := by
  rw [badLink, h]; rfl

theorem badLink_eq_true {a : Addr} (h : a.toNat % 32 ≠ 0) : badLink a = true := bne_iff_ne.mpr h

theorem takeLink_of_aligned {s : State} (h : s.fu.link ≠ 0#64) (haligned : s.fu.link.toNat % 32 = 0) :
    takeLink s = { s with fu := s.fu.follow s.fu.link } := by
  rw [takeLink, if_neg h, badLink_eq_false haligned]
  rfl

theorem takeLink_of_misaligned {s : State} (h : s.fu.link.toNat % 32 ≠ 0) : takeLink s = suFault .badLink s := by
  have hne : s.fu.link ≠ 0#64 := fun hzero => h (by rw [hzero]; rfl)
  rw [takeLink, if_neg hne, badLink_eq_true h]
  rfl

/-! ## Requests of a unit that follows or watches -/

theorem pump_linkAsked {s v : State} (hout : v.bp.outstanding .fu = false) (hst : v.fu.state = .watching)
    (hwanted : v.fu.rereadWanted = true) (htable : v.fu.table ≠ []) (htally : v.ev.tallies[14] = s.ev.tallies[14]) :
    LinkAsked s (pump v) := by
  have hfu : (jwPump v).fu = v.fu := by simp
  have hjw : (jwPump v).ev.tallies = v.ev.tallies := by
    rcases jwPump_ev v with e | e
    · rw [e]
    · rw [e, EventUnit.raise_tallies]
  have hlink := fuPump_linkAsked (jwPump v) ((jwPump_outstanding v).trans hout) (by rw [hfu]; exact hst)
    (by rw [hfu]; exact hwanted) (by rw [hfu]; exact htable)
  unfold LinkAsked at hlink
  rw [hjw, htally] at hlink
  exact hlink

theorem pump_headerNext {v : State} {a : Addr} (hfiled : v.bp.Filed) (hout : v.bp.outstanding .fu = false)
    (hst : v.fu.state = .fetching) (hnewest : ∀ x, v.fu.newest = some x → x.state ≠ .fetching)
    (hnext : v.fu.nextAddress = some a) : HeaderNext a v.fu.nextSequence (pump v) := by
  have hfu : (jwPump v).fu = v.fu := by simp
  have hheader := fuPump_headerNext (jwPump v) a (jwPump_filed v hfiled) ((jwPump_outstanding v).trans hout)
    (by rw [hfu]; exact hst) (by rw [hfu]; exact hnewest) (by rw [hfu]; exact hnext)
  rw [hfu] at hheader
  exact hheader

/-- A FU with a transfer outstanding asks for nothing. -/
theorem pump_fu_of_outstanding {v : State} (hout : v.bp.outstanding .fu = true) : (pump v).fu = v.fu := by
  have hstill : fuPump (jwPump v) = jwPump v := if_pos ((jwPump_outstanding v).trans hout)
  rw [pump, hstill]
  simp

theorem pump_nextAddress_of_none {v : State} (h : v.fu.nextAddress = none) : (pump v).fu.nextAddress = none := by
  have hfu : (jwPump v).fu = v.fu := by simp
  have hnone : (jwPump v).fu.nextAddress = none := by rw [hfu]; exact h
  generalize hu : jwPump v = u at hnone
  have hpumped : (fuPump u).fu.nextAddress = none := by
    unfold fuPump requestRetire requestRead requestHeader requestSteps requestLink
    repeat' split
    all_goals first | exact hnone | rfl
  rw [pump, hu]
  exact hpumped

/-- The judgment makes no slot FETCHING. -/
theorem slotJudged_not_fetching (f : FetchUnit) {sl : Slot} (h : sl.state ≠ .fetching) :
    (slotJudged f sl).state ≠ .fetching := by
  unfold slotJudged
  split
  · exact nofun
  · exact h

section
variable {u : State} (h : Tracking u)
include h

theorem Tracking.settle_headerNext {a : Addr} (hfiled : u.bp.Filed) (hout : u.bp.outstanding .fu = false)
    (hst : u.fu.state = .fetching) (hnewest : ∀ x ∈ u.fu.newest, x.state ≠ .fetching)
    (hnext : u.fu.nextAddress = some a) : HeaderNext a u.fu.nextSequence (Machine.settle u) := by
  obtain ⟨htable, hstate, haddress, hsequence, _⟩ := reportStarved_fu (marked u)
  have hbp := reportStarved_marked_bp u
  have hjudged : ∀ x, (reportStarved (marked u)).fu.newest = some x → x.state ≠ .fetching := by
    intro x hx
    have hmapped : (reportStarved (marked u)).fu.newest = u.fu.newest.map (slotJudged u.fu) := by
      rw [FetchUnit.newest, htable]
      change u.fu.markReady.table.getLast? = _
      rw [markReady_table]
      exact List.getLast?_map
    rw [hmapped] at hx
    obtain ⟨y, hy, rfl⟩ := Option.map_eq_some_iff.mp hx
    exact slotJudged_not_fetching u.fu (hnewest y hy)
  have hheader := pump_headerNext (v := reportStarved (marked u)) (a := a) (by rw [hbp]; exact hfiled)
    (by rw [hbp]; exact hout) (hstate.trans hst) hjudged (haddress.trans hnext)
  rw [hsequence] at hheader
  rw [h.settle]
  exact hheader

theorem Tracking.settle_linkAsked {s : State} (hout : u.bp.outstanding .fu = false) (hst : u.fu.state = .watching)
    (hwanted : u.fu.rereadWanted = true) (hfull : u.fu.table ≠ []) (htally : u.ev.tallies[14] = s.ev.tallies[14]) :
    LinkAsked s (Machine.settle u) := by
  obtain ⟨htable, hstate, _, _, hreread, _⟩ := reportStarved_fu (marked u)
  have hnil : (marked u).fu.table ≠ [] := fun hnil => hfull ((markReady_table_eq_nil _).mp hnil)
  rw [h.settle]
  refine pump_linkAsked (by rw [reportStarved_marked_bp]; exact hout) (hstate.trans hst) (hreread.trans hwanted)
    (by rw [htable]; exact hnil) ?_
  rw [reportStarved_tallies]
  exact htally

/-- A FU with a transfer outstanding keeps the address it would read next. -/
theorem Tracking.settle_next_of_outstanding (hout : u.bp.outstanding .fu = true) :
    (Machine.settle u).fu.nextAddress = u.fu.nextAddress ∧ (Machine.settle u).fu.rereadWanted = u.fu.rereadWanted := by
  obtain ⟨_, _, haddress, _, hreread, _⟩ := reportStarved_fu (marked u)
  rw [h.settle, pump_fu_of_outstanding (by rw [reportStarved_marked_bp]; exact hout), haddress, hreread]
  exact ⟨rfl, rfl⟩

theorem Tracking.settle_nextAddress_of_none (hnone : u.fu.nextAddress = none) :
    (Machine.settle u).fu.nextAddress = none := by
  rw [h.settle]
  exact pump_nextAddress_of_none ((reportStarved_fu (marked u)).2.2.1.trans hnone)

/-- With steps in the queue nothing starves. -/
theorem Tracking.settle_of_queue (hqueue : u.su.queue ≠ []) : Machine.settle u = pump (marked u) := by
  have hfed : starving (marked u) = false := by
    have hsome : u.su.queue.isEmpty = false := by simpa using hqueue
    simp [starving, marked, hsome]
  rw [h.settle, reportStarved, hfed]
  rfl

theorem Tracking.settle_numbers : (Machine.settle u).fu.table.map Slot.number = u.fu.table.map Slot.number := by
  rw [h.settle_table.1, markReady_numbers]

end

/-- Whether a slot is free is a matter of the numbers in the table. -/
theorem free_congr {l m : List Slot} (h : l.map Slot.number = m.map Slot.number) (k : Nat) :
    (∀ x ∈ l, x.number.val ≠ k) ↔ ∀ x ∈ m, x.number.val ≠ k := by
  have hmap (l : List Slot) : (∀ x ∈ l, x.number.val ≠ k) ↔ ∀ n ∈ l.map Slot.number, n.val ≠ k := by simp
  rw [hmap l, hmap m, h]

/-! ## The three ways on -/

/-- The last steps of a strip are in. -/
theorem newestFetched_of_last {s v : State} {two : Bool} {d : List Byte} {sl : Slot}
    (hq : Queued two d sl s v) (hnewest : s.fu.newest = some sl)
    (hlast : sl.stepsFetched + (readSteps two d).length = sl.stepCount.toNat) :
    v.fu.newestFetched = true ∧ v.fu.newest = some { sl with stepsFetched := sl.stepCount.toNat, state := .fetched } := by
  have hvnewest := hq.newest hnewest
  rw [Slot.stepsArrived, if_pos hlast, hlast] at hvnewest
  exact ⟨by rw [newestFetched_of_newest hvnewest]; rfl, hvnewest⟩

theorem newest_judged {s : State} (hquiet : Quiet s) {sl : Slot} (hnewest : s.fu.newest = some sl) :
    slotJudged s.fu sl = sl := slotJudged_of_judged hquiet.2.1 (List.mem_of_getLast? hnewest)

section
variable {s v : State} {two : Bool} {d : List Byte} {sl : Slot} (hq : Queued two d sl s v)
  (hdone : s.fu.doneNotice = none) (hnewest : s.fu.newest = some sl)
include hq hdone hnewest

/-- Steps remain. -/
theorem stepsEnd_more (hquiet : Quiet s) (hst : s.fu.state = .fetching) (hfetching : sl.state = .fetching)
    (hless : sl.stepsFetched + (readSteps two d).length < sl.stepCount.toNat) :
    let t := settle v
    v.fu.newestFetched = false ∧
      t.fu.newest = some { sl with stepsFetched := sl.stepsFetched + (readSteps two d).length } ∧
        t.fu.table.length = s.fu.table.length ∧ t.fu.state = .fetching ∧ (s.bp.fu = none → FetchAsked t) ∧
          Tracking v := by
  have hstate : v.fu.state = .fetching := by rw [hq.fu]; exact hst
  have htracking : Tracking { v with fu := v.fu } := hq.tracking hdone rfl (by rw [hstate]; decide)
  have harrived : sl.stepsArrived (readSteps two d).length =
      { sl with stepsFetched := sl.stepsFetched + (readSteps two d).length } := by
    rw [Slot.stepsArrived, if_neg (by omega)]
  have hvnewest := hq.newest hnewest
  obtain ⟨ktable, kstate⟩ := htracking.settle_table
  have hlast : v.fu.newest.map (fun x => x.sequence) = s.fu.newest.map fun x => x.sequence := by
    rw [hvnewest, hnewest]; rfl
  have hjudged : slotJudged v.fu = slotJudged s.fu :=
    slotJudged_congr (hstate.trans hst.symm) fun _ => hlast
  refine ⟨?_, ?_, ?_, kstate.trans hstate, hq.fetchAsked htracking, htracking⟩
  · rw [newestFetched_of_newest hvnewest, harrived, hfetching]
    rfl
  · have hmarked : v.fu.markReady.newest = some (sl.stepsArrived (readSteps two d).length) :=
      markReady_newest_of hvnewest (by
        rw [hjudged]
        exact slotJudged_stepsArrived (newest_judged hquiet hnewest) hfetching _)
    rw [FetchUnit.newest, ktable, ← harrived]
    exact hmarked
  · rw [ktable, markReady_table, List.length_map, hq.fu]
    exact onNewest_length _ _

/-- The strip has no successor yet. -/
theorem stepsEnd_watches (hlast : sl.stepsFetched + (readSteps two d).length = sl.stepCount.toNat) :
    let t := settle { v with fu := v.fu.watch }
    t.fu.state = .watching ∧ t.fu.nextAddress = none ∧ t.fu.starvedReported = false ∧
      pendingCause .starved t = pendingCause .starved s ∧
        t.fu.newest = some { sl with stepsFetched := sl.stepCount.toNat, state := .fetched } ∧
          (s.bp.fu = none → RetireAsked t ∧ LinkAsked s t) ∧ Tracking { v with fu := v.fu.watch } := by
  obtain ⟨_, hvnewest⟩ := newestFetched_of_last hq hnewest hlast
  have htracking : Tracking { v with fu := v.fu.watch } := hq.tracking hdone rfl nofun
  obtain ⟨ktable, kstate⟩ := htracking.settle_table
  have hqueue : v.su.queue ≠ [] := by
    rw [hq.su]
    simp [readSteps_ne_nil]
  have hfed := htracking.settle_of_queue hqueue
  have hwnewest : v.fu.watch.newest = some { sl with stepsFetched := sl.stepCount.toNat, state := .fetched } := hvnewest
  have htail : (v.fu.watch.table.getLast?.map fun x => x.sequence) = some sl.sequence :=
    (congrArg (Option.map fun x : Slot => x.sequence) hwnewest :)
  dsimp only
  refine ⟨kstate, htracking.settle_nextAddress_of_none rfl, ?_, ?_, ?_, fun hnone => ⟨?_, ?_⟩, htracking⟩
  · rw [hfed, (pump_fu _).2.2.2]
    rfl
  · rw [hfed, pump_pendingCause _ (by decide), pendingCause, pendingCause, ← hq.ev]
    rfl
  · rw [FetchUnit.newest, ktable]
    exact markReady_newest_of hwnewest (if_neg fun h => h.2.2.2 ⟨rfl, htail⟩)
  · exact (hq.fetchAsked htracking hnone).1
  · refine htracking.settle_linkAsked (hq.idle hnone) rfl rfl (fun hnil => ?_) ?_
    · rw [FetchUnit.newest, hnil] at hwnewest
      cases hwnewest
    · change v.ev.tallies[14] = _
      rw [hq.ev]

/-- The strip's successor is known. -/
theorem stepsEnd_follows (hlast : sl.stepsFetched + (readSteps two d).length = sl.stepCount.toNat) :
    let free : Prop := ∀ x ∈ s.fu.table, x.number.val ≠ s.fu.nextSequence.toNat % 8
    let t := settle { v with fu := v.fu.follow v.fu.link }
    t.fu.state = .fetching ∧ t.fu.watchStart = none ∧ (¬free → t.fu.nextAddress = some s.fu.link) ∧
      (free → s.bp.fu = none → (∀ x ∈ t.fu.table.head?, x.state ≠ .retireReady) →
        t.fu.nextAddress = none ∧ t.fu.nextSequence = s.fu.nextSequence + 1#32 ∧
          t.bp.holds (asked (.stripHeaderRead s.fu.nextSequence) s.fu.link)) ∧
        (s.bp.fu = none → RetireAsked t ∧ HeaderNext s.fu.link s.fu.nextSequence t) ∧
          Tracking { v with fu := v.fu.follow v.fu.link } := by
  obtain ⟨_, hvnewest⟩ := newestFetched_of_last hq hnewest hlast
  obtain ⟨w, hw⟩ : ∃ w : State, w = { v with fu := v.fu.follow v.fu.link } := ⟨_, rfl⟩
  have hlink : v.fu.link = s.fu.link := by rw [hq.fu]; rfl
  have hsequence : w.fu.nextSequence = s.fu.nextSequence := by rw [hw, hq.fu]; rfl
  have hnext : w.fu.nextAddress = some s.fu.link := by rw [hw, ← hlink]; rfl
  have htracking : Tracking w := by rw [hw]; exact hq.tracking hdone rfl nofun
  have hnumbers : (settle w).fu.table.map Slot.number = s.fu.table.map Slot.number := by
    rw [htracking.settle_numbers, hw]
    change v.fu.table.map Slot.number = _
    rw [hq.fu]
    exact onNewest_numbers _ fun _ => rfl
  have hfree := free_congr hnumbers (s.fu.nextSequence.toNat % 8)
  have hheader (hout : w.bp.outstanding .fu = false) : HeaderNext s.fu.link s.fu.nextSequence (settle w) := by
    rw [← hsequence]
    refine htracking.settle_headerNext (by rw [hw]; exact hq.filed) hout (by rw [hw]; rfl) (fun x hx => ?_) hnext
    have hwnewest : w.fu.newest = v.fu.newest := by rw [hw]; rfl
    rw [hwnewest, hvnewest] at hx
    cases hx
    exact nofun
  have hidle (hnone : s.bp.fu = none) : w.bp.outstanding .fu = false := by rw [hw]; exact hq.idle hnone
  dsimp only
  rw [← hw]
  refine ⟨htracking.settle_table.2.trans (by rw [hw]; rfl), htracking.settle_link.2.trans (by rw [hw]; rfl),
    fun hbusy => ?_, fun hopen hnone hhead => ?_, fun hnone => ⟨?_, hheader (hidle hnone)⟩, htracking⟩
  · by_cases hout : w.bp.outstanding .fu = true
    · exact (htracking.settle_next_of_outstanding hout).1.trans hnext
    · exact ((hheader (by simpa using hout)).2.1 fun h => hbusy (hfree.mp h.2)).1
  · exact (hheader (hidle hnone)).1 hhead (hfree.mpr hopen)
  · exact (htracking.settle_fetchAsked (by rw [hw]; exact hq.filed) (hidle hnone)).1

end

/-- Settles O45: steps that arrive, the link after the last of them, and a read that fails. -/
theorem stepsArrive : Obligations.StepsArrive := by
  intro s hquiet hrested hfiled hst hdone hactive
  simp only [exec_stepReadComplete]
  refine ⟨fun r hidle => next_congr (endTransfer_of_idle hidle _ _),
    fun two a sl d hflight hnewest hfetching hopen => ?_⟩
  have hf : Freed s (freed s) := freed_of_inFlight hquiet hrested hfiled hflight rfl
  have hretiring : Retiring s := ⟨fun hnil => (by rw [FetchUnit.newest, hnil] at hnewest; cases hnewest), hdone⟩
  obtain ⟨v, hv⟩ : ∃ v, v = stepsQueued two d.toList sl (freed s) := ⟨_, rfl⟩
  have hq : Queued two d.toList sl s v := by rw [hv]; exact stepsQueued_queued hf hopen two d.toList sl
  have htaken : stepsEnd (.ok d) (asked (.stepRead two) a) (freed s) =
      settle (if v.fu.newestFetched then takeLink v else v) := by
    rw [hv]
    exact congrArg settle (takeSteps_of_newest (by rw [hf.fu]; exact hnewest) two d.toList)
  have hlink : v.fu.link = s.fu.link := by rw [hq.fu]; rfl
  simp only [stepRead_ends hflight]
  refine ⟨fun hless => ?_, fun hlast hzero => ?_, fun hlast hsome haligned => ?_, fun hlast hbad => ?_, ?_⟩
  · obtain ⟨hmore, knewest, klength, kstate, kasked, htracking⟩ :=
      stepsEnd_more hq hdone hnewest hquiet hst hfetching hless
    obtain ⟨ksu, kos, kgu, ktb, kcx, kcp, kfifo⟩ := hq.settled (f := v.fu) htracking
    rw [htaken, if_neg (by rw [hmore]; decide)]
    exact ⟨_, rfl, ksu, knewest, klength, kstate, kasked, kos, kgu, ktb, kcx, kcp, kfifo⟩
  · obtain ⟨hall, _⟩ := newestFetched_of_last hq hnewest hlast
    obtain ⟨kstate, knext, kstarved, kcause, knewest, kasked, htracking⟩ := stepsEnd_watches hq hdone hnewest hlast
    obtain ⟨ksu, kos, kgu, ktb, kcx, kcp, kfifo⟩ := hq.settled htracking
    rw [htaken, if_pos hall, takeLink_of_zero (hlink.trans hzero)]
    exact ⟨_, rfl, ksu, kstate, knext, kstarved, kcause, knewest, kasked, kos, kgu, ktb, kcx, kcp, kfifo⟩
  · obtain ⟨hall, _⟩ := newestFetched_of_last hq hnewest hlast
    obtain ⟨kstate, kstart, kbusy, kfree, kasked, htracking⟩ := stepsEnd_follows hq hdone hnewest hlast
    obtain ⟨ksu, kos, kgu, ktb, kcx, kcp, kfifo⟩ := hq.settled htracking
    rw [htaken, if_pos hall, takeLink_of_aligned (by rw [hlink]; exact hsome) (by rw [hlink]; exact haligned)]
    exact ⟨_, rfl, ksu, kstate, kstart, kbusy, kfree, kasked, kos, kgu, ktb, kcx, kcp, kfifo⟩
  · obtain ⟨hall, _⟩ := newestFetched_of_last hq hnewest hlast
    have hretained : Retiring v := by
      unfold Retiring
      rw [hq.fu]
      refine ⟨fun hnil => hretiring.1 ?_, hdone⟩
      rw [← List.length_eq_zero_iff, ← onNewest_length, hnil]
      rfl
    rw [htaken, if_pos hall, takeLink_of_misaligned (by rw [hlink]; exact hbad)]
    exact ⟨_, rfl, hq.ending.aborted hactive hretained .badLink⟩
  · obtain ⟨haborted, hpending, hcp⟩ := fetchError_aborted hf hactive hretiring
    exact ⟨_, rfl, haborted, hpending, hcp⟩

end Sys2Proof.Machine
end

/-! LINK_REREAD_COMPLETE (R22 to R24, R34). -/
section
namespace Sys2Proof.Machine

theorem exec_linkRereadComplete (r : ReadResult 8) (s : State) :
    exec (.linkRereadComplete r) s = .next (endTransfer (· == .linkRead) (linkEnd r) s) := rfl

theorem linkRead_ends {s : State} {a : Addr} (h : inFlightIs s .linkRead a) (r : ReadResult 8) :
    endTransfer (· == .linkRead) (linkEnd r) s = linkEnd r (asked .linkRead a) (freed s) :=
  endTransfer_of_inFlightIs h rfl

theorem takeReread_of_zero {a : Addr} (h : a = 0#64) (s : State) :
    takeReread a s = { s with fu := { s.fu with link := a, watchStart := some s.tb.tl } } := if_pos h

theorem takeReread_of_aligned {a : Addr} (h : a ≠ 0#64) (haligned : a.toNat % 32 = 0) (s : State) :
    takeReread a s = { s with fu := s.fu.follow a } := by
  rw [takeReread, if_neg h, badLink_eq_false haligned]
  rfl

theorem takeReread_of_misaligned {a : Addr} (h : a.toNat % 32 ≠ 0) (s : State) :
    takeReread a s = suFault .badLink { s with fu := { s.fu with link := a } } := by
  have hne : a ≠ 0#64 := fun hzero => h (by rw [hzero]; rfl)
  rw [takeReread, if_neg hne, badLink_eq_true h]
  rfl

/-- A unit that goes on after an end in which the FU alone has changed. -/
theorem Freed.tracking_of {s u : State} (hf : Freed s u) {f : FetchUnit} (hdone : f.doneNotice = none)
    (hst : f.state ≠ .stopped) : Tracking { u with fu := f } :=
  ⟨hf.tracking.trip, fun h => absurd h hst, fun _ => hdone⟩

/-- What such an end leaves of the rest. -/
theorem Freed.settled {s u : State} (hf : Freed s u) {f : FetchUnit} (ht : Tracking { u with fu := f }) :
    let t := settle { u with fu := f }
    t.su = s.su ∧ t.os = s.os ∧ t.gu = s.gu ∧ t.tb = s.tb ∧ t.cx = s.cx ∧ t.cp = s.cp ∧ t.jw.fifo = s.jw.fifo := by
  obtain ⟨kos, kgu, ktb, kcx, kcp⟩ := (hf.ending f).settled ht
  exact ⟨ht.settle_parts.1.trans hf.su, kos, kgu, ktb, kcx, kcp, ht.settle_fifo.trans (congrArg JournalWriter.fifo hf.jw)⟩

/-! ## Requests of a WATCHING unit -/

/-- A re-read that is not wanted is not made so by a request. -/
theorem pump_rereadWanted_of_false {v : State} (h : v.fu.rereadWanted = false) : (pump v).fu.rereadWanted = false := by
  have hfu : (jwPump v).fu = v.fu := by simp
  have hfalse : (jwPump v).fu.rereadWanted = false := by rw [hfu]; exact h
  generalize hu : jwPump v = u at hfalse
  have hpumped : (fuPump u).fu.rereadWanted = false := by
    unfold fuPump requestRetire requestRead requestHeader requestSteps requestLink
    repeat' split
    all_goals first | exact hfalse | rfl
  rw [pump, hu]
  exact hpumped

theorem Tracking.settle_rereadWanted_of_false {u : State} (h : Tracking u) (hwanted : u.fu.rereadWanted = false) :
    (Machine.settle u).fu.rereadWanted = false := by
  rw [h.settle]
  exact pump_rereadWanted_of_false ((reportStarved_fu (marked u)).2.2.2.2.1.trans hwanted)

/-- A unit that wants no re-read counts none. -/
theorem pump_tallies_of_unwanted {v : State} (hst : v.fu.state = .watching) (hwanted : v.fu.rereadWanted = false) :
    (pump v).ev.tallies = v.ev.tallies := by
  have hfu : (jwPump v).fu = v.fu := by simp
  have hjw : (jwPump v).ev.tallies = v.ev.tallies := by
    rcases jwPump_ev v with e | e
    · rw [e]
    · rw [e, EventUnit.raise_tallies]
  obtain ⟨u, hu⟩ : ∃ u, u = jwPump v := ⟨_, rfl⟩
  rw [← hu] at hfu hjw
  have hread : requestRead u = u := by
    rw [requestRead, hfu, hst, hwanted]
    rfl
  have hpumped : (fuPump u).ev = u.ev := by
    unfold fuPump
    repeat' split
    all_goals first | rfl | rw [hread]
  have hgranted : pump v = grant (fuPump u) := by rw [hu]; rfl
  rw [hgranted]
  change (fuPump u).ev.tallies = _
  rw [hpumped, hjw]

/-- A WATCHING unit that wants no re-read asks for nothing, unless a retire write comes first. -/
theorem pump_idle_of_unwanted {v : State} (hfiled : v.bp.Filed) (hout : v.bp.outstanding .fu = false)
    (hst : v.fu.state = .watching) (hwanted : v.fu.rereadWanted = false) (hfirst : NoRetireFirst (pump v)) :
    (pump v).bp.outstanding .fu = false := by
  have hfu : (jwPump v).fu = v.fu := by simp
  have htable : (pump v).fu.table = v.fu.table := (pump_fu v).1
  unfold NoRetireFirst at hfirst
  rw [htable] at hfirst
  have hread : requestRead (jwPump v) = jwPump v := by
    rw [requestRead, hfu, hst, hwanted]
    rfl
  have hstill : fuPump (jwPump v) = jwPump v := by
    unfold fuPump
    rw [if_neg (by rw [(jwPump_outstanding v).trans hout]; decide), hfu]
    split
    next x _ hx => rw [if_neg (hfirst x (by rw [hx]; rfl)), hread]
    next => exact hread
  rw [pump, hstill]
  exact (jwPump_filed v hfiled).grant_outstanding ((jwPump_outstanding v).trans hout)

section
variable {u : State} (h : Tracking u)
include h

theorem Tracking.settle_unwanted (hst : u.fu.state = .watching) (hwanted : u.fu.rereadWanted = false) :
    (Machine.settle u).ev.tallies = u.ev.tallies := by
  obtain ⟨_, hstate, _, _, hreread, _⟩ := reportStarved_fu (marked u)
  rw [h.settle, pump_tallies_of_unwanted (hstate.trans hst) (hreread.trans hwanted)]
  exact reportStarved_tallies _

theorem Tracking.settle_idle_of_unwanted (hfiled : u.bp.Filed) (hout : u.bp.outstanding .fu = false)
    (hst : u.fu.state = .watching) (hwanted : u.fu.rereadWanted = false) (hfirst : NoRetireFirst (Machine.settle u)) :
    (Machine.settle u).bp.outstanding .fu = false := by
  obtain ⟨_, hstate, _, _, hreread, _⟩ := reportStarved_fu (marked u)
  rw [h.settle] at hfirst ⊢
  exact pump_idle_of_unwanted (by rw [reportStarved_marked_bp]; exact hfiled)
    (by rw [reportStarved_marked_bp]; exact hout) (hstate.trans hst) (hreread.trans hwanted) hfirst

end

/-! ## The two values that go on -/

section
variable {s u : State} (hf : Freed s u) (hretiring : Retiring s)
include hf hretiring

/-- The strip has no successor yet: the interval starts anew. -/
theorem linkEnd_waits (hquiet : Quiet s) (hst : s.fu.state = .watching) {a : Addr} :
    let f : FetchUnit := { u.fu with link := a, watchStart := some u.tb.tl }
    let t := settle { u with fu := f }
    Tracking { u with fu := f } ∧ t.fu.state = .watching ∧ t.fu.watchStart = some s.tb.tl ∧ t.fu.table = s.fu.table ∧
      (s.bp.fu = none → RetireAsked t) ∧ (s.fu.rereadWanted = true → s.bp.fu = none → LinkAsked s t) ∧
        (s.fu.rereadWanted = false → t.fu.rereadWanted = false ∧ t.ev.tallies[14] = s.ev.tallies[14] ∧
          (s.bp.fu = none → NoRetireFirst t → t.bp.outstanding .fu = false)) := by
  obtain ⟨htable, hdone⟩ := hretiring
  obtain ⟨v, hv⟩ : ∃ v : State, v = { u with fu := { u.fu with link := a, watchStart := some u.tb.tl } } := ⟨_, rfl⟩
  have hstate : v.fu.state = .watching := by rw [hv, ← hst, ← hf.fu]
  have hreread : v.fu.rereadWanted = s.fu.rereadWanted := by rw [hv, ← hf.fu]
  have hsame : v.fu.table = s.fu.table := by rw [hv, ← hf.fu]
  have hfiled : v.bp.Filed := by rw [hv]; exact hf.filed
  have hidle (hnone : s.bp.fu = none) : v.bp.outstanding .fu = false := by rw [hv]; exact hf.idle hnone
  have htally : v.ev.tallies[14] = s.ev.tallies[14] := by rw [hv, ← hf.ev]
  have htracking : Tracking v := by
    rw [hv]
    exact hf.tracking_of (by rw [hf.fu]; exact hdone) (by rw [hf.fu, hst]; decide)
  have hmarked : v.fu.markReady = v.fu := markReady_congr (g := s.fu) hsame (hstate.trans hst.symm) hquiet.2.1
  obtain ⟨ktable, kstate⟩ := htracking.settle_table
  dsimp only
  rw [← hv]
  refine ⟨htracking, kstate.trans hstate, htracking.settle_link.2.trans ?_, ?_, fun hnone =>
    (htracking.settle_fetchAsked hfiled (hidle hnone)).1, fun hwanted hnone => ?_, fun hwanted => ?_⟩
  · rw [hv, ← hf.base.tb]
  · rw [ktable, hmarked, hsame]
  · exact htracking.settle_linkAsked (hidle hnone) hstate (hreread.trans hwanted) (by rw [hsame]; exact htable) htally
  · have ktallies := htracking.settle_unwanted hstate (hreread.trans hwanted)
    exact ⟨htracking.settle_rereadWanted_of_false (hreread.trans hwanted), by rw [ktallies]; exact htally, fun hnone =>
      htracking.settle_idle_of_unwanted hfiled (hidle hnone) hstate (hreread.trans hwanted)⟩

/-- The strip's successor is known: the tail is released. -/
theorem linkEnd_follows {a : Addr} :
    let t := settle { u with fu := u.fu.follow a }
    Tracking { u with fu := u.fu.follow a } ∧ t.fu.state = .fetching ∧ t.fu.link = a ∧ t.fu.watchStart = none ∧
      t.fu.rereadWanted = false ∧ t.fu.table = s.fu.table.map (slotJudged { s.fu with state := .fetching }) ∧
        (s.bp.fu = none → (∀ x ∈ s.fu.newest, x.state ≠ .fetching) →
          RetireAsked t ∧ HeaderNext a s.fu.nextSequence t) := by
  obtain ⟨_, hdone⟩ := hretiring
  obtain ⟨v, hv⟩ : ∃ v : State, v = { u with fu := u.fu.follow a } := ⟨_, rfl⟩
  have hsame : v.fu.table = s.fu.table := by rw [hv, ← hf.fu]; rfl
  have hstate : v.fu.state = .fetching := by rw [hv]; rfl
  have hsequence : v.fu.nextSequence = s.fu.nextSequence := by rw [hv, ← hf.fu]; rfl
  have hfiled : v.bp.Filed := by rw [hv]; exact hf.filed
  have hidle (hnone : s.bp.fu = none) : v.bp.outstanding .fu = false := by rw [hv]; exact hf.idle hnone
  have htracking : Tracking v := by
    rw [hv]
    exact hf.tracking_of (f := u.fu.follow a) (by rw [hf.fu]; exact hdone) nofun
  obtain ⟨ktable, kstate⟩ := htracking.settle_table
  obtain ⟨klink, kstart⟩ := htracking.settle_link
  dsimp only
  rw [← hv]
  refine ⟨htracking, kstate.trans hstate, klink.trans (by rw [hv]; rfl), kstart.trans (by rw [hv]; rfl), ?_, ?_,
    fun hnone hnewest => ⟨(htracking.settle_fetchAsked hfiled (hidle hnone)).1, ?_⟩⟩
  · exact htracking.settle_rereadWanted_of_false (by rw [hv]; rfl)
  · rw [ktable, markReady_table, hsame, slotJudged_congr (g := { s.fu with state := .fetching }) hstate nofun]
  · rw [← hsequence]
    refine htracking.settle_headerNext hfiled (hidle hnone) hstate (fun x hx => hnewest x ?_) (by rw [hv]; rfl)
    rw [FetchUnit.newest, hsame] at hx
    exact hx

end

/-- Settles O46: a link that is still 0, one that is followed, a bad one, and a read that fails. -/
theorem linkRereadEnds : Obligations.LinkRereadEnds := by
  intro s hquiet hrested hfiled hst hretiring hactive
  simp only [exec_linkRereadComplete]
  refine ⟨fun r hidle => next_congr (endTransfer_of_idle hidle _ _), fun a d hflight => ?_⟩
  have hf : Freed s (freed s) := freed_of_inFlight hquiet hrested hfiled hflight rfl
  have htaken : linkEnd (.ok d) (asked .linkRead a) (freed s) = settle (takeReread (long d.toList 0) (freed s)) := rfl
  simp only [linkRead_ends hflight]
  rw [htaken]
  refine ⟨fun hzero => ?_, fun hsome haligned => ?_, fun hbad => ?_, ?_⟩
  · rw [takeReread_of_zero hzero]
    obtain ⟨htracking, kstate, kstart, ktable, kretire, klink, kunwanted⟩ :=
      linkEnd_waits hf hretiring hquiet hst (a := long d.toList 0)
    exact ⟨_, rfl, kstate, kstart, ktable, kretire, klink, kunwanted, hf.settled htracking⟩
  · rw [takeReread_of_aligned hsome haligned]
    obtain ⟨htracking, kstate, klink, kstart, kwanted, ktable, knext⟩ :=
      linkEnd_follows hf hretiring (a := long d.toList 0)
    exact ⟨_, rfl, kstate, klink, kstart, kwanted, ktable, knext, hf.settled htracking⟩
  · rw [takeReread_of_misaligned hbad]
    have hretained : Retiring { freed s with fu := { (freed s).fu with link := long d.toList 0 } } := by
      rw [hf.fu]
      exact hretiring
    exact ⟨_, rfl, (hf.ending _).aborted hactive hretained .badLink⟩
  · obtain ⟨haborted, hpending, hcp⟩ := fetchError_aborted hf hactive hretiring
    exact ⟨_, rfl, haborted, hpending, hcp⟩

end Sys2Proof.Machine
end

/-! BUS_RESPONSE_TIMEOUT (R30, R189). -/
section
namespace Sys2Proof.Machine

theorem exec_busResponseTimeout (s : State) :
    exec .busResponseTimeout s = .next (endTransfer (fun _ => true) transferError s) := rfl

/-- The end of a transfer that a reset left without a requester. -/
theorem endTransfer_of_orphan {p : TransferKind → Bool} {act : Transfer → State → State} {s : State} {f : Flight}
    (hf : s.bp.inFlight = some f) (ho : f.orphan = true) (hp : p f.transfer.kind = true) :
    endTransfer p act s = grant (freeBus s) := by
  unfold endTransfer
  rw [hf]
  exact (if_pos hp).trans (if_pos ho)

theorem endTransfer_of_owned {p : TransferKind → Bool} {act : Transfer → State → State} {s : State} {f : Flight}
    (hf : s.bp.inFlight = some f) (ho : f.orphan = false) (hp : p f.transfer.kind = true) :
    endTransfer p act s = act f.transfer (freed s) := by
  unfold endTransfer
  rw [hf]
  exact (if_pos hp).trans (if_neg (by rw [ho]; decide))

/-- Two ends of the same transfer agree when their requester's events do. -/
theorem endTransfer_congr_of_flight {p q : TransferKind → Bool} {act bct : Transfer → State → State} {s : State} {f : Flight}
    (hf : s.bp.inFlight = some f) (hp : p f.transfer.kind = true) (hq : q f.transfer.kind = true)
    (h : act f.transfer (freed s) = bct f.transfer (freed s)) : endTransfer p act s = endTransfer q bct s := by
  cases ho : f.orphan with
  | true => rw [endTransfer_of_orphan hf ho hp, endTransfer_of_orphan hf ho hq]
  | false => rw [endTransfer_of_owned hf ho hp, endTransfer_of_owned hf ho hq, h]

/-- The timeout is the ERROR end of the transfer in flight. -/
theorem responseTimeout_is_error (p : Pins) {s : State} {f : Flight} (hf : s.bp.inFlight = some f) :
    exec .busResponseTimeout s = exec (errorEnd p f.transfer.kind) s := by
  have hend {q : TransferKind → Bool} {act : Transfer → State → State} (hq : q f.transfer.kind = true)
      (h : transferError f.transfer (freed s) = act f.transfer (freed s)) :
      exec .busResponseTimeout s = .next (endTransfer q act s) := by
    rw [exec_busResponseTimeout, endTransfer_congr_of_flight hf rfl hq h]
  have herror (k : TransferKind) (hk : f.transfer.kind = k) (u : State) :
      transferError f.transfer u = transferError { f.transfer with kind := k } u := by
    rw [← hk]
  cases hk : f.transfer.kind with
  | stripHeaderRead q => exact hend (q := TransferKind.isHeaderRead) (by rw [hk]; rfl) (by rw [transferError, hk])
  | stepRead two => exact hend (q := TransferKind.isStepRead) (by rw [hk]; rfl) (by rw [transferError, hk])
  | linkRead => exact hend (q := (· == .linkRead)) (by rw [hk]; rfl) (by rw [transferError, hk])
  | retireWrite w =>
    exact hend (q := TransferKind.isRetireWrite) (act := fun _ => retireEnd .error) (by rw [hk]; rfl)
      (by rw [transferError, hk])
  | sheetHeaderRead => exact hend (q := (· == .sheetHeaderRead)) (by rw [hk]; rfl) (by rw [transferError, hk])
  | recordWrite r =>
    exact hend (q := TransferKind.isRecordWrite) (act := fun _ => recordEnd .error) (by rw [hk]; rfl)
      (by rw [transferError, hk])
  | sheetHeaderWrite h => exact hend (q := TransferKind.isSheetWrite) (by rw [hk]; rfl) (by rw [transferError, hk])
  | dcbRead =>
    exact hend (q := (· == .dcbRead)) (act := fun _ => dcbEnd .error p) (by rw [hk]; rfl)
      (by rw [transferError, hk]; rfl)
  | limitsRead =>
    exact hend (q := (· == .limitsRead)) (act := fun _ => limitsEnd .error) (by rw [hk]; rfl)
      (by rw [transferError, hk]; rfl)
  | tallyWriteLow t =>
    exact hend (q := TransferKind.isTallyWrite) (act := tallyEnd .error) (by rw [hk]; rfl)
      (by rw [transferError, hk]; rfl)
  | tallyWriteHigh t =>
    exact hend (q := TransferKind.isTallyWrite) (act := tallyEnd .error) (by rw [hk]; rfl)
      (by rw [transferError, hk]; rfl)

/-! ## A fresh bus -/

/-- The transfer in flight, if there is one, has just started. -/
def FreshBus (b : BusPort) : Prop := ∀ g, b.inFlight = some g → g.periods = 0 ∧ g.orphan = false

theorem FreshBus.of_inFlight {b c : BusPort} (h : FreshBus b) (hc : c.inFlight = b.inFlight) : FreshBus c := by
  unfold FreshBus
  rw [hc]
  exact h

theorem FreshBus.discardIf {b : BusPort} (h : FreshBus b) (p : TransferKind → Bool) : FreshBus (b.discardIf p) := by
  intro g hg
  obtain ⟨f, hf, rfl⟩ := Option.map_eq_some_iff.mp hg
  exact h f hf

theorem FreshBus.grant {b : BusPort} (h : FreshBus b) : FreshBus b.grant := by
  rcases b.grant_cases with hsame | ⟨_, ⟨t, _, hg⟩ | ⟨t, _, hg⟩ | ⟨t, _, hg⟩⟩
  · rwa [hsame]
  all_goals
    rw [hg]
    intro g hg
    cases hg
    exact ⟨rfl, rfl⟩

theorem freed_fresh (s : State) : FreshBus (freed s).bp := by
  have hfree : FreshBus (freeBus s).bp := fun g hg => by cases hg
  unfold freed grantFirst
  split
  · exact FreshBus.grant (b := (freeBus s).bp) hfree
  · exact hfree

theorem jwRun_fresh {s : State} (h : FreshBus s.bp) : FreshBus (jwRun s).bp :=
  FreshBus.grant (h.of_inFlight (jwPump_bp s).2)

theorem pump_fresh {s : State} (h : FreshBus s.bp) : FreshBus (pump s).bp :=
  FreshBus.grant ((h.of_inFlight (jwPump_bp s).2).of_inFlight (fuPump_bp (jwPump s)).2)

theorem enterStopping_fresh (o : ProgramOutcome) (r : Reason) : Keeps (fun s => FreshBus s.bp) (enterStopping o r) := by
  intro s hs
  rw [enterStopping_bp]
  split
  · exact hs.discardIf _
  · exact hs

theorem suFault_fresh (r : Reason) : Keeps (fun s => FreshBus s.bp) (suFault r) := by
  intro s hs
  unfold suFault
  split
  · exact enterStopping_fresh _ _ s hs
  · exact hs

theorem deliverTrip_fresh : Keeps (fun s => FreshBus s.bp) deliverTrip := by
  intro s hs
  have habort (u : State) (hu : FreshBus u.bp) : FreshBus (takeTripAbort u).bp := by
    unfold takeTripAbort
    split
    · exact enterStopping_fresh _ _ u hu
    · exact hu
  unfold deliverTrip
  split
  · exact hs
  next mask _ =>
    have hdrawn : FreshBus (afterDraw { s with gu := { s.gu with tripNotice := none } }).bp := hs
    have hcovered : FreshBus (coverLines mask (afterDraw { s with gu := { s.gu with tripNotice := none } })).bp :=
      hdrawn.of_inFlight (by simp)
    have haborted : FreshBus
        (coverLines mask (takeTripAbort (afterDraw { s with gu := { s.gu with tripNotice := none } }))).bp :=
      (habort _ hdrawn).of_inFlight (by simp)
    dsimp only
    split
    · exact haborted
    · exact habort _ hcovered

theorem reportStarved_bp (s : State) : (reportStarved s).bp = s.bp := by simp

theorem settle_fresh {s : State} (h : FreshBus s.bp) : FreshBus (settle s).bp := by
  have htrip := deliverTrip_fresh s h
  have hdone : FreshBus (takeRetirementDone (fuEvaluate (deliverTrip s))).bp := htrip.of_inFlight (by simp)
  have htaken := deliverTrip_fresh _ hdone
  have hreported : FreshBus (takeNotices s).bp := htaken.of_inFlight (by rw [takeNotices, (reportStarved_bp _)])
  exact pump_fresh hreported

/-! ## The count of an ERROR (R189) -/

/-- BUS_ERROR is pending and counted. -/
structure ErrorSeen (v : Word) (t : State) : Prop where
  pending : pendingCause .busError t = true
  counted : t.ev.tallies[15] = v

theorem ErrorSeen.of_ev {v : Word} {s t : State} (h : ErrorSeen v s) (hev : t.ev = s.ev) : ErrorSeen v t :=
  ⟨by rw [pendingCause, hev]; exact h.pending, by rw [hev]; exact h.counted⟩

theorem ErrorSeen.of_raise {v : Word} {s t : State} {c : Cause} (h : ErrorSeen v s) (hev : t.ev = s.ev.raise c) :
    ErrorSeen v t :=
  ⟨by rw [pendingCause, hev, EventUnit.raise_getLsbD, show s.ev.events.getLsbD Cause.busError.bit = true from h.pending,
    Bool.or_true], by rw [hev]; exact h.counted⟩

theorem ErrorSeen.of_count {v : Word} {s t : State} {c : Tally} {n : Nat} (h : ErrorSeen v s) (hc : c.index ≠ 15)
    (hev : t.ev = s.ev.count c n) : ErrorSeen v t :=
  ⟨by rw [pendingCause, hev]; exact h.pending,
    by rw [hev]; exact (s.ev.count_tally c n 15).trans ((if_neg (Ne.symm hc)).trans h.counted)⟩

theorem ErrorSeen.of_lose {v : Word} {s t : State} {n : Nat} (h : ErrorSeen v s) (hev : t.ev = s.ev.lose n) :
    ErrorSeen v t :=
  ⟨by rw [pendingCause, hev]; exact EventUnit.lose_keeps n h.pending,
    by rw [hev]; exact (lose_tally (i := 15) n s.ev (by decide)).trans h.counted⟩

theorem busErrorRaised_seen (s : State) : ErrorSeen (satAdd s.ev.tallies[15] 1) (busErrorRaised s) :=
  ⟨busErrorRaised_pending s, by simp [busErrorRaised, raise, count, EventUnit.raise, EventUnit.count, Tally.index]⟩

theorem errorSeen_escalating (v : Word) : Escalating (ErrorSeen v) where
  same := fun h hev _ => h.of_ev hev
  offer := fun r s hs => by
    by_cases htakes : s.jw.state.takes = true
    · by_cases hroom : s.jw.fifo.length < Config.fifoCapacity
      · exact hs.of_ev (by simp [offer, EventUnit.offer, htakes, hroom])
      · exact hs.of_lose (n := 1) (by simp [offer, EventUnit.offer, htakes, hroom])
    · exact hs.of_count (c := .recordsUnjournaled) (n := 1) (by decide) (by simp [offer, EventUnit.offer, htakes])
  raise := fun _ _ hs => hs.of_raise rfl
  shoots := fun _ _ hs => hs.of_count (by decide) rfl
  rises := fun _ _ hs => hs.of_count (by decide) rfl
  escalations := fun _ hs => hs.of_count (by decide) rfl
  trips := fun _ hs => hs.of_count (by decide) rfl

theorem ErrorSeen.settle {v : Word} {s : State} (h : ErrorSeen v s) : ErrorSeen v (settle s) := by
  have htaken := (errorSeen_escalating v).takeNotices s h
  exact ⟨pump_pending htaken.pending, (pump_tally _ (i := 15) (by decide)).trans htaken.counted⟩

theorem ErrorSeen.jwRun {v : Word} {s : State} (h : ErrorSeen v s) : ErrorSeen v (jwRun s) := by
  rcases jwPump_ev s with hev | hev
  · exact h.of_ev hev
  · exact h.of_raise hev

theorem ErrorSeen.complete {v : Word} {s : State} (h : ErrorSeen v s) (r : Result) : ErrorSeen v (complete r s) :=
  h.of_raise rfl

theorem ErrorSeen.journalFault {v : Word} {s : State} (h : ErrorSeen v s) : ErrorSeen v (journalFault s) := by
  unfold Machine.journalFault endFlush
  split
  · exact h.of_raise rfl
  · exact h.of_ev rfl

theorem ErrorSeen.endClose {v : Word} {s : State} (h : ErrorSeen v s) (r : Result) : ErrorSeen v (endClose r s) :=
  h.of_raise rfl

theorem ErrorSeen.loseRecords {v : Word} {s t : State} (h : ErrorSeen v s) (n : Nat) (ht : t.ev = s.ev) :
    ErrorSeen v (loseRecords n t) := (h.of_ev ht).of_lose rfl

theorem ErrorSeen.closeError {v : Word} {s : State} (h : ErrorSeen v s) : ErrorSeen v (closeError s) :=
  (h.loseRecords (t := { s with jw := { s.jw with fifo := [] } }) (s.jw.fifo.length + s.jw.written) rfl).endClose _

section
variable {v : Word} {s : State} (h : ErrorSeen v s)
include h

theorem ErrorSeen.sheetHeaderReadError : ErrorSeen v (sheetHeaderReadError s) := by
  unfold Machine.sheetHeaderReadError
  split
  · exact h.journalFault
  · exact h.journalFault
  · exact h.closeError
  all_goals exact h

theorem ErrorSeen.sheetHeaderReadDiscardedError : ErrorSeen v (sheetHeaderReadDiscardedError s) := by
  unfold Machine.sheetHeaderReadDiscardedError sheetHeaderReadDiscarded
  split
  · split
    · exact h.endClose _
    · exact h
  · exact h.journalFault

theorem ErrorSeen.recordWriteError : ErrorSeen v (recordWriteError s) := by
  unfold Machine.recordWriteError
  split
  · exact h.closeError
  · exact (h.loseRecords (t := { s with jw := { s.jw with fifo := s.jw.fifo.tail } }) 1 rfl).journalFault

theorem ErrorSeen.headerWriteError : ErrorSeen v (headerWriteError s) := by
  unfold Machine.headerWriteError
  split
  · exact h.closeError
  · exact (h.loseRecords (t := { s with jw := { s.jw with sheet := none } }) s.jw.written rfl).journalFault

end

/-! ## The ERROR end of any transfer -/

/-- An ERROR end: it is seen, and the bus is fresh. -/
def ErrorEnd (s t : State) : Prop := ErrorSeen (satAdd s.ev.tallies[15] 1) t ∧ FreshBus t.bp

theorem headerTaken_error (t : Transfer) (s : State) :
    headerTaken .error t s = fetchError s ∨ headerTaken .error t s = busErrorRaised s := by
  unfold headerTaken
  cases t.discard
  · exact .inl rfl
  · exact .inr rfl

theorem stepsTaken_error (t : Transfer) (s : State) :
    stepsTaken .error t s = fetchError s ∨ stepsTaken .error t s = busErrorRaised s := by
  unfold stepsTaken
  cases t.discard
  · exact .inl rfl
  · exact .inr rfl

theorem linkTaken_error (t : Transfer) (s : State) :
    linkTaken .error t s = fetchError s ∨ linkTaken .error t s = busErrorRaised s := by
  unfold linkTaken
  cases t.discard
  · exact .inl rfl
  · exact .inr rfl

section
variable {s u : State} (hev : u.ev = s.ev) (hbp : FreshBus u.bp)
include hev hbp

/-- An ERROR of a read of the FU, discarded or not. -/
theorem fetchError_errorEnd {w : State} (hw : w = fetchError u ∨ w = busErrorRaised u) : ErrorEnd s (settle w) := by
  have hseen := busErrorRaised_seen u
  rw [hev] at hseen
  have hfresh : FreshBus (busErrorRaised u).bp := hbp
  rcases hw with rfl | rfl
  · exact ⟨((errorSeen_escalating _).suFault _ _ hseen).settle, settle_fresh (suFault_fresh _ _ hfresh)⟩
  · exact ⟨hseen.settle, settle_fresh hfresh⟩

theorem retireError_errorEnd : ErrorEnd s (settle (retireError u)) := by
  obtain ⟨w, hw⟩ : ∃ w : State, w = { u with fu := { u.fu with table := [], abandoned := true } } := ⟨_, rfl⟩
  have hseen := busErrorRaised_seen w
  have hwev : w.ev = s.ev := by rw [hw]; exact hev
  have hfresh : FreshBus (busErrorRaised w).bp := by rw [hw]; exact hbp
  rw [hwev] at hseen
  rw [retireError, ← hw]
  exact ⟨((errorSeen_escalating _).suFault _ _ hseen).settle, settle_fresh (suFault_fresh _ _ hfresh)⟩

/-- An ERROR of a transfer of the JW. -/
theorem jwError_errorEnd {w : State} (hseen : ErrorSeen (satAdd u.ev.tallies[15] 1) w) (hw : w.bp = u.bp) :
    ErrorEnd s (jwRun w) := by
  rw [hev] at hseen
  exact ⟨hseen.jwRun, jwRun_fresh (by rw [hw]; exact hbp)⟩

theorem commandError_errorEnd : ErrorEnd s (grant (commandError u)) := by
  obtain ⟨w, hw⟩ : ∃ w : State, w = { u with cp := { u.cp with shadow := [], snapshot := none } } := ⟨_, rfl⟩
  have hseen := busErrorRaised_seen w
  have hwev : w.ev = s.ev := by rw [hw]; exact hev
  have hfresh : FreshBus (complete .busError (busErrorRaised w)).bp := by rw [hw]; exact hbp
  rw [hwev] at hseen
  rw [commandError, ← hw]
  exact ⟨(hseen.complete .busError).of_ev (t := grant (complete .busError (busErrorRaised w))) rfl, hfresh.grant⟩

/-- The ERROR end of any transfer (R189). -/
theorem transferError_errorEnd (t : Transfer) : ErrorEnd s (transferError t u) := by
  have hseen := busErrorRaised_seen u
  unfold transferError
  split
  · exact fetchError_errorEnd hev hbp (headerTaken_error t u)
  · exact fetchError_errorEnd hev hbp (stepsTaken_error t u)
  · exact fetchError_errorEnd hev hbp (linkTaken_error t u)
  · exact retireError_errorEnd hev hbp
  · unfold sheetReadEnd sheetReadTaken
    cases t.discard
    · exact jwError_errorEnd hev hbp hseen.sheetHeaderReadError (by simp)
    · exact jwError_errorEnd hev hbp hseen.sheetHeaderReadDiscardedError (by simp)
  · exact jwError_errorEnd hev hbp hseen.recordWriteError (by simp)
  · exact jwError_errorEnd hev hbp hseen.headerWriteError (by simp)
  all_goals exact commandError_errorEnd hev hbp

end

/-! ## A discarded read of the FU (R30) -/

/-- What a discarded read leaves of the program and the tracked strips. -/
def Unmoved (s t : State) : Prop :=
  t.su = s.su ∧ t.fu.table = s.fu.table ∧ t.fu.state = s.fu.state ∧ t.os = s.os ∧ t.gu = s.gu ∧ t.tb = s.tb ∧
    t.cx = s.cx ∧ t.cp = s.cp ∧ t.jw.fifo = s.jw.fifo

theorem settle_unmoved {s u v : State} (hf : Freed s u) (hquiet : Quiet s) (hv : v = u ∨ v = busErrorRaised u) :
    Unmoved s (settle v) := by
  have hfu : v.fu = s.fu := by rcases hv with rfl | rfl <;> exact hf.fu
  have hsu : v.su = s.su := by rcases hv with rfl | rfl <;> exact hf.su
  have hjw : v.jw = s.jw := by rcases hv with rfl | rfl <;> exact hf.jw
  have hending : Ending s v := by
    rcases hv with rfl | rfl
    · exact hf.ending v.fu
    · exact (hf.ending u.fu).busErrorRaised
  have hsame : SameNotices s v := ⟨hending.trip.trans hquiet.tracking.trip.symm, hsu, hfu⟩
  have htracking : Tracking v := hquiet.tracking.of_same hsame
  obtain ⟨kos, kgu, ktb, kcx, kcp⟩ := hending.settled htracking
  obtain ⟨ktable, kstate⟩ := htracking.settle_table
  have hjudged : s.fu.markReady = s.fu := hquiet.2.1
  exact ⟨htracking.settle_parts.1.trans hsu, ktable.trans (by rw [hfu, hjudged]), kstate.trans (by rw [hfu]), kos, kgu, ktb,
    kcx, kcp, htracking.settle_fifo.trans (by rw [hjw])⟩

/-- A discarded read that ends OK raises nothing. -/
theorem settle_events {s u : State} (hf : Freed s u) (hquiet : Quiet s) : (settle u).ev.events = s.ev.events := by
  have hnotices : takeNotices u = u := takeNotices_of_quiet (hquiet.of_same hf.same)
  rw [settle, hnotices, (pump_kept hf.closeAsked).2.2.2, hf.ev]

/-- The read ended OK. -/
def ReadResult.isOk {n : Nat} : ReadResult n → Bool
  | .ok _ => true
  | .error => false

theorem headerTaken_of_discard {t : Transfer} (h : t.discard = true) (r : ReadResult 32) (s : State) :
    headerTaken r t s = discardedRead (ReadResult.isOk r) s := by
  cases r <;> simp [headerTaken, h, ReadResult.isOk]

theorem stepsTaken_of_discard {t : Transfer} (h : t.discard = true) (r : ReadResult 64) (s : State) :
    stepsTaken r t s = discardedRead (ReadResult.isOk r) s := by
  cases r <;> simp [stepsTaken, h, ReadResult.isOk]

theorem linkTaken_of_discard {t : Transfer} (h : t.discard = true) (r : ReadResult 8) (s : State) :
    linkTaken r t s = discardedRead (ReadResult.isOk r) s := by
  cases r <;> simp [linkTaken, h, ReadResult.isOk]

theorem owner_of_isFetchRead {k : TransferKind} (h : k.isFetchRead = true) : k.owner = .fu := by
  cases k <;> first | rfl | cases h

/-- Settles O38: every transfer's timeout is its ERROR end. -/
theorem responseTimeoutIsError : Obligations.ResponseTimeoutIsError := by
  intro p s
  refine ⟨fun hidle => next_congr (endTransfer_of_idle hidle _ _), fun f hf => ⟨responseTimeout_is_error p hf,
    fun ho => next_congr (endTransfer_of_orphan hf ho rfl), fun ho => ?_, fun ho hdiscard hquiet hrested hfiled => ?_⟩⟩
  · rw [exec_busResponseTimeout, endTransfer_of_owned hf ho rfl]
    obtain ⟨_, _, _, _, _, _, _, hev, _⟩ := freed_frame s
    obtain ⟨hseen, hfresh⟩ := transferError_errorEnd hev (freed_fresh s) f.transfer
    exact ⟨_, rfl, hseen.pending, hseen.counted, hfresh⟩
  · refine ⟨fun hread => ?_, fun q d hk => ?_, fun two d hk => ?_, fun d hk => ?_⟩
    · have hfreed := freed_of_flight hquiet hrested hfiled hf (owner_of_isFetchRead hread)
      have hend : transferError f.transfer (freed s) = settle (busErrorRaised (freed s)) := by
        unfold transferError
        split
        next => rw [headerEnd, headerTaken_of_discard hdiscard]; rfl
        next => rw [stepsEnd, stepsTaken_of_discard hdiscard]; rfl
        next => rw [linkEnd, linkTaken_of_discard hdiscard]; rfl
        all_goals
          next hk =>
            rw [hk] at hread
            cases hread
      have hseen := (busErrorRaised_seen (freed s)).settle
      rw [hfreed.ev] at hseen
      rw [exec_busResponseTimeout, endTransfer_of_owned hf ho rfl, hend]
      exact ⟨_, rfl, settle_unmoved hfreed hquiet (.inr rfl), hseen.pending, hseen.counted⟩
    · have hfreed := freed_of_flight hquiet hrested hfiled hf (by rw [hk]; rfl)
      have hend : headerEnd (.ok d) f.transfer (freed s) = settle (freed s) := by
        rw [headerEnd, headerTaken_of_discard hdiscard]; rfl
      have hexec : exec (.stripHeaderReadComplete (.ok d)) s = .next (settle (freed s)) := by
        rw [exec_stripHeaderReadComplete, endTransfer_of_owned hf ho (by rw [hk]; rfl), hend]
      exact ⟨_, hexec, settle_unmoved hfreed hquiet (.inl rfl), settle_events hfreed hquiet⟩
    · have hfreed := freed_of_flight hquiet hrested hfiled hf (by rw [hk]; rfl)
      have hend : stepsEnd (.ok d) f.transfer (freed s) = settle (freed s) := by
        rw [stepsEnd, stepsTaken_of_discard hdiscard]; rfl
      have hexec : exec (.stepReadComplete (.ok d)) s = .next (settle (freed s)) := by
        rw [exec_stepReadComplete, endTransfer_of_owned hf ho (by rw [hk]; rfl), hend]
      exact ⟨_, hexec, settle_unmoved hfreed hquiet (.inl rfl), settle_events hfreed hquiet⟩
    · have hfreed := freed_of_flight hquiet hrested hfiled hf (by rw [hk]; rfl)
      have hend : linkEnd (.ok d) f.transfer (freed s) = settle (freed s) := by
        rw [linkEnd, linkTaken_of_discard hdiscard]; rfl
      have hexec : exec (.linkRereadComplete (.ok d)) s = .next (settle (freed s)) := by
        rw [exec_linkRereadComplete, endTransfer_of_owned hf ho (by rw [hk]; rfl), hend]
      exact ⟨_, hexec, settle_unmoved hfreed hquiet (.inl rfl), settle_events hfreed hquiet⟩

end Sys2Proof.Machine
end

/-! New active Limits at the OS and the GU (R112, R132, R179), and the end of a program under which a block was staged
(R96). -/
section
namespace Sys2Proof.Machine

/-! ## New dead times -/

theorem newDeadTimes_pair (t : Time) (m : Limits) (o : OutputStage) (k : Fin 8) :
    (o.newDeadTimes t m).pairs[k].deadTime = m.deadTimes[k] ∧ (o.newDeadTimes t m).pairs[k].enabled = o.pairs[k].enabled := by
  constructor <;> simp [OutputStage.newDeadTimes, OutputStage.setDeadTimes, OutputStage.mapLines]

theorem osNewDeadTimes_os (m : Limits) (s : State) :
    (osNewDeadTimes m s).os = (s.os.newDeadTimes s.tb.tl m).resolve s.tb.tl := rfl

/-- The OS after a block has become active, in either order of its delivery (R179). -/
theorem deliverLimits_os (m : Limits) (s : State) :
    (deliverLimits m s).os = (s.os.newDeadTimes s.tb.tl m).resolve s.tb.tl := by
  unfold deliverLimits
  split
  · have hos : (guNewLimits m (afterDraw s)).os = s.os := by simp
    have htl : (guNewLimits m (afterDraw s)).tb.tl = s.tb.tl := by simp
    rw [osNewDeadTimes_os, hos, htl]
  · rw [(guNewLimits_frame m _).2.2.1]
    rfl

theorem deliverLimits_pair (m : Limits) (s : State) (k : Fin 8) :
    (deliverLimits m s).os.pairs[k].deadTime = m.deadTimes[k] ∧
      (deliverLimits m s).os.pairs[k].enabled = s.os.pairs[k].enabled := by
  obtain ⟨hdead, henabled⟩ := newDeadTimes_pair s.tb.tl m s.os k
  rw [deliverLimits_os, resolve_pairs]
  exact ⟨hdead, henabled⟩

/-- A coverage leaves the pairs. -/
theorem coverLines_pairs (mask : Half) (s : State) : (coverLines mask s).os.pairs = s.os.pairs := by
  change ((s.os.cover mask).resolve s.tb.tl).pairs = _
  rw [resolve_pairs]
  rfl

/-- The trip notice of a program that is not active leaves the pairs and the held records. -/
theorem deliverTrip_leaves {s : State} (h : s.su.program.active = false) :
    (deliverTrip s).os.pairs = s.os.pairs ∧ (deliverTrip s).jw = s.jw := by
  unfold deliverTrip
  split
  · exact ⟨rfl, rfl⟩
  · dsimp only
    split
    · rw [takeTripAbort_inactive (by simpa using h), coverLines_pairs]
      exact ⟨rfl, by simp⟩
    · rw [takeTripAbort_inactive (by simpa using h), coverLines_pairs]
      exact ⟨rfl, by simp⟩

/-! ## A block staged at the end of a program (R96) -/

theorem limitsRecord_eq (tl : Time) (b : StagedLimits) :
    limitsRecord tl (1 + replacedFlag b) =
      { kind := .limits, source := 0xFF#8, flags := if b.replaced then 5#8 else 1#8, stamp := tl.setWidth 40,
        value1 := 0#32, value2 := 0#32 } := by
  unfold limitsRecord replacedFlag
  cases b.replaced <;> rfl

theorem applyStaged_of_some {s : State} {b : StagedLimits} (h : s.cp.staged = some b) :
    applyStaged s =
      offer
        { kind := .limits, source := 0xFF#8, flags := if b.replaced then 5#8 else 1#8, stamp := s.tb.tl.setWidth 40,
          value1 := 0#32, value2 := 0#32 }
        { s with cp := { s.cp with active := b.limits, staged := none } } := by
  rw [← limitsRecord_eq]
  unfold applyStaged
  rw [h]

theorem completeStop_leaves (b : Bool) (s : State) :
    (completeStop b s).jw = s.jw ∧ (completeStop b s).cp.active = s.cp.active ∧
      (completeStop b s).cp.staged = s.cp.staged ∧ (completeStop b s).os = s.os := by
  unfold completeStop
  split <;> exact ⟨rfl, rfl, rfl, rfl⟩

/-- The ENDED record depends on the SU and on time. -/
theorem endedRecord_congr {s t : State} (hsu : t.su = s.su) (htb : t.tb = s.tb) (b : Bool) :
    endedRecord t b = endedRecord s b := by
  unfold endedRecord
  rw [hsu, htb]

theorem programEnded_of_some {s : State} {b : StagedLimits} (h : s.cp.staged = some b) (incomplete : Bool) :
    (programEnded incomplete s).jw =
        (s.jw.offer
          { kind := .limits, source := 0xFF#8, flags := if b.replaced then 5#8 else 1#8, stamp := s.tb.tl.setWidth 40,
            value1 := 0#32, value2 := 0#32 }).offer
          (endedRecord { s with su := { s.su with program := .idle, retireIncomplete := incomplete } } incomplete) ∧
      (programEnded incomplete s).cp.active = b.limits ∧ (programEnded incomplete s).cp.staged = none ∧
        (programEnded incomplete s).os = s.os := by
  unfold programEnded
  rw [applyStaged_of_some (s := { s with su := { s.su with program := .idle, retireIncomplete := incomplete } }) h]
  obtain ⟨hjw, hactive, hstaged, hos⟩ := completeStop_leaves incomplete (raise .programEnd (offer (endedRecord
    { s with su := { s.su with program := .idle, retireIncomplete := incomplete } } incomplete)
      (offer
        { kind := .limits, source := 0xFF#8, flags := if b.replaced then 5#8 else 1#8, stamp := s.tb.tl.setWidth 40,
          value1 := 0#32, value2 := 0#32 }
        { s with
          su := { s.su with program := .idle, retireIncomplete := incomplete }
          cp := { s.cp with active := b.limits, staged := none } })))
  exact ⟨hjw, hactive, hstaged, hos⟩

section
variable {u : State} (h : Finishing u)
include h

/-- The event that ends a program under which a block was staged. -/
theorem Finishing.settle_of_some {b : StagedLimits} (hstaged : u.cp.staged = some b) (hclose : CloseAsked u) :
    (settle u).cp.active = b.limits ∧ (settle u).cp.staged = none ∧
      (∀ k : Fin 8, (settle u).os.pairs[k].deadTime = b.limits.deadTimes[k]) ∧
        ((u.jw.offer
          { kind := .limits, source := 0xFF#8, flags := if b.replaced then 5#8 else 1#8, stamp := u.tb.tl.setWidth 40,
            value1 := 0#32, value2 := 0#32 }).offer
          (endedRecord { u with su := { u.su with program := .idle, retireIncomplete := u.fu.abandoned } }
            u.fu.abandoned)).fifo <+: (settle u).jw.fifo := by
  obtain ⟨w, hw⟩ : ∃ w, w = programEnded u.fu.abandoned (finished u) := ⟨_, rfl⟩
  obtain ⟨hjw, hactive, hnone, hos⟩ := programEnded_of_some (s := finished u) hstaged u.fu.abandoned
  rw [← hw] at hjw hactive hnone hos
  have hended : programEnd u.fu.abandoned (finished u) = deliverLimits w.cp.active w := by
    have hsome : (finished u).cp.staged.isSome = true := by
      rw [show (finished u).cp.staged = some b from hstaged]; rfl
    rw [programEnd_eq, if_pos hsome, hw]
  have hinactive : (deliverLimits w.cp.active w).su.program.active = false := by
    rw [← hended]
    exact programEnd_inactive _ _
  have hsettled : settle u = pump (deliverTrip (deliverLimits w.cp.active w)) := by
    rw [settle, h.takeNotices, hended]
  have hcounted : Counted 0 0 0 u (finished u) := .of_eq rfl rfl
  have hasked : CloseAsked (deliverTrip (deliverLimits w.cp.active w)) := by
    obtain ⟨_, _, hdelivered⟩ := deliverLimits_counted w.cp.active w
    have hfirst := programEnded_counted u.fu.abandoned (finished u)
    rw [← hw] at hfirst
    have hall := ((hfirst.after hcounted).trans hdelivered).then (deliverTrip_counted hinactive)
    refine closeAsked_of_counted hclose hall ?_
    rw [deliverTrip_bp hinactive, ← hended]
    simp [finished]
  obtain ⟨hpairs, hrecords⟩ := deliverTrip_leaves hinactive
  have hcp : (settle u).cp = w.cp := by
    rw [hsettled, (pump_kept hasked).1]
    simp
  refine ⟨by rw [hcp, hactive], by rw [hcp, hnone], fun k => ?_, ?_⟩
  · rw [hsettled, (pump_frame _).2.2.1, hpairs, hactive]
    exact (deliverLimits_pair b.limits w k).1
  · rw [hsettled, pump_fifo, hrecords]
    refine List.IsPrefix.trans ?_ ((fifo_grows w.jw.fifo).deliverLimits _ w (List.prefix_refl _))
    rw [hjw]
    exact List.prefix_refl _

/-- The event that ends a program under which no block was staged. -/
theorem Finishing.settle_of_none_kept (hstaged : u.cp.staged = none) (hclose : CloseAsked u) :
    (settle u).cp =
        (if inProgressIs stopCode u then { u.cp with inProgress := none, lastResult := stopResult u.fu.abandoned }
          else u.cp) ∧
      (settle u).jw.fifo =
        (u.jw.offer (endedRecord { u with su := { u.su with program := .idle, retireIncomplete := u.fu.abandoned } }
          u.fu.abandoned)).fifo := by
  obtain ⟨hcp, hjw, hbp⟩ := programEnded_of_none (s := finished u) hstaged u.fu.abandoned
  have hcounted : Counted 0 0 0 u (finished u) := .of_eq rfl rfl
  have hasked : CloseAsked (programEnded u.fu.abandoned (finished u)) :=
    closeAsked_of_counted hclose ((programEnded_counted u.fu.abandoned (finished u)).after hcounted) (by rw [hbp]; rfl)
  rw [h.settle_of_none hstaged, (pump_kept hasked).1, pump_fifo, hcp, hjw]
  exact ⟨rfl, rfl⟩

end

end Sys2Proof.Machine
end

/-! RETIRE_WRITE_COMPLETE (R27, R29, R30, R35, R95, R96). -/
section
namespace Sys2Proof.Machine

theorem retireWrite_ends {s : State} {w : RetireWord} {a : Addr} (h : inFlightIs s (.retireWrite w) a) (r : WriteResult) :
    exec (.retireWriteComplete r) s = .next (retireEnd r (freed s)) :=
  next_congr (endTransfer_of_inFlightIs (act := fun _ => retireEnd r) h rfl)

/-! ## The retire word (12.3) -/

theorem retireWord_bytes (w : RetireWord) :
    w.bytes.length = 8 ∧ leAt w.bytes 0 1 = 1 ∧
      leAt w.bytes 1 1 = (match w.outcome with | .played => 1 | .cut => 2 | .rejected => 3) ∧
        leAt w.bytes 2 1 = w.admitted % 256 ∧ leAt w.bytes 3 1 = 0 ∧ leAt w.bytes 4 4 = w.pt.toNat := by
  have hhead : leAt w.bytes 4 4 = leAt (bytesOf 4 w.pt) 0 4 := leAt_append_right (by simp)
  refine ⟨by simp [RetireWord.bytes], ?_, ?_, ?_, ?_, hhead.trans (leAt_bytesOf w.pt rfl)⟩
  · simp [leAt_one, RetireWord.bytes, byteAt]
  · cases h : w.outcome <;> simp [leAt_one, RetireWord.bytes, byteAt, byteOf, StripOutcome.code, h]
  · simp [leAt_one, RetireWord.bytes, byteAt, byteOf]
  · simp [leAt_one, RetireWord.bytes, byteAt]

/-! ## A strip that is retired (R29) -/

/-- The state once the oldest slot is freed. -/
structure Retired (sl : Slot) (rest : List Slot) (s v : State) : Prop where
  fu : v.fu = { s.fu with table := rest }
  su : v.su = s.su
  ending : Ending s v
  jw : v.jw = s.jw
  tallies : v.ev.tallies = s.ev.tallies
  cause : pendingCause .stripRetired v = (pendingCause .stripRetired s || sl.notifyRetire)
  filed : v.bp.Filed
  idle : s.bp.fu = none → v.bp.outstanding .fu = false

theorem takeRetired_retired {s u : State} (hf : Freed s u) {sl : Slot} {rest : List Slot} (h : s.fu.table = sl :: rest) :
    Retired sl rest s (takeRetired u) := by
  have htaken : takeRetired u = if sl.notifyRetire then raise .stripRetired { u with fu := { u.fu with table := rest } }
      else { u with fu := { u.fu with table := rest } } := by
    unfold takeRetired
    rw [hf.fu, h]
  have hending := hf.ending { u.fu with table := rest }
  have hfu : ({ u.fu with table := rest } : FetchUnit) = { s.fu with table := rest } := by rw [hf.fu]
  rw [htaken]
  by_cases hnotify : sl.notifyRetire = true
  · rw [if_pos hnotify]
    refine ⟨hfu, hf.su, ⟨⟨hending.base.su, hending.base.opened, hf.base.os, hf.base.gu, hf.base.tb, hf.base.cx, hf.base.pins,
      hf.base.resetAsserted, hf.base.pending⟩, hf.cp, hf.closeAsked, hf.tracking.trip, hending.program⟩, hf.jw,
      (congrArg EventUnit.tallies hf.ev :), ?_, hf.filed, hf.idle⟩
    rw [hnotify, Bool.or_true]
    exact raise_pending .stripRetired _
  · rw [if_neg hnotify]
    refine ⟨hfu, hf.su, hending, hf.jw, congrArg EventUnit.tallies hf.ev, ?_, hf.filed, hf.idle⟩
    rw [pendingCause, show ({ u with fu := { u.fu with table := rest } } : State).ev = s.ev from hf.ev,
      (Bool.not_eq_true _).mp hnotify, Bool.or_false]
    rfl

/-- The slots that remain are judged as they were. -/
theorem markReady_tail {f : FetchUnit} {sl : Slot} {rest : List Slot} (hjudged : f.markReady = f)
    (h : f.table = sl :: rest) : ({ f with table := rest } : FetchUnit).markReady.table = rest := by
  rw [markReady_table]
  refine (List.map_congr_left fun x hx => ?_).trans (List.map_id _)
  have hsame : slotJudged { f with table := rest } = slotJudged f := by
    refine slotJudged_congr rfl fun _ => ?_
    have hlast : f.table.getLast? = rest.getLast? := by
      rw [h, List.getLast?_cons_of_ne_nil (List.ne_nil_of_mem hx)]
    rw [hlast]
  rw [hsame]
  exact slotJudged_of_judged hjudged (by rw [h]; exact List.mem_cons_of_mem _ hx)

section
variable {s v : State} {sl : Slot} {rest : List Slot} (hr : Retired sl rest s v) (hdone : s.fu.doneNotice = none)
  (h : s.fu.state = .stopped → rest ≠ [])
include hr hdone h

theorem Retired.tracking : Tracking v :=
  ⟨hr.ending.trip, by rw [hr.fu]; exact h, fun _ => by rw [hr.fu]; exact hdone⟩

/-- What the end of a retire write leaves of the rest. -/
theorem Retired.settled (hquiet : Quiet s) (htable : s.fu.table = sl :: rest) :
    let t := settle v
    t.fu.table = rest ∧ t.fu.state = s.fu.state ∧
      pendingCause .stripRetired t = (pendingCause .stripRetired s || sl.notifyRetire) ∧ t.su = s.su ∧ t.os = s.os ∧
        t.gu = s.gu ∧ t.tb = s.tb ∧ t.cx = s.cx ∧ t.cp = s.cp ∧ t.jw.fifo = s.jw.fifo := by
  have htracking := hr.tracking hdone h
  obtain ⟨kos, kgu, ktb, kcx, kcp⟩ := hr.ending.settled htracking
  obtain ⟨ktable, kstate⟩ := htracking.settle_table
  refine ⟨ktable.trans ?_, kstate.trans (by rw [hr.fu]), (htracking.settle_pendingCause (by decide) (by decide)).trans
    hr.cause, htracking.settle_parts.1.trans hr.su, kos, kgu, ktb, kcx, kcp, htracking.settle_fifo.trans (by rw [hr.jw])⟩
  rw [hr.fu]
  exact markReady_tail hquiet.2.1 htable

/-- The reads that follow a retirement (R17, R20, R23, R29). -/
theorem Retired.asks (hnone : s.bp.fu = none) :
    FetchAsked (settle v) ∧
      (rest ≠ [] → s.fu.state = .watching → s.fu.rereadWanted = true → LinkAsked s (settle v)) ∧
        ∀ n, s.fu.nextAddress = some n → s.fu.state = .fetching →
          (∀ x ∈ ({ s.fu with table := rest } : FetchUnit).newest, x.state ≠ .fetching) →
            HeaderNext n s.fu.nextSequence (settle v) := by
  have htracking := hr.tracking hdone h
  have hidle := hr.idle hnone
  refine ⟨htracking.settle_fetchAsked hr.filed hidle, fun hrest hwatching hwanted => ?_, fun n hn hst hnewest => ?_⟩
  · exact htracking.settle_linkAsked hidle (by rw [hr.fu]; exact hwatching) (by rw [hr.fu]; exact hwanted)
      (by rw [hr.fu]; exact hrest) (by rw [hr.tallies])
  · have hheader := htracking.settle_headerNext (a := n) hr.filed hidle (by rw [hr.fu]; exact hst)
      (by rw [hr.fu]; exact hnewest) (by rw [hr.fu]; exact hn)
    rw [hr.fu] at hheader
    exact hheader

/-- A FETCHING unit that tracks nothing and knows no address asks for nothing. -/
theorem Retired.idles (hrest : rest = []) (hst : s.fu.state = .fetching) (hnext : s.fu.nextAddress = none)
    (hnone : s.bp.fu = none) : (settle v).bp.outstanding .fu = false := by
  have htracking := hr.tracking hdone h
  obtain ⟨w, hw⟩ : ∃ w, w = jwPump (reportStarved (marked v)) := ⟨_, rfl⟩
  obtain ⟨rtable, rstate, raddress, _⟩ := reportStarved_fu (marked v)
  have hfu : w.fu = (reportStarved (marked v)).fu := by rw [hw]; simp
  have hempty : w.fu.table = [] := by
    rw [hfu, rtable]
    refine (markReady_table_eq_nil _).mpr ?_
    rw [hr.fu]
    exact hrest
  have hstate : w.fu.state = .fetching := by
    rw [hfu, rstate]
    change v.fu.state = _
    rw [hr.fu]
    exact hst
  have haddress : w.fu.nextAddress = none := by
    rw [hfu, raddress]
    change v.fu.nextAddress = _
    rw [hr.fu]
    exact hnext
  have hout : w.bp.outstanding .fu = false := by
    rw [hw, jwPump_outstanding, reportStarved_marked_bp]
    exact hr.idle hnone
  have hfiled : w.bp.Filed := by
    rw [hw]
    exact jwPump_filed _ (by rw [reportStarved_marked_bp]; exact hr.filed)
  have hstill : fuPump w = w := by
    have hread : requestRead w = w := by
      have hnewest : w.fu.newest = none := by rw [FetchUnit.newest, hempty]; rfl
      rw [requestRead, hstate, hnewest]
      unfold requestHeader
      rw [haddress]
    unfold fuPump
    rw [if_neg (by rw [hout]; decide), hempty]
    exact hread
  have hsettled : settle v = grant w := by
    rw [htracking.settle, pump, ← hw, hstill]
  rw [hsettled]
  exact hfiled.grant_outstanding hout

end

/-! ## The last strip of a STOPPING program, and a retire write that fails (R35, R95) -/

/-- The ENDED record of a program whose strips are all retired. -/
theorem endedRecord_complete (s : State) :
    endedRecord { s with su := { s.su with program := .idle, retireIncomplete := false } } false =
      { kind := .program, source := BitVec.ofNat 8 (s.su.outcome.code + 16 * s.su.reason.code), flags := 2#8,
        stamp := s.tb.tl.setWidth 40, value1 := s.su.admissionCount, value2 := s.tb.pt.setWidth 32 } := rfl

/-- The state that the abort of a failed retire write finds. -/
def retireFailed (u : State) : State := busErrorRaised { u with fu := { u.fu with table := [], abandoned := true } }

theorem retireError_eq (u : State) : retireError u = suFault .busWrite (retireFailed u) := rfl

/-- An abort that leaves the FU stopped, with nothing tracked, finishes retirement. -/
theorem enterStopping_finishing_of_stopped {v : State} (htrip : v.gu.tripNotice = none) (hempty : v.fu.table = [])
    (hstopped : (abortedFetch v).state = .stopped) (o : ProgramOutcome) (r : Reason) : Finishing (enterStopping o r v) := by
  obtain ⟨_, _, hlength, _⟩ := abortedFetch_parts v
  refine ⟨by simpa using htrip, ?_, ?_, by simp [ScheduleUnit.stop]⟩
  · rw [enterStopping_fu, hstopped]
  · rw [enterStopping_fu]
    exact List.length_eq_zero_iff.mp (hlength.trans (by rw [hempty]; rfl))

section
variable {s u : State} (hf : Freed s u)
include hf

theorem retireFailed_ending : Ending s (retireFailed u) := (hf.ending _).busErrorRaised

theorem retireFailed_state : (retireFailed u).fu.state = s.fu.state := by
  rw [← hf.fu]
  rfl

/-- A failed retire write under an active program. -/
theorem retireError_active (hactive : s.su.program = .running ∨ s.su.program = .draining)
    (hfetch : (s.su.admissionOpen = true ∧ (s.fu.state = .fetching ∨ s.fu.state = .watching)) ∨ s.fu.state = .stopped) :
    let t := settle (retireError u)
    t.su = { s.su with
      program := .idle, outcome := .faulted, reason := .busWrite, retireIncomplete := true, admissionOpen := false,
      queue := [], waiter := none, agenda := [] } ∧
      t.fu.table = [] ∧ t.fu.state = .idle ∧ pendingCause .busError t = true ∧ pendingCause .programEnd t = true ∧
        t.cx = s.cx ∧ (s.cp.staged = none → t.os = (osEndLevels s).os ∧ t.tb = s.tb) := by
  have hending := retireFailed_ending hf
  have hsu : (retireFailed u).su = s.su := hf.su
  have hstopped : (abortedFetch (retireFailed u)).state = .stopped := by
    refine abortedFetch_stopped ?_
    rw [hsu, retireFailed_state hf]
    exact hfetch
  have hfinishing := enterStopping_finishing_of_stopped hending.trip rfl hstopped .faulted .busWrite
  have herror : retireError u = enterStopping .faulted .busWrite (retireFailed u) := by
    rw [retireError_eq, suFault_of_active (by rw [hsu]; exact hactive)]
  have habandoned : (enterStopping .faulted .busWrite (retireFailed u)).fu.abandoned = true := by
    rw [enterStopping_fu, (abortedFetch_parts _).2.1]
    rfl
  obtain ⟨ksu, kstate, ktable, kended⟩ := hfinishing.settle_parts
  dsimp only
  rw [herror]
  refine ⟨?_, ktable, kstate, aborted_pending (busErrorRaised_pending _) _ _, kended, ?_, fun hstaged => ?_⟩
  · rw [ksu, enterStopping_su, hsu, habandoned]
    rfl
  · simpa using hending.base.cx
  · have hnone : (enterStopping .faulted .busWrite (retireFailed u)).cp.staged = none := by
      rw [(enterStopping_frame _ _ _).2.2.1, hending.cp]
      exact hstaged
    obtain ⟨ktb, kos, _⟩ := hfinishing.settle_steady hnone
    refine ⟨kos.trans ((enterStopping_os _ _ _).trans ?_), ktb.trans (by simpa using hending.base.tb)⟩
    exact (osEndLevels_congr hending.base.os hending.base.gu (congrArg Timebase.tl hending.base.tb)).1

/-- A failed retire write under a STOPPING program. -/
theorem retireError_stopping (hstopping : s.su.program = .stopping) (hstopped : s.fu.state = .stopped) :
    let t := settle (retireError u)
    t.su.program = .idle ∧ t.su.outcome = s.su.outcome ∧ t.su.reason = s.su.reason ∧ t.su.retireIncomplete = true ∧
      t.fu.table = [] ∧ t.fu.state = .idle ∧ pendingCause .busError t = true ∧ pendingCause .programEnd t = true ∧
        t.cx = s.cx ∧ (s.cp.staged = none → t.os = s.os ∧ t.tb = s.tb ∧
          (inProgressIs stopCode s = true → t.cp = { s.cp with inProgress := none, lastResult := .busError }) ∧
            (inProgressIs stopCode s = false → t.cp = s.cp)) := by
  have hending := retireFailed_ending hf
  have hsu : (retireFailed u).su = s.su := hf.su
  have herror : retireError u = retireFailed u := by
    rw [retireError_eq, suFault_of_inactive (by rw [hsu]; exact .inr hstopping)]
  have hfinishing : Finishing (retireFailed u) :=
    ⟨hending.trip, (retireFailed_state hf).trans hstopped, rfl,
      by rw [hsu]; exact hstopping⟩
  obtain ⟨ksu, kstate, ktable, kended⟩ := hfinishing.settle_parts
  have hcode : inProgressIs stopCode (retireFailed u) = inProgressIs stopCode s := by
    rw [inProgressIs, inProgressIs, hending.cp]
  dsimp only
  rw [herror, ksu, hsu]
  refine ⟨rfl, rfl, rfl, rfl, ktable, kstate, settle_pending (busErrorRaised_pending _), kended, ?_, fun hstaged => ?_⟩
  · simpa using hending.base.cx
  · have hnone : (retireFailed u).cp.staged = none := by
      rw [hending.cp]
      exact hstaged
    obtain ⟨ktb, kos, _⟩ := hfinishing.settle_steady hnone
    obtain ⟨kcp, _⟩ := hfinishing.settle_of_none_kept hnone hending.closeAsked
    rw [hcode, hending.cp] at kcp
    refine ⟨kos.trans hending.base.os, ktb.trans hending.base.tb, fun hstop => ?_, fun hstop => ?_⟩
    · rw [kcp, if_pos hstop]
      rfl
    · rw [kcp, if_neg (by rw [hstop]; decide)]

end

/-- The last strip of a STOPPING program is retired. -/
theorem retired_ends {s v : State} {sl : Slot} (hr : Retired sl [] s v) (habandoned : s.fu.abandoned = false)
    (hstopped : s.fu.state = .stopped) (hstopping : s.su.program = .stopping) :
    let ended : Record :=
      { kind := .program, source := BitVec.ofNat 8 (s.su.outcome.code + 16 * s.su.reason.code), flags := 2#8,
        stamp := s.tb.tl.setWidth 40, value1 := s.su.admissionCount, value2 := s.tb.pt.setWidth 32 }
    let t := settle v
    t.su = { s.su with program := .idle, retireIncomplete := false } ∧ t.fu.state = .idle ∧ t.fu.table = [] ∧
      (sl.notifyRetire = true → pendingCause .stripRetired t = true) ∧ pendingCause .programEnd t = true ∧ t.cx = s.cx ∧
        (∀ b, s.cp.staged = some b → t.cp.active = b.limits ∧ t.cp.staged = none ∧
          (∀ k : Fin 8, t.os.pairs[k].deadTime = b.limits.deadTimes[k]) ∧
            ((s.jw.offer
              { kind := .limits, source := 0xFF#8, flags := if b.replaced then 5#8 else 1#8,
                stamp := s.tb.tl.setWidth 40, value1 := 0#32, value2 := 0#32 }).offer ended).fifo <+: t.jw.fifo) ∧
          (s.cp.staged = none → t.jw.fifo = (s.jw.offer ended).fifo ∧
            (inProgressIs stopCode s = true → t.cp = { s.cp with inProgress := none, lastResult := .ok }) ∧
              (inProgressIs stopCode s = false → t.cp = s.cp) ∧ t.os = s.os ∧ t.gu = s.gu ∧ t.tb = s.tb) := by
  have hending := hr.ending
  have hv : v.fu.abandoned = false := by rw [hr.fu]; exact habandoned
  have hfinishing : Finishing v :=
    ⟨hending.trip, by rw [hr.fu]; exact hstopped, by rw [hr.fu], by rw [hr.su]; exact hstopping⟩
  obtain ⟨ksu, kstate, ktable, kended⟩ := hfinishing.settle_parts
  have hcode : inProgressIs stopCode v = inProgressIs stopCode s := by rw [inProgressIs, inProgressIs, hending.cp]
  have hrecord : endedRecord { v with su := { v.su with program := .idle, retireIncomplete := v.fu.abandoned } }
      v.fu.abandoned = endedRecord { s with su := { s.su with program := .idle, retireIncomplete := false } } false := by
    rw [hv, endedRecord_congr (s := { s with su := { s.su with program := .idle, retireIncomplete := false } })
      (by rw [hr.su]) (by exact hending.base.tb)]
  dsimp only
  rw [← endedRecord_complete]
  refine ⟨by rw [ksu, hr.su, hv], kstate, ktable, fun hnotify => settle_pending ?_, kended, by simpa using hending.base.cx,
    fun b hstaged => ?_, fun hstaged => ?_⟩
  · rw [hr.cause, hnotify, Bool.or_true]
  · have hsome : v.cp.staged = some b := by rw [hending.cp]; exact hstaged
    obtain ⟨kactive, knone, kpairs, kfifo⟩ := hfinishing.settle_of_some hsome hending.closeAsked
    rw [hrecord, hr.jw, hending.base.tb] at kfifo
    exact ⟨kactive, knone, kpairs, kfifo⟩
  · have hnone : v.cp.staged = none := by rw [hending.cp]; exact hstaged
    obtain ⟨ktb, kos, kgu⟩ := hfinishing.settle_steady hnone
    obtain ⟨kcp, kfifo⟩ := hfinishing.settle_of_none_kept hnone hending.closeAsked
    rw [hcode, hending.cp, hv] at kcp
    rw [hrecord, hr.jw] at kfifo
    refine ⟨kfifo, fun hstop => ?_, fun hstop => ?_, kos.trans hending.base.os, kgu.trans hending.base.gu,
      ktb.trans hending.base.tb⟩
    · rw [kcp, if_pos hstop]
      rfl
    · rw [kcp, if_neg (by rw [hstop]; decide)]

/-- Settles O47: a slot freed, the last slot of a program, and a retire write that fails. -/
theorem stripRetired : Obligations.StripRetired := by
  intro s w a sl rest hquiet hrested hfiled hflight htable hdone habandoned
  have hf : Freed s (freed s) := freed_of_inFlight hquiet hrested hfiled hflight rfl
  obtain ⟨v, hv⟩ : ∃ v, v = takeRetired (freed s) := ⟨_, rfl⟩
  have hr : Retired sl rest s v := by
    rw [hv]
    exact takeRetired_retired hf htable
  have hok : exec (.retireWriteComplete .ok) s = .next (settle v) := by
    rw [retireWrite_ends hflight, hv]
    rfl
  have herror : exec (.retireWriteComplete .error) s = .next (settle (retireError (freed s))) :=
    retireWrite_ends hflight .error
  dsimp only
  rw [hok, herror]
  refine ⟨fun hrest hst => ?_, fun hrest => ?_, retireWord_bytes w, fun hrest hstopped hstopping => ?_, fun hfetch =>
    ⟨fun hactive => ⟨_, rfl, retireError_active hf hactive (hfetch.imp id And.right)⟩, fun hstopped hstopping =>
      ⟨_, rfl, retireError_stopping hf hstopping hstopped⟩⟩⟩
  · have hgoes : s.fu.state = .stopped → rest ≠ [] := fun h => by rw [hst] at h; cases h
    obtain ⟨ktable, kstate, kcause, hsettled⟩ := hr.settled hdone hgoes hquiet htable
    refine ⟨_, rfl, ktable.trans hrest, kstate.trans hst, kcause, fun n hn hnone => ?_,
      fun hnone hnext => hr.idles hdone hgoes hrest hst hnext hnone, hsettled⟩
    obtain ⟨_, _, hheader⟩ := hr.asks hdone hgoes hnone
    have hempty : (settle v).fu.table = [] := ktable.trans hrest
    refine (hheader n hn hst fun x hx => ?_).1 (fun x hx => ?_) fun x hx => ?_
    · rw [FetchUnit.newest, hrest] at hx
      cases hx
    · rw [hempty] at hx
      cases hx
    · rw [hempty] at hx
      cases hx
  · obtain ⟨ktable, kstate, kcause, hsettled⟩ := hr.settled hdone (fun _ => hrest) hquiet htable
    obtain ⟨ksu, kos, kgu, ktb, hothers⟩ := hsettled
    have hnewest : ({ s.fu with table := rest } : FetchUnit).newest = s.fu.newest := by
      rw [FetchUnit.newest, FetchUnit.newest, htable, List.getLast?_cons_of_ne_nil hrest]
    refine ⟨_, rfl, ktable, fun hnotify => by rw [kcause, hnotify, Bool.or_true], kcause, fun hnone => ?_,
      fun x o hx hready ho hnone => ?_, ksu, kos, kgu, ktb, hothers⟩
    · obtain ⟨hasked, hlink, hheader⟩ := hr.asks hdone (fun _ => hrest) hnone
      exact ⟨hasked.2, hlink hrest, fun n hn hst hfetched => hheader n hn hst (by rw [hnewest]; exact hfetched)⟩
    · obtain ⟨hasked, _⟩ := hr.asks hdone (fun _ => hrest) hnone
      have hretire := hasked.1 x (by rw [ktable]; exact hx) hready o ho
      rw [ktb] at hretire
      exact hretire
  · subst hrest
    exact ⟨_, rfl, retired_ends hr habandoned hstopped hstopping⟩

end Sys2Proof.Machine
end

/-! START_PROGRAM accepted (R16, R17, R63, R86, R98). -/
section
namespace Sys2Proof.Machine

/-- The state of an accepted START_PROGRAM before the end of its event. -/
def started (a : Addr) (s : State) : State :=
  complete .ok (offer (startedRecord s.tb.tl a) { s with
    tb := { s.tb with pt := 0#48, timeRangeNotice := false }
    su := s.su.start
    fu := s.fu.start a })

theorem started_tracking {s : State} (hquiet : Quiet s) (a : Addr) : Tracking (started a s) :=
  ⟨hquiet.tracking.trip, nofun, nofun⟩

/-- The unit that has just started asks for the header of the first strip (R17). -/
theorem fuPump_of_started {w : State} {a : Addr} {q : Word} (hout : w.bp.outstanding .fu = false) (htable : w.fu.table = [])
    (hst : w.fu.state = .fetching) (hnext : w.fu.nextAddress = some a) (hsequence : w.fu.nextSequence = q) :
    fuPump w = request (.stripHeaderRead q) a
      { w with fu := { w.fu with nextAddress := none, nextSequence := q + 1#32 } } := by
  have hnewest : w.fu.newest = none := by rw [FetchUnit.newest, htable]; rfl
  have hfree : w.fu.slotFree (slotOfSequence w.fu.nextSequence) = true := by rw [FetchUnit.slotFree, htable]; rfl
  have hread : requestRead w = requestHeader w := by rw [requestRead, hst, hnewest]
  unfold fuPump
  rw [if_neg (by rw [hout]; decide), htable]
  change requestRead w = _
  rw [hread]
  unfold requestHeader
  rw [hnext]
  change (if w.fu.slotFree (slotOfSequence w.fu.nextSequence) = true then _ else _) = _
  rw [if_pos hfree, hsequence]

theorem started_asks {u : State} (h : Tracking u) {a : Addr} {q : Word} (hout : u.bp.outstanding .fu = false)
    (htable : u.fu.table = []) (hst : u.fu.state = .fetching) (hnext : u.fu.nextAddress = some a)
    (hsequence : u.fu.nextSequence = q) :
    (settle u).fu.nextAddress = none ∧ (settle u).fu.nextSequence = q + 1#32 ∧
      (settle u).bp.holds (asked (.stripHeaderRead q) a) := by
  obtain ⟨rtable, rstate, raddress, rsequence, _⟩ := reportStarved_fu (marked u)
  obtain ⟨w, hw⟩ : ∃ w, w = jwPump (reportStarved (marked u)) := ⟨_, rfl⟩
  have hfu : w.fu = (reportStarved (marked u)).fu := by rw [hw]; simp
  have hpumped : fuPump w = request (.stripHeaderRead q) a
      { w with fu := { w.fu with nextAddress := none, nextSequence := q + 1#32 } } := by
    refine fuPump_of_started ?_ ?_ ?_ ?_ ?_
    · rw [hw, jwPump_outstanding, reportStarved_marked_bp]
      exact hout
    · rw [hfu, rtable]
      exact (markReady_table_eq_nil _).mpr htable
    · rw [hfu, rstate]
      exact hst
    · rw [hfu, raddress]
      exact hnext
    · rw [hfu, rsequence]
      exact hsequence
  rw [h.settle, pump, ← hw, hpumped]
  exact ⟨rfl, rfl, request_holds _ _ _⟩

/-- Settles O18: the program runs, the FU fetches, the STARTED record is offered. -/
theorem startProgramStarts : Obligations.StartProgramStarts := by
  intro op s hready hquiet hrested hidle hloaded hlatch haligned
  have hargument : argument (portTaken 3#8 op s) = argWords s := argument_portTaken 3#8 op s
  obtain ⟨v, hv⟩ : ∃ v, v = started (argWords s) (portTaken 3#8 op s) := ⟨_, rfl⟩
  have hexec : exec (.startProgram op) s = .next (settle v) := by
    rw [exec_startProgram_of_ready hready,
      takeStart_accepted (s := portTaken 3#8 op s) hidle hloaded hlatch (by rw [hargument]; exact haligned), hargument, hv]
    rfl
  have htracking : Tracking v := by
    rw [hv]
    exact started_tracking (s := portTaken 3#8 op s) (hquiet.of_same ⟨rfl, rfl, rfl⟩) _
  have hclose : CloseAsked v := by
    rw [hv]
    exact hrested.closeAsked.offer (startedRecord s.tb.tl (argWords s))
  have hrecord : startedRecord s.tb.tl (argWords s) =
      { kind := .program, source := 0#8, flags := 1#8, stamp := s.tb.tl.setWidth 40, value1 := s.cp.argLo,
        value2 := s.cp.argHi } := by
    have hlow : (argWords s).extractLsb' 0 32 = s.cp.argLo := BitVec.extractLsb'_append_eq_right
    have hhigh : (argWords s).extractLsb' 32 32 = s.cp.argHi := BitVec.extractLsb'_append_eq_left
    rw [startedRecord, hlow, hhigh]
    rfl
  have hdone : pendingCause .cmdDone v = true := by
    rw [hv]
    exact raise_pending .cmdDone _
  obtain ⟨ksu, kos, kgu, ktb, koracle⟩ := htracking.settle_parts
  obtain ⟨ktable, kstate⟩ := htracking.settle_table
  rw [hexec]
  refine ⟨_, rfl, (htracking.settle_kept hclose).1.trans ?_, ktb.trans ?_, ksu.trans ?_, kstate.trans ?_, ktable.trans ?_,
    fun hout => ?_, fun hout => ?_, htracking.settle_fifo.trans ?_, settle_pending hdone, kos.trans ?_, kgu.trans ?_, ?_, ?_,
    koracle.trans ?_⟩
  · rw [hv]
    exact (congrArg State.cp (complete_portTaken 3#8 op .ok s) :)
  · rw [hv]; rfl
  · rw [hv]; rfl
  · rw [hv]; rfl
  · rw [hv]; rfl
  · have hasked := started_asks htracking (a := argWords s) (q := 0#32) (by rw [hv]; exact hout) (by rw [hv]; rfl)
      (by rw [hv]; rfl) (by rw [hv]; rfl) (by rw [hv]; rfl)
    exact hasked
  · obtain ⟨_, _, haddress, hsequence, _⟩ := reportStarved_fu (marked v)
    have hbusy : (reportStarved (marked v)).bp.outstanding .fu = true := by
      rw [reportStarved_marked_bp, hv]
      exact hout
    rw [htracking.settle, pump_fu_of_outstanding hbusy, haddress, hsequence, hv]
    exact ⟨rfl, rfl⟩
  · rw [hv, ← hrecord]
    rfl
  · rw [hv]; rfl
  · rw [hv]; rfl
  · simp [hv, started, portTaken]
  · simp [hv, started, portTaken]
  · rw [hv]; rfl

end Sys2Proof.Machine
end

/-! RECOGNIZED_EDGE (R59, R141 to R149). -/
section
namespace Sys2Proof.Machine

/-! ## The channel (R141 to R148) -/

theorem setChannel_same (n : Fin 16) (c : Channel) (x : CaptureUnit) : (x.setChannel n c).channels[n] = c :=
  Vector.getElem_set_self n.isLt

theorem setChannel_other {n m : Fin 16} (h : m ≠ n) (c : Channel) (x : CaptureUnit) :
    (x.setChannel n c).channels[m] = x.channels[m] :=
  Vector.getElem_set_ne n.isLt m.isLt fun e => h (Fin.ext e.symm)

/-- The stamps of a channel after an edge, by its mode. -/
theorem stamped_stamps (t : Time) (e : Edge) (c : Channel) :
    (c.stamped t e).lastLeading =
        (if c.select.names e = true ∧ (c.mode = .interval ∨ c.mode = .cycle) then some t else c.lastLeading) ∧
      (c.stamped t e).phase =
        (match c.mode with
          | .edge | .interval => c.phase
          | .width => if c.select.names e then some t else none
          | .cycle => if c.select.names e then none else if c.lastLeading.isSome then some t else c.phase) ∧
        (c.stamped t e).decimationCount = c.decimationCount := by
  unfold Channel.stamped
  cases hmode : c.mode <;> cases hnames : c.select.names e
  case cycle.false => cases hlast : c.lastLeading <;> simp [hlast]
  all_goals simp

/-- A channel after an edge: its level, its stamps and its count. -/
theorem channel_edge (n : Fin 16) (t : Time) (e : Edge) (c : Channel) :
    (c.edge n t e).high = edgeLevel e ∧ (c.edge n t e).lastLeading = (c.stamped t e).lastLeading ∧
      (c.edge n t e).phase = (c.stamped t e).phase ∧
        (c.edge n t e).decimationCount =
          (if wouldBe n t e c = none then c.decimationCount
            else if c.decimation ≤ c.decimationCount + 1 then 0 else c.decimationCount + 1) := by
  have hcount : (c.stamped t e).decimationCount = c.decimationCount := (stamped_stamps t e c).2.2
  have hdecimation : (c.stamped t e).decimation = c.decimation := by
    unfold Channel.stamped
    repeat' split
    all_goals rfl
  unfold Channel.edge
  dsimp only
  cases hwould : wouldBe n t e c with
  | none => exact ⟨rfl, rfl, rfl, hcount⟩
  | some r =>
    refine ⟨rfl, rfl, rfl, ?_⟩
    simp [Channel.decimated, Channel.letsThrough, hcount, hdecimation]

/-! ## What an edge measures (R143 to R147) -/

theorem reported_elapsed (a t : Time) :
    reported (elapsed a t) = if (t - a).toNat < 2 ^ 32 then (t - a).setWidth 32 else 0xFFFFFFFF#32 := by
  have hvalue : BitVec.ofNat 32 (t - a).toNat = (t - a).setWidth 32 := by
    apply BitVec.eq_of_toNat_eq
    simp
  unfold reported elapsed
  rw [hvalue]
  rfl

theorem limited_flag (a t : Time) :
    byteOf (limited (elapsed a t)).toNat = if (t - a).toNat < 2 ^ 32 then 0#8 else 1#8 := by
  unfold limited elapsed
  by_cases h : (t - a).toNat < 2 ^ 32
  · rw [if_pos h, decide_eq_true h]; rfl
  · rw [if_neg h, decide_eq_false h]; rfl

theorem byteOf_or (a b : Bool) : byteOf (a || b).toNat = byteOf a.toNat ||| byteOf b.toNat := by
  cases a <;> cases b <;> rfl

/-- The record of an edge of channel `n` at `t`. -/
def edgeRecord (n : Fin 16) (t : Time) (kind : RecordKind) (flags : Byte) (v1 v2 : Word) : Record :=
  { kind := kind, source := BitVec.ofNat 8 n.val, flags := flags, stamp := t.setWidth 40, value1 := v1, value2 := v2 }

/-- A difference of stamps limited to 32 bits, and its SATURATED flag (R147). -/
def limitedValue (d : Time) : Word := if d.toNat < 2 ^ 32 then d.setWidth 32 else 0xFFFFFFFF#32

def saturatedFlag (d : Time) : Byte := if d.toNat < 2 ^ 32 then 0#8 else 1#8

theorem edgeMeasure_eq (n : Fin 16) (t : Time) (e : Edge) (c : Channel) :
    edgeMeasure n t e c =
      if c.select.names e then
        some (edgeRecord n t .captureEdge 0#8 (match e with | .rise => 0#32 | .fall => 1#32)
          ((t.extractLsb' 40 8).setWidth 32))
      else none := by
  unfold edgeMeasure
  cases e <;> rfl

theorem intervalMeasure_eq (n : Fin 16) (t : Time) (e : Edge) (c : Channel) :
    intervalMeasure n t e c =
      if c.select.names e then
        c.lastLeading.map fun a => edgeRecord n t .captureInterval (saturatedFlag (t - a)) (limitedValue (t - a)) 0#32
      else none := by
  unfold intervalMeasure
  cases c.select.names e with
  | false => rfl
  | true =>
    cases c.lastLeading with
    | none => rfl
    | some a =>
      simp only [captureRecord, limited_flag, reported_elapsed]
      rfl

theorem widthMeasure_eq (n : Fin 16) (t : Time) (e : Edge) (c : Channel) :
    widthMeasure n t e c =
      if c.select.names e then none
      else c.phase.map fun a => edgeRecord n t .captureWidth (saturatedFlag (t - a)) (limitedValue (t - a)) 0#32 := by
  unfold widthMeasure
  cases c.select.names e with
  | true => rfl
  | false =>
    cases c.phase with
    | none => rfl
    | some a =>
      simp only [captureRecord, limited_flag, reported_elapsed]
      rfl

theorem cycleMeasure_eq (n : Fin 16) (t : Time) (e : Edge) (c : Channel) :
    cycleMeasure n t e c =
      match c.select.names e, c.lastLeading, c.phase with
      | true, some a, some b =>
        some (edgeRecord n t .captureCycle (saturatedFlag (t - a) ||| saturatedFlag (b - a)) (limitedValue (t - a))
          (limitedValue (b - a)))
      | _, _, _ => none := by
  unfold cycleMeasure
  cases c.select.names e with
  | false => rfl
  | true =>
    cases c.lastLeading with
    | none => rfl
    | some a =>
      cases c.phase with
      | none => rfl
      | some b =>
        simp only [captureRecord, byteOf_or, limited_flag, reported_elapsed]
        rfl

/-! ## The notice to the SU (R59) -/

theorem completesWait_iff (n : Fin 16) (e : Edge) (s : State) :
    completesWait n e s = true ↔
      s.su.program = .running ∧ ∃ w, s.su.waiter = some w ∧ w.channel = n ∧ w.edge.accepts e = true := by
  unfold completesWait
  cases s.su.waiter <;> simp

/-- The WAIT record of an edge that ends a wait. -/
def waitedRecord (n : Fin 16) (s : State) : Record :=
  { kind := .wait, source := BitVec.ofNat 8 n.val, flags := 0#8, stamp := s.tb.tl.setWidth 40, value1 := 0#32,
    value2 := s.tb.pt.setWidth 32 }

theorem suEdgeNotice_of_awaited {n : Fin 16} {e : Edge} {s : State} (h : completesWait n e s = true) :
    suEdgeNotice n e s = offer (waitedRecord n s) { s with su := s.su.waitEnded s.tb.pt } := if_pos h

theorem suEdgeNotice_of_not_awaited {n : Fin 16} {e : Edge} {s : State} (h : completesWait n e s = false) :
    suEdgeNotice n e s = s := if_neg (by rw [h]; decide)

theorem offerSome_counts (r : Option Record) (s : State) : Counted r.toList.length 0 0 s (offerSome r s) := by
  cases r with
  | none => exact .refl s
  | some r => exact offer_counts r s

theorem offerSome_jw (r : Option Record) (s : State) : (offerSome r s).jw = r.elim s.jw fun x => s.jw.offer x := by
  cases r <;> rfl

theorem offerSome_starved (r : Option Record) (s : State) :
    pendingCause .starved (offerSome r s) = pendingCause .starved s := by
  cases r with
  | none => rfl
  | some r => exact offer_pendingCause r s (by decide)

theorem noticeEdge_starved (n : Fin 16) (e : Edge) (r : Option Record) (b : State) :
    pendingCause .starved (noticeEdge n e r b) = pendingCause .starved b := by
  have hsu (s : State) : pendingCause .starved (suEdgeNotice n e s) = pendingCause .starved s := by
    unfold suEdgeNotice
    split
    · exact offer_pendingCause _ _ (by decide)
    · rfl
  unfold noticeEdge
  split
  · rw [hsu, offerSome_starved]; rfl
  · rw [offerSome_starved, hsu]; rfl

/-- Whether a wait is completed is a matter of the SU. -/
theorem completesWait_congr {s t : State} (h : t.su = s.su) (n : Fin 16) (e : Edge) :
    completesWait n e t = completesWait n e s := by
  unfold completesWait
  rw [h]

/-- The records of an edge that no program awaits. -/
theorem noticeEdge_of_not_awaited {n : Fin 16} {e : Edge} {b : State} (h : completesWait n e b = false)
    (r : Option Record) :
    (noticeEdge n e r b).su = b.su ∧ (noticeEdge n e r b).jw = (r.elim b.jw fun x => b.jw.offer x) ∧
      Counted r.toList.length 0 0 b (noticeEdge n e r b) := by
  have hdrawn : completesWait n e (afterDraw b) = false := h
  have hoffered : completesWait n e (offerSome r (afterDraw b)) = false := by
    rw [completesWait_congr (s := b) (by simp [afterDraw])]
    exact h
  have hnoticed : noticeEdge n e r b = offerSome r (afterDraw b) := by
    unfold noticeEdge
    rw [suEdgeNotice_of_not_awaited hdrawn, suEdgeNotice_of_not_awaited hoffered]
    split <;> rfl
  rw [hnoticed]
  exact ⟨by simp [afterDraw], offerSome_jw r _, (offerSome_counts r _).after (.of_eq rfl rfl)⟩

/-- The records of an edge that the program awaits, in either order. -/
theorem noticeEdge_of_awaited {n : Fin 16} {e : Edge} {b : State} (h : completesWait n e b = true) (r : Option Record) :
    (noticeEdge n e r b).su = b.su.waitEnded b.tb.pt ∧
      (b.oracle % 2 = 0 →
        (noticeEdge n e r b).jw = r.elim (b.jw.offer (waitedRecord n b)) fun x => (b.jw.offer (waitedRecord n b)).offer x) ∧
        (b.oracle % 2 = 1 →
          (noticeEdge n e r b).jw = (r.elim b.jw fun x => b.jw.offer x).offer (waitedRecord n b)) ∧
          Counted (r.toList.length + 1) 0 0 b (noticeEdge n e r b) := by
  obtain ⟨x, hx⟩ : ∃ x, x = offerSome r (afterDraw b) := ⟨_, rfl⟩
  have hsu : x.su = b.su := by simp [hx, afterDraw]
  have htb : x.tb = b.tb := by simp [hx, afterDraw]
  have hjw : x.jw = r.elim b.jw fun y => b.jw.offer y := by rw [hx]; exact offerSome_jw r _
  have hdrawn : completesWait n e (afterDraw b) = true := h
  have hoffered : completesWait n e x = true := by rw [completesWait_congr hsu]; exact h
  have hrecord : waitedRecord n x = waitedRecord n b := by
    unfold waitedRecord
    rw [htb]
  have hafter : Counted 0 0 0 b (afterDraw b) := .of_eq rfl rfl
  have hcounted : Counted r.toList.length 0 0 b x := by rw [hx]; exact (offerSome_counts r _).after hafter
  unfold noticeEdge
  by_cases horacle : drawn b = true
  · have hone : b.oracle % 2 = 1 := beq_iff_eq.mp horacle
    rw [if_pos horacle, ← hx, suEdgeNotice_of_awaited hoffered, hrecord]
    refine ⟨?_, fun hzero => by omega, fun _ => ?_, ?_⟩
    · change x.su.waitEnded x.tb.pt = _
      rw [hsu, htb]
    · rw [← hjw]
      rfl
    · have hlast : Counted 1 0 0 x (offer (waitedRecord n b) { x with su := x.su.waitEnded x.tb.pt }) :=
        (offer_counts _ _).after (.of_eq rfl rfl)
      exact hcounted.trans hlast
  · have hzero : b.oracle % 2 ≠ 1 := fun hone => horacle (beq_iff_eq.mpr hone)
    rw [if_neg horacle, suEdgeNotice_of_awaited hdrawn]
    refine ⟨by simp [offer, afterDraw], fun _ => offerSome_jw r _, fun hone => absurd hone hzero, ?_⟩
    have hfirst : Counted 1 0 0 b (offer (waitedRecord n (afterDraw b)) { afterDraw b with
        su := (afterDraw b).su.waitEnded (afterDraw b).tb.pt }) := (offer_counts _ _).after (.of_eq rfl rfl)
    have hall := hfirst.trans (offerSome_counts r _)
    rw [Nat.add_comm] at hall
    exact hall

/-! ## The event (R141) -/

theorem exec_recognizedEdge (n : Fin 16) (e : Edge) (s : State) :
    exec (.recognizedEdge n e) s = .next (takeEdge n e s) := rfl

theorem canRecognize_iff {n : Fin 16} {e : Edge} {s : State} :
    canRecognize n e s = true ↔ s.cx.channels[n].enable = true ∧ s.cx.channels[n].high ≠ edgeLevel e := by
  rw [canRecognize, Bool.and_eq_true, bne_iff_ne]

/-- The state of an edge once its channel and its pin have taken it. -/
def edgeTaken (n : Fin 16) (e : Edge) (s : State) : State :=
  { s with
    cx := s.cx.setChannel n (s.cx.channels[n].edge n s.tb.tl e)
    pins := setInputPin n (edgeLevel e) s.pins }

theorem recognizeEdge_eq (n : Fin 16) (e : Edge) (s : State) :
    recognizeEdge n e s = noticeEdge n e (offeredBy n s.tb.tl e s.cx.channels[n]) (edgeTaken n e s) := rfl

/-- A wait that is not at its deadline is not ended by a timeout. -/
theorem takeWaitTimeout_of_waiting {s : State} (h : ∀ w ∈ s.su.waiter, w.deadline ≠ some s.tb.pt) :
    takeWaitTimeout s = s := by
  cases hw : s.su.waiter with
  | none => exact takeWaitTimeout_of_none hw
  | some w => exact takeWaitTimeout_of_early hw (h w hw)

theorem takeEdge_of_recognized {n : Fin 16} {e : Edge} {s : State} (henable : s.cx.channels[n].enable = true)
    (hlevel : s.cx.channels[n].high ≠ edgeLevel e) (hwait : ∀ w ∈ s.su.waiter, w.deadline ≠ some s.tb.pt) :
    takeEdge n e s = settle (recognizeEdge n e s) := by
  rw [takeEdge, if_pos (canRecognize_iff.mpr ⟨henable, hlevel⟩), takeWaitTimeout_of_waiting hwait]

theorem setInputPin_getLsbD (n : Fin 16) (b : Bool) (p : Pins) : (setInputPin n b p).inputs.getLsbD n.val = b := by
  have hn := n.isLt
  unfold setInputPin
  cases b <;> simp [hn]

section
variable {n : Fin 16} {e : Edge} {s : State} (hquiet : Quiet s) (hrested : Rested s)
include hquiet hrested

/-- What an edge leaves at the end of its event, whether a program awaits it or not. -/
theorem recognizeEdge_settled :
    let t := settle (recognizeEdge n e s)
    t.cx = s.cx.setChannel n (s.cx.channels[n].edge n s.tb.tl e) ∧ t.pins.inputs.getLsbD n.val = edgeLevel e ∧
      StarvedJudged s t ∧ t.os = s.os ∧ t.gu = s.gu ∧ t.tb = s.tb ∧ t.cp = s.cp ∧
        t.su = (recognizeEdge n e s).su ∧ t.jw.fifo = (recognizeEdge n e s).jw.fifo ∧
          ∀ k, Counted k 0 0 s (recognizeEdge n e s) → OffersCounted k s t := by
  obtain ⟨u, hu⟩ : ∃ u, u = recognizeEdge n e s := ⟨_, rfl⟩
  have hfu : u.fu = s.fu := by simp [hu]
  have hgu : u.gu = s.gu := by simp [hu]
  have hos : u.os = s.os := by simp [hu]
  have htb : u.tb = s.tb := by simp [hu]
  have hcp : u.cp = s.cp := by simp [hu]
  have hbp : u.bp = s.bp := by simp [hu]
  have hcx : u.cx = s.cx.setChannel n (s.cx.channels[n].edge n s.tb.tl e) := by simp [hu, recognizeEdge]
  have hpins : u.pins = setInputPin n (edgeLevel e) s.pins := by simp [hu, recognizeEdge]
  have hprogram : u.su.program = s.su.program := by rw [hu, recognizeEdge_program]
  have hcounted : ∃ k, Counted k 0 0 s u := by
    have htaken : Counted 0 0 0 s (edgeTaken n e s) := .of_eq rfl rfl
    by_cases hawaited : completesWait n e (edgeTaken n e s) = true
    · exact ⟨_, by rw [hu]; exact (noticeEdge_of_awaited hawaited _).2.2.2.after htaken⟩
    · exact ⟨_, by rw [hu]; exact (noticeEdge_of_not_awaited ((Bool.not_eq_true _).mp hawaited) _).2.2.after htaken⟩
  have htracking : Tracking u := by
    obtain ⟨qtrip, qtracked, qdone⟩ := hquiet.tracking
    exact ⟨by rw [hgu]; exact qtrip, by rw [hfu]; exact qtracked, by rw [hfu, hprogram]; exact qdone⟩
  have hclose : CloseAsked u := by
    obtain ⟨_, hk⟩ := hcounted
    exact closeAsked_of_counted hrested.closeAsked hk (by rw [hbp])
  obtain ⟨ksu, kos, kgu, ktb, _⟩ := htracking.settle_parts
  dsimp only
  rw [← hu]
  refine ⟨?_, ?_, htracking.settle_starved ?_ (by rw [hfu]), kos.trans hos, kgu.trans hgu, ktb.trans htb,
    (htracking.settle_kept hclose).1.trans hcp, ksu, htracking.settle_fifo, fun k hk => htracking.settle_counted hclose hk.offers⟩
  · simpa using hcx
  · rw [(settle_frame u).2.1, hpins]
    exact setInputPin_getLsbD _ _ _
  · rw [hu, recognizeEdge_eq, noticeEdge_starved]
    rfl

end

/-- The record that an edge offers, by decimation. -/
theorem offeredBy_eq (n : Fin 16) (t : Time) (e : Edge) (c : Channel) :
    offeredBy n t e c = if c.decimation ≤ c.decimationCount + 1 then wouldBe n t e c else none := by
  unfold offeredBy Channel.letsThrough
  by_cases h : c.decimation ≤ c.decimationCount + 1
  · rw [if_pos h, if_pos (decide_eq_true h)]
  · rw [if_neg h, if_neg (by rw [decide_eq_false h]; decide)]

/-- The measurement that each mode completes (R143 to R146). -/
theorem measure_of_edge {n : Fin 16} {t : Time} {e : Edge} {c : Channel} (hmode : c.mode = .edge) :
    c.select.names e = true → measure n t e c = some (edgeRecord n t .captureEdge 0#8
      (match e with | .rise => 0#32 | .fall => 1#32) ((t.extractLsb' 40 8).setWidth 32)) := by
  intro hnames
  rw [measure, hmode]
  exact (edgeMeasure_eq n t e c).trans (if_pos hnames)

theorem measure_of_interval {n : Fin 16} {t a : Time} {e : Edge} {c : Channel} (hmode : c.mode = .interval)
    (hnames : c.select.names e = true) (hlast : c.lastLeading = some a) :
    measure n t e c = some (edgeRecord n t .captureInterval (saturatedFlag (t - a)) (limitedValue (t - a)) 0#32) := by
  rw [measure, hmode]
  exact (intervalMeasure_eq n t e c).trans ((if_pos hnames).trans (by rw [hlast]; rfl))

theorem measure_of_width {n : Fin 16} {t a : Time} {e : Edge} {c : Channel} (hmode : c.mode = .width)
    (hnames : c.select.names e = false) (hphase : c.phase = some a) :
    measure n t e c = some (edgeRecord n t .captureWidth (saturatedFlag (t - a)) (limitedValue (t - a)) 0#32) := by
  rw [measure, hmode]
  exact (widthMeasure_eq n t e c).trans ((if_neg (by rw [hnames]; decide)).trans (by rw [hphase]; rfl))

theorem measure_of_cycle {n : Fin 16} {t a b : Time} {e : Edge} {c : Channel} (hmode : c.mode = .cycle)
    (hnames : c.select.names e = true) (hlast : c.lastLeading = some a) (hphase : c.phase = some b) :
    measure n t e c = some (edgeRecord n t .captureCycle (saturatedFlag (t - a) ||| saturatedFlag (b - a))
      (limitedValue (t - a)) (limitedValue (b - a))) := by
  rw [measure, hmode]
  refine (cycleMeasure_eq n t e c).trans ?_
  rw [hnames, hlast, hphase]

theorem offeredBy_of_silent {n : Fin 16} {t : Time} {e : Edge} {c : Channel} (h : c.record = false) :
    offeredBy n t e c = none := by
  have hwould : wouldBe n t e c = none := if_neg (by rw [h]; decide)
  rw [offeredBy_eq, hwould, ite_self]

theorem offeredBy_of_every {n : Fin 16} {t : Time} {e : Edge} {c : Channel} (h : c.record = true)
    (hall : c.decimation = 1) : offeredBy n t e c = measure n t e c := by
  rw [offeredBy_eq, if_pos (by omega)]
  exact if_pos h

section
variable {n : Fin 16} {e : Edge} {s : State} (hquiet : Quiet s) (hrested : Rested s)
include hquiet hrested

/-- An edge that the program awaits ends the wait, with its record before or after the capture record. -/
theorem recognizeEdge_awaited (h : completesWait n e s = true) :
    let r := offeredBy n s.tb.tl e s.cx.channels[n]
    let t := settle (recognizeEdge n e s)
    t.su = { s.su with waiter := none, anchor := s.tb.pt, cursor := s.tb.pt } ∧ OffersCounted (r.toList.length + 1) s t ∧
      (s.oracle % 2 = 0 → t.jw.fifo =
        (r.elim (s.jw.offer (waitedRecord n s)) fun x => (s.jw.offer (waitedRecord n s)).offer x).fifo) ∧
        (s.oracle % 2 = 1 → t.jw.fifo = ((r.elim s.jw fun x => s.jw.offer x).offer (waitedRecord n s)).fifo) := by
  obtain ⟨_, _, _, _, _, _, _, ksu, kfifo, kcounted⟩ := recognizeEdge_settled (n := n) (e := e) hquiet hrested
  obtain ⟨hsu, hzero, hone, hcounted⟩ :=
    noticeEdge_of_awaited (b := edgeTaken n e s) h (offeredBy n s.tb.tl e s.cx.channels[n])
  have htaken : Counted 0 0 0 s (edgeTaken n e s) := .of_eq rfl rfl
  exact ⟨ksu.trans hsu, kcounted _ (hcounted.after htaken), fun h => kfifo.trans (congrArg JournalWriter.fifo (hzero h)),
    fun h => kfifo.trans (congrArg JournalWriter.fifo (hone h))⟩

/-- An edge that no program awaits brings its capture record alone. -/
theorem recognizeEdge_unawaited (h : completesWait n e s = false) :
    let r := offeredBy n s.tb.tl e s.cx.channels[n]
    let t := settle (recognizeEdge n e s)
    t.su = s.su ∧ OffersCounted r.toList.length s t ∧ t.jw.fifo = (r.elim s.jw fun x => s.jw.offer x).fifo := by
  obtain ⟨_, _, _, _, _, _, _, ksu, kfifo, kcounted⟩ := recognizeEdge_settled (n := n) (e := e) hquiet hrested
  obtain ⟨hsu, hjw, hcounted⟩ :=
    noticeEdge_of_not_awaited (b := edgeTaken n e s) h (offeredBy n s.tb.tl e s.cx.channels[n])
  have htaken : Counted 0 0 0 s (edgeTaken n e s) := .of_eq rfl rfl
  exact ⟨ksu.trans hsu, kcounted _ (hcounted.after htaken), kfifo.trans (congrArg JournalWriter.fifo hjw)⟩

/-- The records of an edge of a channel that records nothing, and of one that records every measurement. -/
theorem recognizeEdge_records :
    let c := s.cx.channels[n]
    let t := settle (recognizeEdge n e s)
    (completesWait n e s = true → c.record = false → t.jw.fifo = (s.jw.offer (waitedRecord n s)).fifo) ∧
      (completesWait n e s = false → c.record = false → t.jw.fifo = s.jw.fifo) ∧
        ∀ x, completesWait n e s = false → c.record = true → c.decimation = 1 → measure n s.tb.tl e c = some x →
          t.jw.fifo = (s.jw.offer x).fifo := by
  refine ⟨fun hwaits hsilent => ?_, fun hidle hsilent => ?_, fun x hidle hrecord hall hmeasure => ?_⟩
  · obtain ⟨_, _, hzero, hone⟩ := recognizeEdge_awaited hquiet hrested hwaits
    rw [offeredBy_of_silent hsilent] at hzero hone
    rcases Nat.mod_two_eq_zero_or_one s.oracle with h | h
    · exact hzero h
    · exact hone h
  · obtain ⟨_, _, hfifo⟩ := recognizeEdge_unawaited hquiet hrested hidle
    rw [offeredBy_of_silent hsilent] at hfifo
    exact hfifo
  · obtain ⟨_, _, hfifo⟩ := recognizeEdge_unawaited hquiet hrested hidle
    rw [offeredBy_of_every hrecord hall, hmeasure] at hfifo
    exact hfifo

end

/-- Settles O41: the channel's state, the wait's end and the measurement's record. -/
theorem edgeRecognized : Obligations.EdgeRecognized := by
  intro n e s c awaited value flag record leading completed would passes offers
  have hmeasure : measure n s.tb.tl e c = completed := by
    unfold measure completed
    cases c.mode with
    | edge => exact edgeMeasure_eq n s.tb.tl e c
    | interval => exact intervalMeasure_eq n s.tb.tl e c
    | width => exact widthMeasure_eq n s.tb.tl e c
    | cycle => exact cycleMeasure_eq n s.tb.tl e c
  have hwould : wouldBe n s.tb.tl e c = would := by
    unfold wouldBe
    rw [hmeasure]
  have hoffered : offeredBy n s.tb.tl e s.cx.channels[n] = if passes then would else none := by
    rw [offeredBy_eq, hwould]
  have hawaited : completesWait n e s = true ↔ awaited := completesWait_iff n e s
  have hunawaited (h : ¬awaited) : completesWait n e s = false := (Bool.not_eq_true _).mp fun hc => h (hawaited.mp hc)
  simp only [exec_recognizedEdge]
  refine ⟨fun hnot => next_congr (if_neg fun hcan => ?_), fun henable hlevel hquiet hrested hwait => ?_,
    fun henable hlevel hquiet hrested hwait => ?_⟩
  · obtain ⟨henable, hlevel⟩ := canRecognize_iff.mp hcan
    rcases hnot with h | h
    · exact absurd (h.symm.trans henable) (by decide)
    · exact hlevel h
  all_goals
    rw [takeEdge_of_recognized henable hlevel hwait]
    obtain ⟨kcx, kpins, kstarved, kos, kgu, ktb, kcp, _⟩ := recognizeEdge_settled (n := n) (e := e) hquiet hrested
    obtain ⟨chigh, clast, cphase, ccount⟩ := channel_edge n s.tb.tl e c
  · rw [hwould] at ccount
    refine ⟨_, rfl, ?_, ?_, ?_, fun m hm => by rw [kcx, setChannel_other hm], fun hidle => ?_, fun hwaits => ?_⟩
    · rw [kcx, setChannel_same]
      exact clast.trans (stamped_stamps s.tb.tl e c).1
    · rw [kcx, setChannel_same]
      exact cphase.trans (stamped_stamps s.tb.tl e c).2.1
    · rw [kcx, setChannel_same]
      exact ccount
    · obtain ⟨_, hcounted, hfifo⟩ := recognizeEdge_unawaited hquiet hrested (hunawaited hidle)
      rw [hoffered] at hcounted hfifo
      exact ⟨hfifo, hcounted⟩
    · obtain ⟨_, hcounted, hzero, hone⟩ := recognizeEdge_awaited hquiet hrested (hawaited.mpr hwaits)
      rw [hoffered] at hcounted hzero hone
      exact ⟨hcounted, hzero, hone⟩
  · obtain ⟨hwaited, hsilent, hevery⟩ := recognizeEdge_records (n := n) (e := e) hquiet hrested
    refine ⟨_, rfl, kcx, by rw [kcx, setChannel_same]; exact chigh, kpins, kstarved, kos, kgu, ktb, kcp,
      fun hwaits => ⟨(recognizeEdge_awaited hquiet hrested (hawaited.mpr hwaits)).1, hwaited (hawaited.mpr hwaits)⟩,
      fun hidle => ⟨(recognizeEdge_unawaited hquiet hrested (hunawaited hidle)).1, hsilent (hunawaited hidle),
        fun hrecord hall => ?_⟩⟩
    exact ⟨fun hmode hnames => hevery _ (hunawaited hidle) hrecord hall (measure_of_edge hmode hnames),
      fun a hmode hnames hlast => hevery _ (hunawaited hidle) hrecord hall (measure_of_interval hmode hnames hlast),
      fun a hmode hnames hphase => hevery _ (hunawaited hidle) hrecord hall (measure_of_width hmode hnames hphase),
      fun a b hmode hnames hlast hphase =>
        hevery _ (hunawaited hidle) hrecord hall (measure_of_cycle hmode hnames hlast hphase)⟩

end Sys2Proof.Machine
end

/-! The requests at the end of an event that begins with the bus at rest, whoever's places the waiting requests stand in
(R33, R188), and the link re-read that no event repeats (R23). -/
section
namespace Sys2Proof.Machine

/-! ## A bus at rest -/

/-- A bus at rest and idle has no request waiting. -/
theorem BusPort.waiting_none_of_grant {b : BusPort} (h : b.grant = b) (hidle : b.inFlight = none) (o : Requester) :
    b.waiting o = none := by
  obtain ⟨inFlight, jw, fu, cp⟩ := b
  change inFlight = none at hidle
  subst hidle
  cases jw with
  | some _ => simp [BusPort.grant] at h
  | none =>
    cases fu with
    | some _ => simp [BusPort.grant] at h
    | none =>
      cases cp with
      | some _ => simp [BusPort.grant] at h
      | none => cases o <;> rfl

/-- The JW's request does not make a resting bus grant the FU something it has not asked for. -/
theorem jwPump_grant_outstanding {s : State} (hbus : s.bp.grant = s.bp) (hout : s.bp.outstanding .fu = false) :
    (jwPump s).bp.grant.outstanding .fu = false := by
  have hout' : (jwPump s).bp.outstanding .fu = false := (jwPump_outstanding s).trans hout
  cases hf : s.bp.inFlight with
  | some f => rw [BusPort.grant_of_busy ((jwPump_bp s).2.trans hf)]; exact hout'
  | none =>
    have hfiled : s.bp.Filed := fun o t ht => by rw [BusPort.waiting_none_of_grant hbus hf] at ht; cases ht
    exact (jwPump_filed s hfiled).grant_outstanding hout'

/-- What a FU without a transfer asks for, where a grant gives it nothing else. -/
theorem fuPump_fetchAsked_of_grant {s : State} (h : s.bp.outstanding .fu = false)
    (hgrant : s.bp.grant.outstanding .fu = false) : FetchAsked (grant (fuPump s)) := by
  refine ⟨fun x hx hready o ho => ?_, fun hst hfirst x hx hfetching => ?_⟩
  · obtain ⟨l, hl⟩ : ∃ l, s.fu.table = x :: l := by
      cases ht : s.fu.table <;> simp_all
    have hpump : fuPump s = requestRetire x s := by simp [fuPump, h, hl, hready]
    rw [hpump]
    simpa [requestRetire, ho, low32] using request_holds (.retireWrite _) _ s
  · have hpump : fuPump s = requestSteps x s := by
      have hst' : s.fu.state = .fetching := by simpa using hst
      have hx' : s.fu.newest = some x := by simpa [FetchUnit.newest] using hx
      have hread : requestRead s = requestSteps x s := by simp [requestRead, hst', hx', hfetching]
      cases ht : s.fu.table with
      | nil => simp [fuPump, h, ht, hread]
      | cons y l =>
        have hy : y.state ≠ .retireReady := hfirst y (by simp [ht])
        simp [fuPump, h, ht, hy, hread]
    have hsu : (grant (requestSteps x s)).su = s.su := by rw [← hpump]; simp
    rw [hpump]
    dsimp only
    rw [hsu]
    unfold requestSteps queueRoom Slot.unfetched Config.queueCapacity
    constructor
    · intro hfull
      rw [if_pos hfull]
      exact hgrant
    · intro hroom
      rw [if_neg (by omega)]
      exact request_holds (.stepRead _) _ s

theorem pump_fetchAsked_of_rests {s : State} (hbus : s.bp.grant = s.bp) (h : s.bp.outstanding .fu = false) :
    FetchAsked (pump s) :=
  fuPump_fetchAsked_of_grant ((jwPump_outstanding s).trans h) (jwPump_grant_outstanding hbus h)

theorem Tracking.settle_fetchAsked_of_rests {u : State} (h : Tracking u) (hbus : u.bp.grant = u.bp)
    (hout : u.bp.outstanding .fu = false) : FetchAsked (Machine.settle u) := by
  rw [h.settle]
  exact pump_fetchAsked_of_rests (by rw [reportStarved_marked_bp]; exact hbus)
    (by rw [reportStarved_marked_bp]; exact hout)

/-! ## An event that neither opens nor closes a WATCHING episode -/

theorem Tracking.goes_on {s u : State} (h : Tracking u) (hrested : Rested s) (hbp : u.bp = s.bp)
    (hcause : pendingCause .starved u = pendingCause .starved s) (hepisode : u.fu.starvedReported = s.fu.starvedReported) :
    StarvedJudged s (Machine.settle u) ∧ (s.bp.outstanding .fu = false → FetchAsked (Machine.settle u)) := by
  obtain ⟨_, _, hbus⟩ := (rested_iff s).mp hrested
  exact ⟨h.settle_starved hcause hepisode, fun hout =>
    h.settle_fetchAsked_of_rests (by rw [hbp]; exact hbus) (by rw [hbp]; exact hout)⟩

/-! ## The link re-read (R23) -/

/-- The FU asks for no link re-read now. -/
def NoLinkRead (s : State) : Prop :=
  s.bp.outstanding .fu = true ∨ s.fu.state ≠ .watching ∨ s.fu.rereadWanted = false ∨ s.fu.table = []

theorem Rested.noLinkRead {s : State} (h : Rested s) : NoLinkRead s := by
  unfold NoLinkRead
  by_contra hasks
  push Not at hasks
  obtain ⟨hout, hst, hwanted, htable⟩ := hasks
  have hfree : s.bp.outstanding .fu = false := (Bool.not_eq_true _).mp hout
  have hread : s.fu.rereadWanted = true := (Bool.not_eq_false _).mp hwanted
  have hcalls : s.fu.calls (queueRoom s) = false := by simpa [FuRests, hfree] using h.fuRests
  have hreads : s.fu.callsRead (queueRoom s) = true := by
    unfold FetchUnit.callsRead FetchUnit.newest
    rw [hst, hread]
    simp [htable]
  unfold FetchUnit.calls at hcalls
  split at hcalls
  · split at hcalls
    · cases hcalls
    · rw [hreads] at hcalls; cases hcalls
  · rw [hreads] at hcalls; cases hcalls

theorem requestRead_tallies {u : State} (h : u.fu.state ≠ .watching ∨ u.fu.rereadWanted = false ∨ u.fu.table = []) :
    (requestRead u).ev = u.ev := by
  unfold requestRead requestHeader requestSteps
  cases hst : u.fu.state with
  | watching =>
    rcases h with h | h | h
    · exact absurd hst h
    · simp [h]
    · simp [requestLink, FetchUnit.newest, h]
  | fetching =>
    dsimp only
    repeat' split
    all_goals rfl
  | idle => rfl
  | stopped => rfl

theorem pump_tallies_of_noLinkRead {v : State} (h : NoLinkRead v) : (pump v).ev.tallies = v.ev.tallies := by
  have hfu : (jwPump v).fu = v.fu := by simp
  have hjw : (jwPump v).ev.tallies = v.ev.tallies := by
    rcases jwPump_ev v with e | e
    · rw [e]
    · rw [e, EventUnit.raise_tallies]
  have hpumped : (fuPump (jwPump v)).ev = (jwPump v).ev := by
    rcases h with hout | hnone
    · rw [fuPump_of_rests (.inl ((jwPump_outstanding v).trans hout))]
    · have hread := requestRead_tallies (u := jwPump v) (by rw [hfu]; exact hnone)
      unfold fuPump
      repeat' split
      all_goals first | rfl | exact hread
  change (fuPump (jwPump v)).ev.tallies = _
  rw [hpumped, hjw]

theorem Tracking.settle_tallies {u : State} (h : Tracking u) (hlink : NoLinkRead u) :
    (Machine.settle u).ev.tallies = u.ev.tallies := by
  obtain ⟨htable, hstate, _, _, hreread, _⟩ := reportStarved_fu (marked u)
  have hpumped : NoLinkRead (reportStarved (marked u)) := by
    unfold NoLinkRead
    rw [reportStarved_marked_bp, hstate, hreread, htable]
    refine hlink.imp_right (.imp_right (.imp_right fun hnil => ?_))
    exact (markReady_table_eq_nil u.fu).mpr hnil
  rw [h.settle, pump_tallies_of_noLinkRead hpumped]
  exact reportStarved_tallies _

end Sys2Proof.Machine
end

/-! STEP_ADMISSION of a step that waits in the agenda, moves the anchor or arms the waiter (R45 to R49, R58). -/
section
namespace Sys2Proof.Machine

/-! ## The event (R48) -/

theorem exec_stepAdmission (s : State) : exec .stepAdmission s = .next (takeStepAdmission s) := rfl

theorem takeStepAdmission_of_none_due {s : State} (h : applicationDue s = false) : takeStepAdmission s = admitHead s :=
  congrArg admitHead (if_neg (by rw [h]; decide))

theorem admitHead_of_empty {s : State} (h : s.su.queue = []) : admitHead s = s := by
  rw [admitHead, h]

theorem admitHead_of_barred {s : State} {q : QueuedStep} {rest : List QueuedStep} (h : s.su.queue = q :: rest)
    (hmay : mayAdmit q s = false) : admitHead s = s := by
  simp [admitHead, h, hmay]

theorem admitHead_of_mayAdmit {s : State} {q : QueuedStep} {rest : List QueuedStep} (h : s.su.queue = q :: rest)
    (hmay : mayAdmit q s = true) : admitHead s = settle (admitStep q s) := by
  simp [admitHead, h, hmay]

theorem running_of_mayAdmit {q : QueuedStep} {s : State} (h : mayAdmit q s = true) :
    s.su.program = .running ∧ s.su.admissionOpen = true ∧ s.su.waiter = none := by
  simp only [mayAdmit, Bool.and_eq_true, beq_iff_eq, Option.isNone_iff_eq_none] at h
  exact ⟨h.1.1.1, h.1.1.2, h.1.2⟩

/-- The event of an admissible head. -/
theorem exec_stepAdmission_of_mayAdmit {s : State} {q : QueuedStep} {rest : List QueuedStep}
    (hnone : applicationDue s = false) (hqueue : s.su.queue = q :: rest) (hmay : mayAdmit q s = true) :
    exec .stepAdmission s = .next (settle (admitStep q s)) := by
  rw [exec_stepAdmission, takeStepAdmission_of_none_due hnone, admitHead_of_mayAdmit hqueue hmay]

/-! ## The choice of the kind (R38, R50) -/

theorem admitStep_of_unknown {q : QueuedStep} (h : stepKindOf q.step.kind = none) (s : State) :
    admitStep q s = suFault .badStep s := by
  rw [admitStep, h]

theorem admitStep_of_wait {q : QueuedStep} (h : stepKindOf q.step.kind = some .wait) (s : State) :
    admitStep q s = admitWaitStep q s := by
  rw [admitStep, h]

theorem admitStep_of_kind {q : QueuedStep} {k : StepKind} (h : stepKindOf q.step.kind = some k) (hk : k ≠ .wait)
    (s : State) : admitStep q s = admitChecked q k s := by
  rw [admitStep, h]
  cases k <;> first | rfl | exact absurd rfl hk

theorem admitChecked_of_ok {q : QueuedStep} {k : StepKind} {s : State} (hfields : fieldsOk k q.step s = true)
    (htimes : timesOk k q.step s = true) : admitChecked q k s = admitValid q k s := by
  rw [admitChecked, hfields, htimes]
  rfl

theorem admitChecked_of_bad {q : QueuedStep} {k : StepKind} {s : State}
    (h : fieldsOk k q.step s = false ∨ timesOk k q.step s = false) : admitChecked q k s = suFault .badStep s := by
  rw [admitChecked]
  rcases h with h | h <;> simp [h]

theorem admitValid_of_entry {q : QueuedStep} {k : StepKind} {ek : EntryKind} (h : k.entryKind = some ek) (s : State) :
    admitValid q k s = admitTimed q k ek s := by
  rw [admitValid, h]

theorem isLate_of_entry {k : StepKind} {ek : EntryKind} (h : k.entryKind = some ek) (p : Step) (s : State) :
    isLate k p s = decide (dueOf s p < s.tb.pt.toNat) := by
  rw [isLate, needsEntry_of_entryKind h, Bool.true_and]

theorem dueOf_lt_of_timesOk {k : StepKind} {p : Step} {s : State} (h : timesOk k p s = true) : dueOf s p < 2 ^ 48 := by
  have hdue : dueOf s p + spanOf k p ≤ Config.maxTime := of_decide_eq_true (Bool.and_eq_true_iff.mp h).1
  unfold Config.maxTime at hdue
  omega

theorem ne_wait_of_entry {k : StepKind} {ek : EntryKind} (h : k.entryKind = some ek) : k ≠ .wait := by
  rintro rfl
  cases h

/-- A valid step due after PT leaves its entry in the agenda. -/
theorem admitStep_of_later {q : QueuedStep} {k : StepKind} {ek : EntryKind} {s : State}
    (hkind : stepKindOf q.step.kind = some k) (hentry : k.entryKind = some ek) (hfields : fieldsOk k q.step s = true)
    (htimes : timesOk k q.step s = true) (hlater : s.tb.pt.toNat < dueOf s q.step) :
    admitStep q s = entryAdmitted q k ek (BitVec.ofNat 48 (dueOf s q.step)) s := by
  have hpunctual : isLate k q.step s = false := by
    rw [isLate_of_entry hentry]
    exact decide_eq_false (by omega)
  have hlt := dueOf_lt_of_timesOk htimes
  have hne : BitVec.ofNat 48 (dueOf s q.step) ≠ s.tb.pt := fun h => by
    have := congrArg BitVec.toNat h
    rw [BitVec.toNat_ofNat, Nat.mod_eq_of_lt hlt] at this
    omega
  rw [admitStep_of_kind hkind (ne_wait_of_entry hentry), admitChecked_of_ok hfields htimes, admitValid_of_entry hentry,
    admitTimed, hpunctual, admitEntry_eq, if_neg hne]
  rfl

theorem admitStep_of_anchor {q : QueuedStep} {s : State} (hkind : stepKindOf q.step.kind = some .anchor)
    (hrange : dueOf s q.step ≤ 2 ^ 48 - 1) : admitStep q s = admitAnchor q s := by
  have htimes : timesOk .anchor q.step s = true := by
    simp [timesOk, isLate, needsEntry, spanOf, Config.maxTime]
    omega
  rw [admitStep_of_kind hkind (by decide), admitChecked_of_ok rfl htimes]
  rfl

theorem channelOf_of_toNat {b : Byte} {c : Fin 16} (h : b.toNat = c.val) : channelOf b = some c := by
  have hlt : b.toNat < 16 := h ▸ c.isLt
  rw [channelOf, dif_pos hlt]
  exact congrArg some (Fin.ext h)

theorem waiterOf_of_ok {p : Step} {s : State} {c : Fin 16} {e : WaitEdge} (hchannel : p.channel.toNat = c.val)
    (hedge : waitEdgeOf p.edge = some e) (henable : s.cx.channels[c].enable = true)
    (hrange : s.tb.pt.toNat + p.timeout.toNat ≤ 2 ^ 48 - 1) :
    waiterOf p s = some
      { channel := c, edge := e, timeoutStop := p.timeoutStop,
        deadline := if p.timeout = 0#32 then none else some (s.tb.pt + p.timeout.setWidth 48) } := by
  rw [waiterOf, channelOf_of_toNat hchannel, hedge]
  exact if_pos ⟨henable, hrange⟩

theorem admitStep_of_waiter {q : QueuedStep} {s : State} {w : Waiter} (hkind : stepKindOf q.step.kind = some .wait)
    (hw : waiterOf q.step s = some w) : admitStep q s = admitWait q w s := by
  rw [admitStep_of_wait hkind, admitWaitStep, hw]

/-! ## The slot of an admitted step (R26 to R28) -/

/-- The change of a step, with an entry or without. -/
def Slot.stepAdmitted (b : Bool) (sl : Slot) : Slot :=
  { sl with stepsAdmitted := sl.stepsAdmitted + 1, outstanding := sl.outstanding + b.toNat }

theorem admitted_table (n : Fin 8) (b : Bool) (f : FetchUnit) :
    (f.admitted n b false).table = f.table.map (slotNoticed n (Slot.stepAdmitted b)) := by
  refine List.map_congr_left fun sl _ => ?_
  simp only [Bool.or_false]
  rfl

theorem slotNoticed_sequence (n : Fin 8) (b : Bool) (sl : Slot) :
    (slotNoticed n (Slot.stepAdmitted b) sl).sequence = sl.sequence := by
  unfold slotNoticed
  split <;> rfl

/-- An admission changes nothing that the judgment of another slot turns on. -/
theorem slotJudged_admitted (n : Fin 8) (b : Bool) (f : FetchUnit) : slotJudged (f.admitted n b false) = slotJudged f := by
  refine slotJudged_congr rfl fun _ => ?_
  rw [admitted_table, List.getLast?_map, Option.map_map]
  exact congrFun (congrArg Option.map (funext fun sl => slotNoticed_sequence n b sl)) _

theorem markReady_admitted (n : Fin 8) (b : Bool) (f : FetchUnit) :
    (f.admitted n b false).markReady.table =
      f.table.map fun sl => slotJudged f (slotNoticed n (Slot.stepAdmitted b) sl) := by
  rw [markReady_table, slotJudged_admitted, admitted_table, List.map_map]
  rfl

/-- A slot with an entry outstanding is not RETIRE_READY yet. -/
theorem markReady_admitted_entry {f : FetchUnit} (h : f.markReady = f) (n : Fin 8) :
    (f.admitted n true false).markReady.table = f.table.map (slotNoticed n (Slot.stepAdmitted true)) := by
  rw [markReady_admitted]
  refine List.map_congr_left fun sl hmem => ?_
  by_cases hnoticed : sl.number = n ∧ sl.state ≠ .retireReady
  · rw [slotNoticed, if_pos hnoticed]
    exact if_neg fun hready => absurd hready.2.2.1 (Nat.succ_ne_zero _)
  · rw [slotNoticed, if_neg hnoticed]
    exact slotJudged_of_judged h hmem

/-! ## The end of such an admission -/

/-- What the admission of a step that goes on leaves: its slot has counted it, the tally too. -/
structure Admits (q : QueuedStep) (b : Bool) (s u : State) : Prop where
  fu : u.fu = s.fu.admitted q.slot b false
  ev : u.ev = s.ev.count .stepsAdmitted 1
  program : u.su.program = s.su.program
  os : u.os = s.os
  gu : u.gu = s.gu
  tb : u.tb = s.tb
  cx : u.cx = s.cx
  cp : u.cp = s.cp
  jw : u.jw = s.jw
  bp : u.bp = s.bp

section
variable {q : QueuedStep} {b : Bool} {s u : State} (h : Admits q b s u)
include h

theorem Admits.tracking (hquiet : Quiet s) : Tracking u := by
  obtain ⟨htrip, htracked, hdone⟩ := hquiet.tracking
  refine ⟨by rw [h.gu]; exact htrip, ?_, ?_⟩
  · rw [h.fu, admitted_table]
    exact fun hst htable => htracked hst (List.map_eq_nil_iff.mp htable)
  · rw [h.fu, h.program]
    exact hdone

/-- What such an event leaves, but for the SU and the table. -/
theorem Admits.settled (hquiet : Quiet s) (hrested : Rested s) :
    let t := settle u
    (t.ev.tallies[0] = satAdd s.ev.tallies[0] 1 ∧ (∀ n : Fin 16, n.val ≠ 0 → t.ev.tallies[n] = s.ev.tallies[n]) ∧
      StarvedJudged s t ∧ (s.bp.outstanding .fu = false → FetchAsked t)) ∧
      t.os = s.os ∧ t.gu = s.gu ∧ t.tb = s.tb ∧ t.cx = s.cx ∧ t.cp = s.cp ∧ t.jw.fifo = s.jw.fifo := by
  have htracking := h.tracking hquiet
  obtain ⟨_, kos, kgu, ktb, _⟩ := htracking.settle_parts
  have hclose : CloseAsked u := hrested.closeAsked.congr (by rw [h.jw]) (by rw [h.bp])
  have hcause : pendingCause .starved u = pendingCause .starved s := by
    rw [pendingCause, h.ev]
    rfl
  have hlink : NoLinkRead u := by
    refine hrested.noLinkRead.imp (fun hout => by rw [h.bp]; exact hout) (.imp ?_ (.imp ?_ fun htable => ?_))
    · rw [h.fu]; exact id
    · rw [h.fu]; exact id
    · rw [h.fu, admitted_table, htable]; rfl
  have ktallies := htracking.settle_tallies hlink
  rw [h.ev] at ktallies
  obtain ⟨kstarved, kfetch⟩ := htracking.goes_on hrested h.bp hcause (by rw [h.fu]; rfl)
  refine ⟨⟨?_, fun n hn => ?_, kstarved, kfetch⟩, kos.trans h.os, kgu.trans h.gu, ktb.trans h.tb, ?_,
    (htracking.settle_kept hclose).1.trans h.cp, htracking.settle_fifo.trans (by rw [h.jw])⟩
  · rw [ktallies]
    exact (s.ev.count_tally .stepsAdmitted 1 0).trans (if_pos rfl)
  · rw [ktallies]
    exact (s.ev.count_tally .stepsAdmitted 1 n).trans (if_neg fun hzero => hn (by rw [hzero]; rfl))
  · rw [(settle_frame u).1]
    exact h.cx

/-- The event of such an admission, with the SU and the table it leaves. -/
theorem Admits.next {v : ScheduleUnit} {l : List Slot} (hquiet : Quiet s) (hrested : Rested s) (hsu : u.su = v)
    (htable : u.fu.markReady.table = l) :
    ∃ t, (Host.Outcome.next (settle u) : Host.Outcome State Fault Refusal) = .next t ∧ t.su = v ∧ t.fu.table = l ∧
      (t.ev.tallies[0] = satAdd s.ev.tallies[0] 1 ∧ (∀ n : Fin 16, n.val ≠ 0 → t.ev.tallies[n] = s.ev.tallies[n]) ∧
        StarvedJudged s t ∧ (s.bp.outstanding .fu = false → FetchAsked t)) ∧
        t.os = s.os ∧ t.gu = s.gu ∧ t.tb = s.tb ∧ t.cx = s.cx ∧ t.cp = s.cp ∧ t.jw.fifo = s.jw.fifo :=
  have htracking := h.tracking hquiet
  ⟨_, rfl, htracking.settle_parts.1.trans hsu, htracking.settle_table.1.trans htable, h.settled hquiet hrested⟩

end

theorem cursorStep_eq (k : StepKind) (p : Step) :
    cursorStep k p = if k = .train then p.count.toNat * p.period.toNat else 0 := by
  cases k <;> rfl

/-- Settles O42: no step, a step due later, an ANCHOR and a WAIT, each the admission of one queued step. -/
theorem stepsAdmitted : Obligations.StepsAdmitted := by
  intro s hquiet hrested hnone
  refine ⟨fun hempty => ?_, fun q rest hqueue => ⟨fun hbarred => ?_, fun hmay => ?_⟩⟩
  · rw [exec_stepAdmission, takeStepAdmission_of_none_due hnone, admitHead_of_empty hempty]
  · rw [exec_stepAdmission, takeStepAdmission_of_none_due hnone, admitHead_of_barred hqueue hbarred]
  have htail : s.su.queue.tail = rest := by rw [hqueue]; rfl
  rw [exec_stepAdmission_of_mayAdmit hnone hqueue hmay]
  obtain ⟨u, hu⟩ : ∃ u, u = admitStep q s := ⟨_, rfl⟩
  rw [← hu]
  refine ⟨fun k ek hkind hentry hend hfields htimes hlater => ?_, fun hkind hrange => ?_,
    fun c e hkind hchannel hedge henable hrange => ?_⟩
  · have hadmitted := hu.trans (admitStep_of_later hkind hentry hfields htimes hlater)
    rw [entryAdmitted, if_neg hend, beq_eq_false_iff_ne.mpr hend] at hadmitted
    have hadmits : Admits q true s u := by subst hadmitted; exact ⟨rfl, rfl, rfl, rfl, rfl, rfl, rfl, rfl, rfl, rfl⟩
    refine hadmits.next hquiet hrested ?_ ?_
    · rw [hadmitted, setCursor_su, numberStep_su, htail, cursorStep_eq]
      rfl
    · rw [hadmits.fu]
      exact markReady_admitted_entry hquiet.2.1 q.slot
  · have hadmitted := hu.trans (admitStep_of_anchor hkind hrange)
    have hadmits : Admits q false s u := by subst hadmitted; exact ⟨rfl, rfl, rfl, rfl, rfl, rfl, rfl, rfl, rfl, rfl⟩
    refine hadmits.next hquiet hrested ?_ ?_
    · rw [hadmitted]
      simp [admitAnchor, htail]
    · rw [hadmits.fu]
      exact markReady_admitted q.slot false s.fu
  · have hadmitted := hu.trans (admitStep_of_waiter hkind (waiterOf_of_ok hchannel hedge henable hrange))
    have hadmits : Admits q false s u := by subst hadmitted; exact ⟨rfl, rfl, rfl, rfl, rfl, rfl, rfl, rfl, rfl, rfl⟩
    refine hadmits.next hquiet hrested ?_ ?_
    · rw [hadmitted]
      simp [admitWait, htail]
    · rw [hadmits.fu]
      exact markReady_admitted q.slot false s.fu

end Sys2Proof.Machine
end

/-! A batch of changes (R106 to R109): what it makes of the lines, what it records and counts, and the resolution of every
line that ends it. -/
section
namespace Sys2Proof.Machine

/-! ## The changes of a batch -/

/-- One change with the suppression that follows it. -/
def OutputStage.asked (o : OutputStage) (c : Change) : OutputStage := (o.change c).suppress

theorem makeChange_os (s : State) (c : Change) : (makeChange s c).os = s.os.asked c := suppressShoot_os _

theorem foldl_makeChange_os (cs : List Change) (s : State) :
    (cs.foldl makeChange s).os = cs.foldl OutputStage.asked s.os := by
  induction cs generalizing s with
  | nil => rfl
  | cons c cs ih => rw [List.foldl_cons, ih, makeChange_os]; rfl

theorem foldl_makeChange_frame (cs : List Change) (s : State) :
    (cs.foldl makeChange s).gu = s.gu ∧ (cs.foldl makeChange s).tb = s.tb :=
  ⟨foldl_keeps _ State.gu (fun s c => by simp) _ _, foldl_keeps _ State.tb (fun s c => by simp) _ _⟩

theorem osBatch_nil (s : State) : osBatch [] s = s := rfl

theorem osBatch_of_ne_nil {cs : List Change} (h : cs ≠ []) (s : State) :
    osBatch cs s = osResolve (cs.foldl makeChange s) := if_neg h

theorem osBatch_os {cs : List Change} (h : cs ≠ []) (s : State) :
    (osBatch cs s).os = (cs.foldl OutputStage.asked s.os).resolve s.tb.tl := by
  rw [osBatch_of_ne_nil h, osResolve_os, foldl_makeChange_os, (foldl_makeChange_frame cs s).2]

theorem osBatch_gu {cs : List Change} (h : cs ≠ []) (s : State) :
    (osBatch cs s).gu = s.gu.blank s.tb.tl (drivenChanges (cs.foldl OutputStage.asked s.os) (osBatch cs s).os) := by
  rw [osBatch_os h, osBatch_of_ne_nil h]
  obtain ⟨hgu, htb⟩ := foldl_makeChange_frame cs s
  change (cs.foldl makeChange s).gu.blank (cs.foldl makeChange s).tb.tl _ = _
  rw [hgu, htb, foldl_makeChange_os]

/-- The lines and the guard after a batch are a matter of the lines, the guard and TL. -/
theorem osBatch_congr {s t : State} (cs : List Change) (hos : t.os = s.os) (hgu : t.gu = s.gu) (htl : t.tb.tl = s.tb.tl) :
    (osBatch cs t).os = (osBatch cs s).os ∧ (osBatch cs t).gu = (osBatch cs s).gu := by
  by_cases h : cs = []
  · subst h
    exact ⟨hos, hgu⟩
  · have hlines : (osBatch cs t).os = (osBatch cs s).os := by rw [osBatch_os h, osBatch_os h, hos, htl]
    refine ⟨hlines, ?_⟩
    rw [osBatch_gu h, osBatch_gu h, hlines, hos, hgu, htl]

/-! ## What a batch records and counts -/

theorem Reporting.makeChange {P : State → Prop} (h : Reporting P) (c : Change) : Keeps P fun s => makeChange s c :=
  fun _ hs => h.suppressShoot _ (h.same hs rfl rfl)

theorem Reporting.osBatch {P : State → Prop} (h : Reporting P) (cs : List Change) : Keeps P (osBatch cs) := by
  intro s hs
  by_cases hnil : cs = []
  · subst hnil
    exact hs
  · rw [osBatch_of_ne_nil hnil]
    exact h.osResolve _ (foldl_inv P _ (fun t c ht => h.makeChange c t ht) _ _ hs)

theorem makeChange_counted (s : State) (c : Change) :
    ∃ k, Counted k k 0 s (makeChange s c) :=
  ⟨_, (suppressShoot_counted { s with os := s.os.change c }).after (.of_eq rfl rfl)⟩

theorem foldl_makeChange_counted (cs : List Change) (s : State) : ∃ k, Counted k k 0 s (cs.foldl makeChange s) := by
  induction cs generalizing s with
  | nil => exact ⟨0, .refl s⟩
  | cons c cs ih =>
    obtain ⟨k, hk⟩ := makeChange_counted s c
    obtain ⟨m, hm⟩ := ih (makeChange s c)
    exact ⟨k + m, hk.trans hm⟩

theorem osBatch_counted (cs : List Change) (s : State) : ∃ k, Counted k k 0 s (osBatch cs s) := by
  by_cases hnil : cs = []
  · subst hnil
    exact ⟨0, .refl s⟩
  · obtain ⟨k, hk⟩ := foldl_makeChange_counted cs s
    rw [osBatch_of_ne_nil hnil]
    exact ⟨k, hk.then (osResolve_counted _)⟩

theorem makeChange_pendingCause {d : Cause} (hd : d ≠ .recordsLost) (s : State) (c : Change) :
    pendingCause d (makeChange s c) = pendingCause d s :=
  foldl_keeps _ (pendingCause d) (fun s _ => offer_pendingCause _ s hd) _ _

/-- A batch raises RECORDS_LOST alone. -/
theorem osBatch_pendingCause {d : Cause} (hd : d ≠ .recordsLost) (cs : List Change) (s : State) :
    pendingCause d (osBatch cs s) = pendingCause d s := by
  by_cases hnil : cs = []
  · subst hnil
    rfl
  · rw [osBatch_of_ne_nil hnil]
    exact foldl_keeps _ (pendingCause d) (fun s c => makeChange_pendingCause hd s c) _ _

/-! ## Resolution line by line (R108, R109) -/

/-- A line whose driven state, last fall and deferral are those of `l`. -/
def Line.SameDrive (a l : Line) : Prop := a.driven = l.driven ∧ a.lastFall = l.lastFall ∧ a.deferred = l.deferred

theorem Line.SameDrive.trans {a b c : Line} (h : a.SameDrive b) (k : b.SameDrive c) : a.SameDrive c :=
  ⟨h.1.trans k.1, h.2.1.trans k.2.1, h.2.2.trans k.2.2⟩

theorem change_sameDrive (c : Change) (o : OutputStage) (n : Fin 16) : (o.change c).lines[n].SameDrive o.lines[n] := by
  unfold OutputStage.change Line.SameDrive
  rw [mapLines_line]
  split
  · unfold Line.ask
    split <;> exact ⟨rfl, rfl, rfl⟩
  · exact ⟨rfl, rfl, rfl⟩

theorem suppress_sameDrive (o : OutputStage) (n : Fin 16) : o.suppress.lines[n].SameDrive o.lines[n] := by
  unfold OutputStage.suppress Line.SameDrive
  rw [mapLines_line]
  split <;> exact ⟨rfl, rfl, rfl⟩

theorem foldl_asked_sameDrive (cs : List Change) (o : OutputStage) (n : Fin 16) :
    (cs.foldl OutputStage.asked o).lines[n].SameDrive o.lines[n] := by
  induction cs generalizing o with
  | nil => exact ⟨rfl, rfl, rfl⟩
  | cons c cs ih => exact (ih (o.asked c)).trans ((suppress_sameDrive _ n).trans (change_sameDrive c o n))

theorem change_pairs (c : Change) (o : OutputStage) : (o.change c).pairs = o.pairs := mapLines_pairs _ _

theorem foldl_asked_pairs (cs : List Change) (o : OutputStage) : (cs.foldl OutputStage.asked o).pairs = o.pairs := by
  induction cs generalizing o with
  | nil => rfl
  | cons c cs ih => exact (ih (o.asked c)).trans ((suppress_pairs _).trans (change_pairs c o))

/-- The target of a line, in the words of the statements. -/
theorem target_eq (l : Line) :
    l.target = if l.role = .unused then .released
      else if l.clampSet ≠ 0#4 ∨ l.await = true ∨ l.covered = true then l.safe else l.requested := by
  have hforced : l.forced = true ↔ l.clampSet ≠ 0#4 ∨ l.await = true ∨ l.covered = true := by
    simp [Line.forced, or_assoc]
  unfold Line.target
  cases l.role with
  | unused => rfl
  | sequenced =>
    simp only [reduceCtorEq, if_false]
    by_cases h : l.forced = true
    · rw [if_pos h, if_pos (hforced.mp h)]
    · rw [if_neg h, if_neg fun hf => h (hforced.mpr hf)]

theorem settleFall_of_high {t : Time} {l : Line} (h : l.target = .high) :
    l.settleFall t = if l.forced then { l with driven := .high, deferred := none } else l := if_pos h

theorem settleFall_of_not_high {t : Time} {l : Line} (h : l.target ≠ .high) :
    l.settleFall t = { l with
      driven := l.target, deferred := none, lastFall := if l.driven = .high then some t else l.lastFall } := if_neg h

theorem judgeRise_of_still {t : Time} {p : Pair} {f : Option Time} {l : Line}
    (h : ¬(l.target = .high ∧ l.driven ≠ .high ∧ (l.deferred = none ∨ p.enabled = false))) : l.judgeRise t p f = l :=
  if_neg h

theorem judgeRise_lastFall (t : Time) (p : Pair) (f : Option Time) (l : Line) :
    (l.judgeRise t p f).lastFall = l.lastFall := by
  unfold Line.judgeRise
  repeat' split
  all_goals rfl

/-- A line that is not called HIGH falls, and rises no more in its event. -/
theorem resolved_of_not_high {t : Time} {p : Pair} {f : Option Time} {l : Line} (h : l.target ≠ .high) :
    (l.settleFall t).judgeRise t p f = { l with
      driven := l.target, deferred := none, lastFall := if l.driven = .high then some t else l.lastFall } := by
  have hfallen : (l.settleFall t).target ≠ .high := by
    rw [(settleFall_same t l).target]
    exact h
  rw [judgeRise_of_still fun hrise => hfallen hrise.1, settleFall_of_not_high h]

/-- A line forced to a safe level HIGH takes it at once. -/
theorem resolved_of_forced {t : Time} {p : Pair} {f : Option Time} {l : Line} (h : l.target = .high)
    (hforced : l.forced = true) :
    (l.settleFall t).judgeRise t p f = { l with driven := .high, deferred := none } := by
  have hsettled : l.settleFall t = { l with driven := .high, deferred := none } := by
    rw [settleFall_of_high h, if_pos hforced]
  rw [judgeRise_of_still fun hrise => hrise.2.1 (by rw [hsettled]), hsettled]

/-- A line called HIGH and not forced is judged as it stands. -/
theorem resolved_of_free {t : Time} {p : Pair} {f : Option Time} {l : Line} (h : l.target = .high)
    (hfree : l.forced = false) : (l.settleFall t).judgeRise t p f = l.judgeRise t p f := by
  rw [settleFall_of_high h, if_neg (by rw [hfree]; decide)]

/-- A rise that is judged now (R109). -/
theorem judgeRise_of_rising {t : Time} {p : Pair} {f : Option Time} {l : Line} (h : l.target = .high)
    (hlow : l.driven ≠ .high) (hnew : l.deferred = none ∨ p.enabled = false) :
    l.judgeRise t p f = match deferredTo t p f with
      | some due => { l with deferred := some due }
      | none => { l with driven := .high, deferred := none } := if_pos ⟨h, hlow, hnew⟩

theorem deferredTo_of_disabled {t : Time} {p : Pair} (h : p.enabled = false) (f : Option Time) : deferredTo t p f = none := by
  simp [deferredTo, h]

theorem deferredTo_of_none (t : Time) (p : Pair) : deferredTo t p none = none := by
  unfold deferredTo
  cases p.enabled <;> rfl

theorem deferredTo_of_fall {t a : Time} {p : Pair} (h : p.enabled = true) :
    deferredTo t p (some a) =
      if (t - a).toNat < p.deadTime.toNat then some (a + p.deadTime.setWidth 48) else none := by
  simp only [deferredTo, h]
  rfl

/-- One line is resolved as R108 and R109 say, from the driven state, last fall and deferral of `l`. -/
theorem line_resolved {t : Time} {o o' : OutputStage} {n : Fin 16} {a : Line} (hsame : a.SameDrive o.lines[n])
    (hline : o'.lines[n] = (a.settleFall t).judgeRise t o'.pairs[pairOf n] o'.lines[partner n].lastFall) :
    LineResolved t o o' n := by
  obtain ⟨hdriven, hfall, hdeferred⟩ := hsame
  have htarget : o'.lines[n].target = a.target := by
    rw [hline]
    exact ((judgeRise_same _ _ _ _).trans (settleFall_same _ _)).target
  have hforced : o'.lines[n].forced = a.forced := by
    rw [hline]
    obtain ⟨_, _, _, hclamp, hawait, hcovered, _⟩ := (judgeRise_same t o'.pairs[pairOf n] o'.lines[partner n].lastFall
      (a.settleFall t)).trans (settleFall_same t a)
    unfold Line.forced
    rw [hclamp, hawait, hcovered]
  have hwords : o'.lines[n].clampSet ≠ 0#4 ∨ o'.lines[n].await = true ∨ o'.lines[n].covered = true ↔ a.forced = true := by
    rw [← hforced]
    simp [Line.forced, or_assoc]
  unfold LineResolved
  dsimp only
  rw [← target_eq, htarget, hwords, ← hdriven, ← hfall, ← hdeferred]
  by_cases hhigh : a.target = .high
  · cases hf : a.forced with
    | true =>
      rw [resolved_of_forced hhigh hf] at hline
      simp [hline, hhigh]
    | false =>
      rw [resolved_of_free hhigh hf] at hline
      refine ⟨fun hn => absurd hhigh hn, ?_, fun _ hany => ?_, fun _ _ hlow henabled => ⟨fun hwaits => ?_, fun hnew =>
        ⟨fun hnone => ?_, fun x hx => ⟨fun hpast => ?_, fun hwithin => ?_⟩⟩⟩⟩
      · rw [hline, judgeRise_lastFall, if_neg fun hn => hn.1 hhigh]
      · by_cases hup : a.driven = .high
        · rw [hline, judgeRise_of_still fun hrise => hrise.2.1 hup]
          exact hup
        · have hdisabled : o'.pairs[pairOf n].enabled = false := by
            rcases hany with h | h | h
            · cases h
            · exact absurd h hup
            · exact h
          rw [hline, judgeRise_of_rising hhigh hup (.inr hdisabled), deferredTo_of_disabled hdisabled]
      · rw [hline, judgeRise_of_still fun hrise => hrise.2.2.elim hwaits fun hd => by rw [henabled] at hd; cases hd]
        exact ⟨rfl, rfl⟩
      all_goals rw [judgeRise_of_rising hhigh hlow (.inl hnew)] at hline
      · rw [hline, hnone, deferredTo_of_none]
        exact ⟨rfl, rfl⟩
      · rw [hline, hx, deferredTo_of_fall henabled, if_neg (by omega)]
        exact ⟨rfl, rfl⟩
      · rw [hline, hx, deferredTo_of_fall henabled, if_pos hwithin]
        exact ⟨rfl, rfl⟩
  · rw [resolved_of_not_high hhigh] at hline
    simp [hline, hhigh]

/-- The resolution of a stage whose lines are driven as those of `o`. -/
theorem resolve_resolved {t : Time} {o c : OutputStage} (hsame : ∀ n : Fin 16, c.lines[n].SameDrive o.lines[n]) :
    Resolved t o (c.resolve t) := by
  intro n
  refine line_resolved (hsame n) ?_
  have hfall : (c.resolve t).lines[partner n].lastFall = ((c.settleFalls t).lines[partner n]).lastFall := by
    rw [OutputStage.resolve, OutputStage.judgeRises, mapLines_line, judgeRise_lastFall]
  rw [hfall, resolve_pairs]
  simp only [OutputStage.resolve, OutputStage.judgeRises, OutputStage.settleFalls, mapLines_line, mapLines_pairs]

/-- A deferral that the falls have ended is not made again in the same event. -/
theorem newDeferrals_eq {t : Time} {o c : OutputStage} (hsame : ∀ n : Fin 16, c.lines[n].SameDrive o.lines[n]) :
    (c.newDeferrals t).length = risesDeferred o (c.resolve t) := by
  unfold OutputStage.newDeferrals risesDeferred
  refine congrArg List.length (List.filter_congr fun n _ => ?_)
  obtain ⟨_, _, hdeferred⟩ := hsame n
  have hline : (c.resolve t).lines[n] =
      (c.lines[n].settleFall t).judgeRise t c.pairs[pairOf n] (c.settleFalls t).lines[partner n].lastFall := by
    simp only [OutputStage.resolve, OutputStage.judgeRises, OutputStage.settleFalls, mapLines_line, mapLines_pairs]
  have hsettled : (c.settleFalls t).lines[n] = c.lines[n].settleFall t := by
    simp only [OutputStage.settleFalls, mapLines_line]
  rw [hsettled, hline, ← hdeferred]
  by_cases hhigh : c.lines[n].target = .high
  · cases hf : c.lines[n].forced with
    | true =>
      rw [resolved_of_forced hhigh hf]
      exact (Bool.and_false _).trans (Bool.and_false _).symm
    | false => rw [settleFall_of_high hhigh, hf]; rfl
  · rw [resolved_of_not_high hhigh]
    exact (Bool.and_false _).trans (Bool.and_false _).symm

theorem osBatch_resolved {cs : List Change} (h : cs ≠ []) (s : State) :
    (osBatch cs s).os.pairs = s.os.pairs ∧ Resolved s.tb.tl s.os (osBatch cs s).os := by
  rw [osBatch_os h]
  exact ⟨(resolve_pairs _ _).trans (foldl_asked_pairs cs s.os), resolve_resolved (foldl_asked_sameDrive cs s.os)⟩

/-- The rises that a batch defers are counted (R109). -/
theorem osBatch_rises {cs : List Change} (h : cs ≠ []) (s : State) :
    (osBatch cs s).ev.tallies[5] = satAdd s.ev.tallies[5] (risesDeferred s.os (osBatch cs s).os) := by
  have hmade : (cs.foldl makeChange s).ev.tallies[5] = s.ev.tallies[5] := by
    refine foldl_keeps _ (fun t => t.ev.tallies[5]) (fun t c => ?_) _ _
    refine (foldl_keeps _ (fun u : State => u.ev.tallies[5])
      (fun u k => offer_tally_of_other (i := 5) _ u (by decide)) _ _).trans ?_
    exact (t.ev.count_tally .shootThroughs _ 5).trans (if_neg (by decide))
  have hcount : (osBatch cs s).ev.tallies[5] = satAdd (cs.foldl makeChange s).ev.tallies[5]
      ((cs.foldl makeChange s).os.newDeferrals (cs.foldl makeChange s).tb.tl).length := by
    rw [osBatch_of_ne_nil h]
    exact (EventUnit.count_tally .risesDeferred _ _ 5).trans (if_pos rfl)
  rw [hcount, hmade, osBatch_os h, foldl_makeChange_os, (foldl_makeChange_frame cs s).2,
    newDeferrals_eq (foldl_asked_sameDrive cs s.os)]

end Sys2Proof.Machine
end

/-! The entries due at one PT, applied one after the other: their records, their counts, their strips, and the end of a
drain (R67 to R79, R89). -/
section
namespace Sys2Proof.Machine

/-! ## One entry -/

/-- The record of an entry that takes no staged block (R75, R76). -/
def Entry.record (s : State) (e : Entry) : Option Record :=
  match e.kind with
  | .mark => some (markRecord s e.tag)
  | .applyLimits => some (limitsRecord s.tb.tl 2)
  | .set | .pulseLead | .pulseTrail | .trainLead | .trainTrail | .endProgram => none

theorem Entry.record_congr {s t : State} (h : t.tb = s.tb) : Entry.record t = Entry.record s := by
  funext e
  unfold Entry.record markRecord
  rw [h]

/-- What an entry that leaves tells the FU (R79). -/
def Entry.release (e : Entry) (f : FetchUnit) : FetchUnit := if e.rekeyed.isNone then f.released e.slot false else f

theorem applyEntry_fu (s : State) (e : Entry) : (applyEntry s e).fu = e.release s.fu := by
  have hkind : (applyKind e (count .agendaApplications 1 s)).fu = s.fu := by simp
  unfold applyEntry noticeReleased Entry.release
  split
  · exact congrArg (FetchUnit.released e.slot false) hkind
  · exact hkind

/-- The records, the causes and the block of an entry are its kind's own. -/
theorem applyEntry_kind (s : State) (e : Entry) :
    (applyEntry s e).jw = (applyKind e (count .agendaApplications 1 s)).jw ∧
      (applyEntry s e).ev = (applyKind e (count .agendaApplications 1 s)).ev ∧
        (applyEntry s e).cp = (applyKind e (count .agendaApplications 1 s)).cp := by
  unfold applyEntry noticeReleased
  split <;> exact ⟨rfl, rfl, rfl⟩

/-- The entry takes no staged block. -/
def Entry.Plain (s : State) (e : Entry) : Prop := s.cp.staged = none ∨ e.kind ≠ .applyLimits

theorem applyMark_parts (e : Entry) (s : State) :
    (applyMark e s).jw = s.jw.offer (markRecord s e.tag) ∧ (applyMark e s).cp = s.cp ∧
      Counted 1 0 0 s (applyMark e s) := by
  have hoffered : Counted 1 0 0 s (offer (markRecord s e.tag) s) := offer_counts _ s
  unfold applyMark
  dsimp only
  split
  · exact ⟨rfl, rfl, hoffered.then (raise_counted _ (by decide))⟩
  · exact ⟨rfl, rfl, hoffered⟩

theorem applyLimitsEntry_of_none {s : State} (h : s.cp.staged = none) :
    applyLimitsEntry s = offer (limitsRecord s.tb.tl 2) s := if_neg (by rw [h]; decide)

theorem applyLimitsEntry_of_some {s : State} {b : StagedLimits} (h : s.cp.staged = some b) :
    applyLimitsEntry s = applyStaged s := if_pos (by rw [h]; rfl)

/-- An entry that takes no staged block: the block stands, its record is offered. -/
theorem applyKind_plain {s : State} {e : Entry} (h : e.Plain s) :
    (applyKind e s).cp = s.cp ∧ (applyKind e s).jw = (e.record s).elim s.jw (fun r => s.jw.offer r) ∧
      Counted (e.record s).toList.length 0 0 s (applyKind e s) := by
  unfold applyKind Entry.record
  cases hk : e.kind
  case mark =>
    obtain ⟨hjw, hcp, hcounted⟩ := applyMark_parts e s
    exact ⟨hcp, hjw, hcounted⟩
  case applyLimits =>
    have hnone : s.cp.staged = none := h.resolve_right fun hne => hne hk
    dsimp only
    rw [applyLimitsEntry_of_none hnone]
    exact ⟨rfl, rfl, offer_counts _ s⟩
  all_goals exact ⟨rfl, rfl, .of_eq rfl rfl⟩

theorem applyEntry_plain {s : State} {e : Entry} (h : e.Plain s) :
    (applyEntry s e).cp = s.cp ∧ (applyEntry s e).jw = (e.record s).elim s.jw (fun r => s.jw.offer r) ∧
      Counted (e.record s).toList.length 0 0 s (applyEntry s e) := by
  obtain ⟨kjw, kev, kcp⟩ := applyEntry_kind s e
  obtain ⟨hcp, hjw, hcounted⟩ := applyKind_plain (s := count .agendaApplications 1 s) (e := e) h
  refine ⟨kcp.trans hcp, kjw.trans hjw, ?_⟩
  have hcount : Counted 0 0 0 s (count .agendaApplications 1 s) := count_counted 1 s (by decide)
  exact (hcounted.then (.of_eq kev kjw)).after hcount

/-- The counters that an entry moves are its own and those of its offer. -/
theorem applyKind_tally {i : Fin 16} (h : i ≠ 10 ∧ i ≠ 11) (e : Entry) (s : State) :
    (applyKind e s).ev.tallies[i] = s.ev.tallies[i] := by
  unfold applyKind
  cases e.kind
  case mark =>
    have hoffered := offer_tally_of_other (markRecord s e.tag) s h
    dsimp only [applyMark]
    split
    · exact (congrArg (·[i]) (EventUnit.raise_tallies _ _)).trans hoffered
    · exact hoffered
  case applyLimits =>
    dsimp only [applyLimitsEntry, applyStaged]
    repeat' split
    all_goals first | rfl | exact offer_tally_of_other _ _ h
  all_goals rfl

theorem applyEntry_applications (s : State) (e : Entry) :
    (applyEntry s e).ev.tallies[3] = satAdd s.ev.tallies[3] 1 := by
  rw [(applyEntry_kind s e).2.1]
  exact (applyKind_tally (i := 3) (by decide) e _).trans ((s.ev.count_tally .agendaApplications 1 3).trans (if_pos rfl))

theorem applyEntry_tally {i : Fin 16} (h : i ≠ 3 ∧ i ≠ 10 ∧ i ≠ 11) (s : State) (e : Entry) :
    (applyEntry s e).ev.tallies[i] = s.ev.tallies[i] := by
  rw [(applyEntry_kind s e).2.1]
  exact (applyKind_tally h.2 e _).trans ((s.ev.count_tally .agendaApplications 1 i).trans (if_neg h.1))

/-- The cause that an entry raises: MARK, where it asks for it. -/
def Entry.marks (e : Entry) : Bool := e.kind == .mark && e.notify

theorem applyKind_pendingCause_of_other {c : Cause} (h : c ≠ .recordsLost) {e : Entry} (hk : e.kind ≠ .mark) (s : State) :
    pendingCause c (applyKind e s) = pendingCause c s := by
  unfold applyKind
  cases hkind : e.kind
  case mark => exact absurd hkind hk
  case applyLimits =>
    dsimp only [applyLimitsEntry, applyStaged]
    repeat' split
    all_goals first | rfl | exact offer_pendingCause _ _ h
  all_goals rfl

theorem applyMark_pendingCause {c : Cause} (h : c ≠ .recordsLost) (e : Entry) (s : State) :
    pendingCause c (applyMark e s) = (decide (c = .mark) && e.notify || pendingCause c s) := by
  have hoffered := offer_pendingCause (markRecord s e.tag) s h
  dsimp only [applyMark]
  cases hn : e.notify with
  | false => simp [hoffered]
  | true =>
    have hraised := (offer (markRecord s e.tag) s).ev.raise_getLsbD .mark c
    have heq : decide (c = Cause.mark) = decide (Cause.mark = c) := decide_eq_decide.mpr eq_comm
    rw [if_pos rfl, Bool.and_true, heq, ← hoffered]
    exact hraised

theorem applyKind_pendingCause {c : Cause} (h : c ≠ .recordsLost) (e : Entry) (s : State) :
    pendingCause c (applyKind e s) = (decide (c = .mark) && e.marks || pendingCause c s) := by
  unfold Entry.marks
  by_cases hk : e.kind = .mark
  · have hmark : applyKind e s = applyMark e s := by rw [applyKind, hk]
    rw [hmark, applyMark_pendingCause h, hk]
    rfl
  · rw [applyKind_pendingCause_of_other h hk, beq_eq_false_iff_ne.mpr hk, Bool.false_and, Bool.and_false, Bool.false_or]

theorem applyEntry_pendingCause {c : Cause} (h : c ≠ .recordsLost) (s : State) (e : Entry) :
    pendingCause c (applyEntry s e) = (decide (c = .mark) && e.marks || pendingCause c s) := by
  have hkind := applyKind_pendingCause h e (count .agendaApplications 1 s)
  rw [pendingCause, (applyEntry_kind s e).2.1]
  exact hkind

/-! ## The entries of one PT -/

theorem foldl_applyEntry_fu (l : List Entry) (s : State) :
    (l.foldl applyEntry s).fu = l.foldl (fun f e => e.release f) s.fu := by
  induction l generalizing s with
  | nil => rfl
  | cons e l ih => rw [List.foldl_cons, ih, applyEntry_fu]; rfl

theorem foldl_applyEntry_frame (l : List Entry) (s : State) :
    (l.foldl applyEntry s).tb = s.tb ∧ (l.foldl applyEntry s).os = s.os ∧ (l.foldl applyEntry s).gu = s.gu ∧
      (l.foldl applyEntry s).cx = s.cx ∧ (l.foldl applyEntry s).bp = s.bp ∧ (l.foldl applyEntry s).pins = s.pins ∧
        (l.foldl applyEntry s).oracle = s.oracle :=
  ⟨foldl_keeps _ State.tb (fun s e => by simp) _ _, foldl_keeps _ State.os (fun s e => by simp) _ _,
    foldl_keeps _ State.gu (fun s e => by simp) _ _, foldl_keeps _ State.cx (fun s e => by simp) _ _,
    foldl_keeps _ State.bp (fun s e => by simp) _ _, foldl_keeps _ State.pins (fun s e => by simp) _ _,
    foldl_keeps _ State.oracle (fun s e => by simp) _ _⟩

theorem Entry.Plain.after {s : State} {d e : Entry} (hd : d.Plain s) (he : e.Plain s) : e.Plain (applyEntry s d) := by
  unfold Entry.Plain at *
  rw [(applyEntry_plain hd).1]
  exact he

theorem foldl_applyEntry_plain {l : List Entry} {s : State} (h : ∀ e ∈ l, e.Plain s) :
    (l.foldl applyEntry s).cp = s.cp ∧
      (l.foldl applyEntry s).jw = (l.filterMap (Entry.record s)).foldl (fun j r => j.offer r) s.jw ∧
        Counted (l.filterMap (Entry.record s)).length 0 0 s (l.foldl applyEntry s) := by
  induction l generalizing s with
  | nil => exact ⟨rfl, rfl, .refl s⟩
  | cons e l ih =>
    have hfirst : e.Plain s := h e List.mem_cons_self
    obtain ⟨kcp, kjw, kcounted⟩ := applyEntry_plain hfirst
    obtain ⟨hcp, hjw, hcounted⟩ := ih (s := applyEntry s e) fun x hx => hfirst.after (h x (List.mem_cons_of_mem _ hx))
    have hrecord : Entry.record (applyEntry s e) = Entry.record s := Entry.record_congr (by simp)
    rw [hrecord, kjw] at hjw
    rw [hrecord] at hcounted
    have hboth := kcounted.trans hcounted
    refine ⟨hcp.trans kcp, hjw.trans ?_, ?_⟩
    all_goals
      rw [List.filterMap_cons]
      cases hr : e.record s <;> rw [hr] at hboth
    · rfl
    · rfl
    · rwa [Option.toList_none, List.length_nil, Nat.zero_add, Nat.zero_add] at hboth
    · rw [List.length_cons]
      rwa [Option.toList_some, List.length_singleton, Nat.add_comm 1, Nat.zero_add] at hboth

theorem foldl_applyEntry_applications (l : List Entry) (s : State) :
    (l.foldl applyEntry s).ev.tallies[3] = satAdd s.ev.tallies[3] l.length := by
  induction l generalizing s with
  | nil => exact (satAdd_zero _).symm
  | cons e l ih => rw [List.foldl_cons, ih, applyEntry_applications, satAdd_satAdd, List.length_cons, Nat.add_comm]

theorem foldl_applyEntry_tally {i : Fin 16} (h : i ≠ 3 ∧ i ≠ 10 ∧ i ≠ 11) (l : List Entry) (s : State) :
    (l.foldl applyEntry s).ev.tallies[i] = s.ev.tallies[i] :=
  foldl_keeps _ (fun t => t.ev.tallies[i]) (fun t e => applyEntry_tally h t e) _ _

theorem foldl_applyEntry_pendingCause {c : Cause} (h : c ≠ .recordsLost) (l : List Entry) (s : State) :
    pendingCause c (l.foldl applyEntry s) = (decide (c = .mark) && l.any Entry.marks || pendingCause c s) := by
  induction l generalizing s with
  | nil => simp
  | cons e l ih =>
    rw [List.foldl_cons, ih, applyEntry_pendingCause h, List.any_cons]
    cases decide (c = .mark) <;> cases e.marks <;> simp

/-! ## Strips released -/

/-- What releases leave of the FU but for its slots' counts. -/
theorem release_parts (e : Entry) (f : FetchUnit) :
    (e.release f).state = f.state ∧ (e.release f).doneNotice = f.doneNotice ∧
      (e.release f).starvedReported = f.starvedReported ∧ (e.release f).rereadWanted = f.rereadWanted ∧
        (e.release f).table.length = f.table.length := by
  unfold Entry.release
  split
  · exact ⟨rfl, rfl, rfl, rfl, List.length_map _⟩
  · exact ⟨rfl, rfl, rfl, rfl, rfl⟩

theorem foldl_release_parts (l : List Entry) (f : FetchUnit) :
    let g := l.foldl (fun f e => e.release f) f
    g.state = f.state ∧ g.doneNotice = f.doneNotice ∧ g.starvedReported = f.starvedReported ∧
      g.rereadWanted = f.rereadWanted ∧ g.table.length = f.table.length := by
  induction l generalizing f with
  | nil => exact ⟨rfl, rfl, rfl, rfl, rfl⟩
  | cons e l ih =>
    obtain ⟨hstate, hdone, hreported, hwanted, hlength⟩ := ih (e.release f)
    obtain ⟨kstate, kdone, kreported, kwanted, klength⟩ := release_parts e f
    exact ⟨hstate.trans kstate, hdone.trans kdone, hreported.trans kreported, hwanted.trans kwanted,
      hlength.trans klength⟩

/-- The change of a strip whose entry has been applied. -/
def Slot.entryApplied (sl : Slot) : Slot := { sl with outstanding := sl.outstanding - 1 }

theorem released_table (n : Fin 8) (f : FetchUnit) :
    (f.released n false).table = f.table.map (slotNoticed n Slot.entryApplied) := by
  refine List.map_congr_left fun sl _ => ?_
  simp only [Bool.or_false]
  rfl

theorem slotJudged_released (n : Fin 8) (f : FetchUnit) : slotJudged (f.released n false) = slotJudged f := by
  refine slotJudged_congr rfl fun _ => ?_
  have hsequence (sl : Slot) : (slotNoticed n Slot.entryApplied sl).sequence = sl.sequence := by
    unfold slotNoticed
    split <;> rfl
  rw [released_table, List.getLast?_map, Option.map_map]
  exact congrFun (congrArg Option.map (funext hsequence)) _

/-- The slots after one entry has been applied, judged (R26 to R28, R79). -/
theorem markReady_release (f : FetchUnit) (e : Entry) :
    (e.release f).markReady.table = f.table.map fun sl => slotJudged f
      (if e.rekeyed.isSome then sl else slotNoticed e.slot Slot.entryApplied sl) := by
  unfold Entry.release
  cases hr : e.rekeyed with
  | some r =>
    rw [Option.isNone_some, if_neg Bool.false_ne_true, markReady_table]
    exact List.map_congr_left fun sl _ => rfl
  | none =>
    rw [Option.isNone_none, if_pos rfl, markReady_table, slotJudged_released, released_table, List.map_map]
    exact List.map_congr_left fun sl _ => rfl

/-! ## The entries due at the present PT -/

/-- The state once every due entry has been applied, before a drain ends. -/
def entriesApplied (s : State) : State :=
  (dueEntries s).foldl applyEntry { s with su := { s.su with agenda := appliedAgenda s } }

theorem applyEntries_eq_drainEnd (s : State) : applyEntries s = drainEnd (entriesApplied s) := rfl

theorem entriesApplied_frame (s : State) :
    (entriesApplied s).tb = s.tb ∧ (entriesApplied s).os = s.os ∧ (entriesApplied s).gu = s.gu ∧
      (entriesApplied s).cx = s.cx ∧ (entriesApplied s).bp = s.bp ∧ (entriesApplied s).pins = s.pins ∧
        (entriesApplied s).oracle = s.oracle := foldl_applyEntry_frame _ _

theorem entriesApplied_fu (s : State) :
    (entriesApplied s).fu = (dueEntries s).foldl (fun f e => e.release f) s.fu := foldl_applyEntry_fu _ _

theorem entriesApplied_su_of_no_end {s : State} (h : ∀ e ∈ dueEntries s, e.kind ≠ .endProgram) :
    (entriesApplied s).su = { s.su with agenda := appliedAgenda s } := by
  rw [entriesApplied, foldl_applyEntry_su, if_neg fun ⟨e, he, hk⟩ => h e he hk]

theorem entriesApplied_su_of_end {s : State} (h : ∃ e ∈ dueEntries s, e.kind = .endProgram)
    (hrunning : s.su.program = .running) :
    (entriesApplied s).su = { s.su with
      program := .draining, outcome := .ended, reason := .none, agenda := appliedAgenda s } := by
  rw [entriesApplied, foldl_applyEntry_su, if_pos h, ScheduleUnit.applyEnd, if_pos hrunning]

/-- A program in DRAINING whose last entry has left enters STOPPING with the outcome that it drains with. -/
theorem drainEnd_of_empty {s : State} (hdraining : s.su.program = .draining) (hempty : s.su.agenda = []) :
    drainEnd s = enterStopping s.su.outcome s.su.reason s := if_pos ⟨hdraining, hempty⟩

theorem drainEnd_of_going {s : State} (h : s.su.program = .draining → s.su.agenda ≠ []) : drainEnd s = s :=
  if_neg fun ⟨hdraining, hempty⟩ => h hdraining hempty

theorem active_iff (p : ProgramState) : p.active = true ↔ p = .running ∨ p = .draining := by
  cases p <;> simp [ProgramState.active]

theorem applicationDue_iff (s : State) :
    applicationDue s = true ↔ (s.su.program = .running ∨ s.su.program = .draining) ∧ dueEntries s ≠ [] := by
  rw [applicationDue, Bool.and_eq_true, active_iff]
  simp

/-- The event of entries that take no staged block. -/
theorem applyDue_of_untaken {s : State} (hdue : applicationDue s = true) (huntaken : takesLimits s = false) :
    applyDue s = osBatch ((dueEntries s).filterMap Entry.change) (applyEntries s) := by
  rw [applyDue, if_pos hdue, huntaken]
  rfl

theorem takesLimits_of_plain {s : State} (h : ∀ e ∈ dueEntries s, e.Plain s) : takesLimits s = false := by
  unfold takesLimits
  by_cases hstaged : s.cp.staged = none
  · rw [hstaged]; rfl
  · have hany : (dueEntries s).any (fun e => e.kind == .applyLimits) = false := by
      simp only [List.any_eq_false, beq_iff_eq]
      exact fun e he => (h e he).resolve_left hstaged
    rw [hany, Bool.and_false]

theorem takeApplication_of_due {s : State} (h : applicationDue s = true) : takeApplication s = settle (applyDue s) :=
  if_pos h

theorem takeApplication_of_none {s : State} (h : applicationDue s = false) : takeApplication s = s :=
  if_neg (by rw [h]; decide)

theorem exec_application (s : State) : exec .application s = .next (takeApplication s) := rfl

end Sys2Proof.Machine
end

/-! APPLICATION of entries that move lines (R67 to R74, R78, R89, R106 to R109). -/
section
namespace Sys2Proof.Machine

/-! ## The end of an application that takes no staged block -/

/-- The changes that the due entries hand the OS. -/
def dueChanges (s : State) : List Change := (dueEntries s).filterMap Entry.change

/-- What the applications leave to the OS's batch: all but the SU, the FU, the bus and the oracle's other readers. -/
structure Applies (s v : State) : Prop where
  os : v.os = s.os
  gu : v.gu = s.gu
  tb : v.tb = s.tb
  cx : v.cx = s.cx
  pins : v.pins = s.pins
  oracle : v.oracle = s.oracle
  cp : v.cp = (entriesApplied s).cp
  ev : v.ev = (entriesApplied s).ev
  jw : v.jw = (entriesApplied s).jw

theorem applies_going (s : State) : Applies s (entriesApplied s) := by
  obtain ⟨htb, hos, hgu, hcx, _, hpins, horacle⟩ := entriesApplied_frame s
  exact ⟨hos, hgu, htb, hcx, hpins, horacle, rfl, rfl, rfl⟩

/-- The end of a drain moves no line and offers nothing. -/
theorem applies_stopping (s : State) {o : ProgramOutcome} (ho : o.changesLevels = false) (r : Reason) :
    Applies s (enterStopping o r (entriesApplied s)) := by
  obtain ⟨htb, hos, hgu, hcx, _, hpins, horacle⟩ := entriesApplied_frame s
  obtain ⟨kos, kgu, kev, kjw⟩ := enterStopping_steady ho r (entriesApplied s)
  refine ⟨kos.trans hos, kgu.trans hgu, ?_, ?_, ?_, ?_, ?_, kev, kjw⟩
  · simpa using htb
  · simpa using hcx
  · simpa using hpins
  · simpa using horacle
  · simp

section
variable {s v : State} (h : Applies s v)
include h

/-- The lines and the guard after the batch are those of the batch alone. -/
theorem Applies.batch (cs : List Change) : (osBatch cs v).os = (osBatch cs s).os ∧ (osBatch cs v).gu = (osBatch cs s).gu :=
  osBatch_congr cs h.os h.gu (congrArg Timebase.tl h.tb)

theorem Applies.tracking {cs : List Change} (htrip : s.gu.tripNotice = none) (htracked : v.fu.state = .stopped → v.fu.table ≠ [])
    (hdone : v.su.program = .stopping → v.fu.doneNotice = none) : Tracking (osBatch cs v) := by
  refine ⟨?_, ?_, ?_⟩
  · rw [(osBatch_trip cs v).1, h.gu]
    exact htrip
  · simpa using htracked
  · simpa using hdone

/-- What the event leaves of each block but the FU, the JW, the CP and the Event Unit. -/
theorem Applies.settled {cs : List Change} (ht : Tracking (osBatch cs v)) :
    let t := settle (osBatch cs v)
    t.su = v.su ∧ t.os = (osBatch cs s).os ∧ t.gu = (osBatch cs s).gu ∧ t.tb = s.tb ∧ t.cx = s.cx ∧ t.pins = s.pins ∧
      t.oracle = s.oracle := by
  obtain ⟨hos, hgu⟩ := h.batch cs
  obtain ⟨ksu, kos, kgu, ktb, koracle⟩ := ht.settle_parts
  refine ⟨ksu.trans (by simp), kos.trans hos, kgu.trans hgu, ktb.trans ?_, ?_, ?_, koracle.trans ?_⟩
  · simpa using h.tb
  · simpa using h.cx
  · simpa using h.pins
  · simpa using h.oracle

theorem Applies.tally {i : Fin 16} (hi : i ≠ 4 ∧ i ≠ 5 ∧ i ≠ 10 ∧ i ≠ 11) (hlink : i ≠ 14) {cs : List Change}
    (ht : Tracking (osBatch cs v)) :
    (settle (osBatch cs v)).ev.tallies[i] = (entriesApplied s).ev.tallies[i] := by
  rw [ht.settle_tally hlink, ← h.ev]
  exact (tally_stands hi _).osBatch cs v rfl

theorem Applies.rises {cs : List Change} (hcs : cs ≠ []) (ht : Tracking (osBatch cs v)) :
    (settle (osBatch cs v)).ev.tallies[5] =
      satAdd s.ev.tallies[5] (risesDeferred s.os (settle (osBatch cs v)).os) := by
  have hrises := osBatch_rises hcs v
  rw [h.os, h.ev] at hrises
  have hentries : (entriesApplied s).ev.tallies[5] = s.ev.tallies[5] := foldl_applyEntry_tally (i := 5) (by decide) _ _
  rw [hentries] at hrises
  rw [ht.settle_parts.2.1]
  exact (ht.settle_tally (i := 5) (by decide)).trans hrises

end

/-- The entries due take no staged block. -/
def PlainDue (s : State) : Prop := ∀ e ∈ dueEntries s, e.Plain s

theorem entriesApplied_plain {s : State} (h : PlainDue s) :
    (entriesApplied s).cp = s.cp ∧
      (entriesApplied s).jw = ((dueEntries s).filterMap (Entry.record s)).foldl (fun j r => j.offer r) s.jw ∧
        Counted ((dueEntries s).filterMap (Entry.record s)).length 0 0 s (entriesApplied s) := by
  obtain ⟨s', hs'⟩ : ∃ s' : State, s' = { s with su := { s.su with agenda := appliedAgenda s } } := ⟨_, rfl⟩
  have hplain : ∀ e ∈ dueEntries s, e.Plain s' := fun e he => by rw [hs']; exact h e he
  obtain ⟨hcp, hjw, hcounted⟩ := foldl_applyEntry_plain hplain
  have hrecord : Entry.record s' = Entry.record s := Entry.record_congr (by rw [hs'])
  rw [hrecord] at hjw hcounted
  have hstart : Counted 0 0 0 s s' := .of_eq (by rw [hs']) (by rw [hs'])
  have hfold : entriesApplied s = (dueEntries s).foldl applyEntry s' := by rw [hs']; rfl
  rw [hfold]
  refine ⟨hcp.trans (by rw [hs']), hjw.trans (by rw [hs']), hcounted.after hstart⟩

theorem Applies.closeAsked {s v : State} (h : Applies s v) (hplain : PlainDue s) (hclose : CloseAsked s)
    (hbp : s.bp.Alike v.bp) (cs : List Change) : CloseAsked (osBatch cs v) := by
  obtain ⟨_, _, hcounted⟩ := entriesApplied_plain hplain
  obtain ⟨_, hbatch⟩ := osBatch_counted cs v
  have hstate : (osBatch cs v).jw.state = s.jw.state := by rw [hbatch.state, h.jw, hcounted.state]
  intro hclosing
  have hbus : (osBatch cs v).bp = v.bp := by simp
  rw [hbus, hbp.outstanding]
  exact hclose (hstate.symm.trans hclosing)

theorem Applies.cp_kept {s v : State} (h : Applies s v) (hplain : PlainDue s) (hclose : CloseAsked s)
    (hbp : s.bp.Alike v.bp) {cs : List Change} (ht : Tracking (osBatch cs v)) : (settle (osBatch cs v)).cp = s.cp := by
  rw [(ht.settle_kept (h.closeAsked hplain hclose hbp cs)).1]
  simpa [h.cp] using (entriesApplied_plain hplain).1

/-! ## The two ends (R78, R89) -/

/-- The event of a program that goes on. -/
theorem applyDue_going {s : State} (hdue : applicationDue s = true) (hplain : PlainDue s)
    (hgoes : (entriesApplied s).su.program = .draining → (entriesApplied s).su.agenda ≠ []) :
    applyDue s = osBatch (dueChanges s) (entriesApplied s) := by
  rw [applyDue_of_untaken hdue (takesLimits_of_plain hplain), applyEntries_eq_drainEnd, drainEnd_of_going hgoes]
  rfl

/-- The event that ends a drain. -/
theorem applyDue_stopping {s : State} (hdue : applicationDue s = true) (hplain : PlainDue s)
    (hdraining : (entriesApplied s).su.program = .draining) (hempty : (entriesApplied s).su.agenda = []) :
    applyDue s = osBatch (dueChanges s)
      (enterStopping (entriesApplied s).su.outcome (entriesApplied s).su.reason (entriesApplied s)) := by
  rw [applyDue_of_untaken hdue (takesLimits_of_plain hplain), applyEntries_eq_drainEnd,
    drainEnd_of_empty hdraining hempty]
  rfl

theorem entriesApplied_table_eq_nil (s : State) : (entriesApplied s).fu.table = [] ↔ s.fu.table = [] := by
  rw [← List.length_eq_zero_iff, ← List.length_eq_zero_iff, entriesApplied_fu, (foldl_release_parts _ _).2.2.2.2]

/-- A program that goes on, in an event that begins with no notice out. -/
theorem going_tracking {s : State} (h : Tracking s) (hgoes : (entriesApplied s).su.program ≠ .stopping) (cs : List Change) :
    Tracking (osBatch cs (entriesApplied s)) := by
  obtain ⟨htrip, htracked, _⟩ := h
  refine (applies_going s).tracking htrip (fun hst htable => ?_) fun hstopping => absurd hstopping hgoes
  rw [entriesApplied_fu, (foldl_release_parts _ _).1] at hst
  exact htracked hst ((entriesApplied_table_eq_nil s).mp htable)

/-- A drain that ends while the FU retires strips. -/
theorem stopping_tracking {s : State} (htrip : s.gu.tripNotice = none) (hretiring : Retiring s) {o : ProgramOutcome}
    (ho : o.changesLevels = false) (r : Reason) (cs : List Change) :
    Tracking (osBatch cs (enterStopping o r (entriesApplied s))) := by
  obtain ⟨htable, hdone⟩ := hretiring
  obtain ⟨_, _, hgu, _⟩ := entriesApplied_frame s
  have hafter : Retiring (entriesApplied s) := by
    refine ⟨fun hnil => htable ((entriesApplied_table_eq_nil s).mp hnil), ?_⟩
    rw [entriesApplied_fu, (foldl_release_parts _ _).2.1]
    exact hdone
  obtain ⟨_, htracked, hdone'⟩ := enterStopping_tracking (by rw [hgu]; exact htrip) hafter o r
  exact (applies_stopping s ho r).tracking htrip htracked hdone'

/-- What a going application leaves. -/
theorem going_settled {s : State} (h : Tracking s) (hclose : CloseAsked s) (hplain : PlainDue s)
    (hgoes : (entriesApplied s).su.program ≠ .stopping) (cs : List Change) :
    let t := settle (osBatch cs (entriesApplied s))
    t.su = (entriesApplied s).su ∧ t.os = (osBatch cs s).os ∧ t.gu = (osBatch cs s).gu ∧ t.tb = s.tb ∧ t.cx = s.cx ∧
      t.cp = s.cp ∧ t.pins = s.pins ∧ t.oracle = s.oracle := by
  have htracking := going_tracking h hgoes cs
  have hbp : (entriesApplied s).bp = s.bp := (entriesApplied_frame s).2.2.2.2.1
  obtain ⟨ksu, kos, kgu, ktb, kcx, kpins, koracle⟩ := (applies_going s).settled htracking
  exact ⟨ksu, kos, kgu, ktb, kcx, (applies_going s).cp_kept hplain hclose (by rw [hbp]; exact .refl _) htracking, kpins,
    koracle⟩

/-- What the end of a drain leaves. -/
theorem stopping_settled {s : State} (htrip : s.gu.tripNotice = none) (hretiring : Retiring s) (hclose : CloseAsked s)
    (hplain : PlainDue s) {o : ProgramOutcome} (ho : o.changesLevels = false) (r : Reason) (cs : List Change) :
    let t := settle (osBatch cs (enterStopping o r (entriesApplied s)))
    t.su = { (entriesApplied s).su with
        program := .stopping, outcome := o, reason := r, admissionOpen := false, queue := [], waiter := none,
        agenda := [] } ∧
      t.os = (osBatch cs s).os ∧ t.gu = (osBatch cs s).gu ∧ t.tb = s.tb ∧ t.cx = s.cx ∧ t.cp = s.cp ∧
        t.pins = s.pins ∧ t.oracle = s.oracle := by
  have htracking := stopping_tracking htrip hretiring ho r cs
  have hbp : (entriesApplied s).bp = s.bp := (entriesApplied_frame s).2.2.2.2.1
  have halike := enterStopping_alike o r (entriesApplied s)
  rw [hbp] at halike
  obtain ⟨ksu, kos, kgu, ktb, kcx, kpins, koracle⟩ := (applies_stopping s ho r).settled htracking
  exact ⟨ksu.trans (enterStopping_su o r _), kos, kgu, ktb, kcx,
    (applies_stopping s ho r).cp_kept hplain hclose halike htracking, kpins, koracle⟩

/-- STARVED and the requests after an application of a program that goes on. -/
theorem going_on {s b : State} (h : Tracking s) (hrested : Rested b) (hbp : s.bp = b.bp)
    (hcause : pendingCause .starved s = pendingCause .starved b) (hepisode : s.fu.starvedReported = b.fu.starvedReported)
    (hgoes : (entriesApplied s).su.program ≠ .stopping) (cs : List Change) :
    StarvedJudged b (settle (osBatch cs (entriesApplied s))) ∧
      (b.bp.outstanding .fu = false → FetchAsked (settle (osBatch cs (entriesApplied s)))) := by
  obtain ⟨_, _, _, _, kbp, _⟩ := entriesApplied_frame s
  refine (going_tracking h hgoes cs).goes_on hrested ?_ ?_ ?_
  · rw [← hbp, ← kbp]
    simp
  · rw [osBatch_pendingCause (by decide), entriesApplied, foldl_applyEntry_pendingCause (by decide)]
    exact hcause
  · have hfu : (osBatch cs (entriesApplied s)).fu = (entriesApplied s).fu := by simp
    rw [hfu, entriesApplied_fu, (foldl_release_parts _ _).2.2.1]
    exact hepisode

end Sys2Proof.Machine
end

/-! The lines, the records and the counts of one change (R68, R106, R107), and the event of the entries that move lines. -/
section
namespace Sys2Proof.Machine

/-! ## One change, line by line -/

theorem change_line (c : Change) (o : OutputStage) (n : Fin 16) :
    (o.change c).lines[n].requested =
        (if (c.mask.getLsbD n.val && o.lines[n].role == .sequenced) = true then
          if c.levels.getLsbD n.val = true then .high else .low
        else o.lines[n].requested) ∧
      (o.change c).lines[n].await =
        (o.lines[n].await && !(c.mask.getLsbD n.val && o.lines[n].role == .sequenced)) := by
  unfold OutputStage.change
  rw [mapLines_line]
  unfold Line.ask levelOfBit
  cases c.mask.getLsbD n.val with
  | false => simp
  | true => cases hrole : o.lines[n].role <;> simp [← Fin.getElem_fin]

theorem asked_line (c : Change) (o : OutputStage) (n : Fin 16) :
    (o.asked c).lines[n].requested =
        (if (o.change c).bothHigh (pairOf n) = true then .low else (o.change c).lines[n].requested) ∧
      (o.asked c).lines[n].await = (o.change c).lines[n].await := by
  unfold OutputStage.asked OutputStage.suppress
  rw [mapLines_line]
  split <;> exact ⟨rfl, rfl⟩

theorem osBatch_one_line (c : Change) (s : State) (n : Fin 16) :
    (osBatch [c] s).os.lines[n].requested = (s.os.asked c).lines[n].requested ∧
      (osBatch [c] s).os.lines[n].await = (s.os.asked c).lines[n].await := by
  rw [osBatch_os (List.cons_ne_nil _ _)]
  exact ⟨resolve_requested _ _ _, resolve_await _ _ _⟩

theorem foldl_offer_shoots (l : List (Fin 8)) (s : State) :
    (l.foldl (fun s k => offer (shootRecord s.tb.tl k) s) s).jw =
      l.foldl (fun j k => j.offer (shootRecord s.tb.tl k)) s.jw := by
  induction l generalizing s with
  | nil => rfl
  | cons k l ih => exact ih (offer (shootRecord s.tb.tl k) s)

/-- One change offers a SHOOT record for each pair it leaves requested both HIGH, and counts them (R107). -/
theorem osBatch_one_shoots (c : Change) (s : State) :
    (osBatch [c] s).jw = (s.os.change c).shootPairs.foldl (fun j k => j.offer (shootRecord s.tb.tl k)) s.jw ∧
      (osBatch [c] s).ev.tallies[4] = satAdd s.ev.tallies[4] (s.os.change c).shootPairs.length := by
  refine ⟨foldl_offer_shoots _ _, ?_⟩
  have hcounted := (suppressShoot_counted { s with os := s.os.change c }).then (osResolve_counted _)
  exact hcounted.shoots

/-! ## Entries that move lines (R69 to R74) -/

/-- The entry moves lines: it is no MARK, no APPLY_LIMITS and no END. -/
def Entry.Moves (e : Entry) : Prop := e.kind ≠ .mark ∧ e.kind ≠ .applyLimits ∧ e.kind ≠ .endProgram

theorem Entry.Moves.change {e : Entry} (h : e.Moves) :
    e.change = some { mask := e.mask, levels := if e.kind = .pulseTrail ∨ e.kind = .trainTrail then ~~~e.pattern else e.pattern } := by
  obtain ⟨hmark, hlimits, hend⟩ := h
  unfold Entry.change
  cases hk : e.kind
  case mark => exact absurd hk hmark
  case applyLimits => exact absurd hk hlimits
  case endProgram => exact absurd hk hend
  all_goals rfl

theorem Entry.Moves.record {e : Entry} (h : e.Moves) (s : State) : e.record s = none := by
  obtain ⟨hmark, hlimits, _⟩ := h
  unfold Entry.record
  cases hk : e.kind
  case mark => exact absurd hk hmark
  case applyLimits => exact absurd hk hlimits
  all_goals rfl

/-- Every entry due moves lines. -/
def MovesDue (s : State) : Prop := ∀ e ∈ dueEntries s, e.Moves

section
variable {s : State} (h : MovesDue s)
include h

theorem MovesDue.plain : PlainDue s := fun e he => .inr (h e he).2.1

theorem MovesDue.su : (entriesApplied s).su = { s.su with agenda := appliedAgenda s } :=
  entriesApplied_su_of_no_end fun e he => (h e he).2.2

theorem MovesDue.jw : (entriesApplied s).jw = s.jw := by
  have hnone : (dueEntries s).filterMap (Entry.record s) = [] :=
    List.filterMap_eq_nil_iff.mpr fun e he => (h e he).record s
  rw [(entriesApplied_plain h.plain).2.1, hnone]
  rfl

theorem MovesDue.changes_ne_nil (hdue : dueEntries s ≠ []) : dueChanges s ≠ [] := by
  obtain ⟨e, l, hl⟩ := List.exists_cons_of_ne_nil hdue
  have hchange := (h e (by rw [hl]; exact List.mem_cons_self)).change
  rw [dueChanges, hl, List.filterMap_cons, hchange]
  exact List.cons_ne_nil _ _

end

theorem shootPairs_change (c : Change) (o : OutputStage) (wanted : Fin 16 → Level)
    (h : ∀ n : Fin 16, (o.change c).lines[n].requested = wanted n) (k : Fin 8) :
    (o.change c).bothHigh k =
      (o.pairs[k].enabled && wanted (lowerLine k) == .high && wanted (upperLine k) == .high) := by
  unfold OutputStage.bothHigh
  rw [h, h, change_pairs]

section
variable {s : State} (hmoves : MovesDue s) (hdue : dueEntries s ≠ [])
include hmoves hdue

/-- The event of a program that goes on after it. -/
theorem moves_going (hgoes : s.su.program = .running ∨ (s.su.program = .draining ∧ appliedAgenda s ≠ [])) :
    applicationDue s = true ∧ exec .application s = .next (settle (osBatch (dueChanges s) (entriesApplied s))) ∧
      (entriesApplied s).su.program ≠ .stopping := by
  have happlication : applicationDue s = true := (applicationDue_iff s).mpr ⟨hgoes.imp_right And.left, hdue⟩
  have hgoing : (entriesApplied s).su.program = .draining → (entriesApplied s).su.agenda ≠ [] := by
    rw [hmoves.su]
    intro hdraining
    have hprogram : s.su.program = .draining := hdraining
    exact hgoes.elim (fun hrunning => by rw [hprogram] at hrunning; cases hrunning) And.right
  refine ⟨happlication, ?_, ?_⟩
  · rw [exec_application, takeApplication_of_due happlication, applyDue_going happlication hmoves.plain hgoing]
  · rw [hmoves.su]
    intro hstopping
    have hst : s.su.program = .stopping := hstopping
    rcases hgoes with h | ⟨h, _⟩ <;> rw [hst] at h <;> cases h

/-- The event that ends a drain. -/
theorem moves_stopping (hdraining : s.su.program = .draining) (hempty : appliedAgenda s = []) :
    exec .application s = .next (settle (osBatch (dueChanges s)
      (enterStopping s.su.outcome s.su.reason (entriesApplied s)))) := by
  have happlication : applicationDue s = true := (applicationDue_iff s).mpr ⟨.inr hdraining, hdue⟩
  have happlied := applyDue_stopping happlication hmoves.plain (by rw [hmoves.su]; exact hdraining)
    (by rw [hmoves.su]; exact hempty)
  rw [exec_application, takeApplication_of_due happlication, happlied, hmoves.su]

end

/-- The slots, the lines and the records of one entry that moves lines. -/
theorem moves_one {s : State} (hquiet : Quiet s) {e : Entry} (hone : dueEntries s = [e]) (he : e.Moves)
    (hgoes : (entriesApplied s).su.program ≠ .stopping) {c : Change} (hc : e.change = some c) :
    let t := settle (osBatch (dueChanges s) (entriesApplied s))
    (∀ n : Fin 16, t.os.lines[n].requested = (s.os.asked c).lines[n].requested ∧
      t.os.lines[n].await = (s.os.asked c).lines[n].await) ∧
      t.fu.table = s.fu.table.map (fun sl => slotJudged s.fu
        (if e.rekeyed.isSome then sl else slotNoticed e.slot Slot.entryApplied sl)) ∧
        t.ev.tallies[4] = satAdd s.ev.tallies[4] (s.os.change c).shootPairs.length ∧
          t.jw.fifo = ((s.os.change c).shootPairs.foldl (fun j k => j.offer (shootRecord s.tb.tl k)) s.jw).fifo := by
  have hmoves : MovesDue s := fun x hx => by
    rw [hone] at hx
    rw [List.mem_singleton.mp hx]
    exact he
  have hchanges : dueChanges s = [c] := by rw [dueChanges, hone, List.filterMap_cons, hc]; rfl
  have htracking := going_tracking hquiet.tracking hgoes (dueChanges s)
  have hos := ((applies_going s).settled htracking).2.1
  obtain ⟨htb, hstage, _⟩ := entriesApplied_frame s
  obtain ⟨hjw, htally⟩ := osBatch_one_shoots c (entriesApplied s)
  have hentries : (entriesApplied s).ev.tallies[4] = s.ev.tallies[4] := foldl_applyEntry_tally (i := 4) (by decide) _ _
  rw [hentries, hstage] at htally
  rw [hstage, htb, hmoves.jw] at hjw
  dsimp only
  refine ⟨fun n => ?_, htracking.settle_table.1.trans ?_, (htracking.settle_tally (i := 4) (by decide)).trans ?_,
    htracking.settle_fifo.trans ?_⟩
  · rw [hos, hchanges]
    exact osBatch_one_line c s n
  · have hfu : (osBatch (dueChanges s) (entriesApplied s)).fu = e.release s.fu := by
      rw [(osBatch_frame _ _).2.1, entriesApplied_fu, hone]
      rfl
    rw [hfu]
    exact markReady_release s.fu e
  · rw [hchanges]
    exact htally
  · rw [hchanges, hjw]

/-- Settles O30: the batch of the changes due, in a program that goes on and in one whose last entry this was. -/
theorem applicationMovesLines : Obligations.ApplicationMovesLines := by
  intro s
  refine ⟨fun hrunning hdraining => ?_, fun hnone => ?_, fun hquiet hrested hdue hmoves => ?_⟩
  · rw [exec_application, takeApplication_of_none]
    exact Bool.eq_false_iff.mpr fun h => ((applicationDue_iff s).mp h).1.elim hrunning hdraining
  · rw [exec_application, takeApplication_of_none]
    exact Bool.eq_false_iff.mpr fun h => ((applicationDue_iff s).mp h).2 hnone
  replace hmoves : MovesDue s := hmoves
  have hclose := hrested.closeAsked
  refine ⟨fun hgoes => ?_, fun hdraining houtcome hempty hretiring => ?_, fun hgoes => ?_⟩
  · obtain ⟨_, hexec, hnot⟩ := moves_going hmoves hdue hgoes
    obtain ⟨ksu, kall⟩ := going_settled hquiet.tracking hclose hmoves.plain hnot (dueChanges s)
    exact ⟨_, hexec, ksu.trans hmoves.su, kall⟩
  · have hsteady : s.su.outcome.changesLevels = false := by
      rcases houtcome with h | h <;> rw [h] <;> rfl
    obtain ⟨ksu, kall⟩ := stopping_settled hquiet.1 hretiring hclose hmoves.plain hsteady s.su.reason (dueChanges s)
    exact ⟨_, moves_stopping hmoves hdue hdraining hempty, ksu.trans (by rw [hmoves.su]), kall⟩
  obtain ⟨_, hexec, hnot⟩ := moves_going hmoves hdue hgoes
  have hchanges := hmoves.changes_ne_nil hdue
  have htracking := going_tracking hquiet.tracking hnot (dueChanges s)
  obtain ⟨_, kos, _⟩ := going_settled hquiet.tracking hclose hmoves.plain hnot (dueChanges s)
  refine ⟨⟨_, hexec, ?_, ?_, (applies_going s).rises hchanges htracking, ?_⟩, fun e hone => ?_⟩
  · rw [kos]
    exact (osBatch_resolved hchanges s).1
  · rw [kos]
    exact (osBatch_resolved hchanges s).2
  · exact ((applies_going s).tally (i := 3) (by decide) (by decide) htracking).trans
      (foldl_applyEntry_applications _ _)
  · have he : e.Moves := hmoves e (by rw [hone]; exact List.mem_singleton_self e)
    obtain ⟨klines, ktable, ktally, kfifo⟩ := moves_one hquiet hone he hnot he.change
    obtain ⟨_, kfetch⟩ := going_on hquiet.tracking hrested rfl rfl rfl hnot (dueChanges s)
    have hshoots := shootPairs_change
      { mask := e.mask, levels := if e.kind = .pulseTrail ∨ e.kind = .trainTrail then ~~~e.pattern else e.pattern } s.os _
      (fun n => (change_line _ s.os n).1)
    refine ⟨_, hexec, fun n => ⟨(klines n).1.trans ?_, (klines n).2.trans ?_⟩, ktable, fun hout => (kfetch hout).1, ?_, ?_⟩
    · rw [(asked_line _ s.os n).1, hshoots, (change_line _ s.os n).1]
    · rw [(asked_line _ s.os n).2]
      exact (change_line _ s.os n).2
    · refine ktally.trans (congrArg (satAdd _) (congrArg List.length ?_))
      exact List.filter_congr fun k _ => hshoots k
    · refine kfifo.trans (congrArg JournalWriter.fifo ?_)
      refine congrArg (fun l => List.foldl _ _ l) ?_
      exact List.filter_congr fun k _ => hshoots k

end Sys2Proof.Machine
end

/-! A staged block that an application makes active (R76, R112, R132, R179): what the OS and the GU take of it, and what
the end of the event leaves of that. -/
section
namespace Sys2Proof.Machine

/-! ## The intervals that a block sets -/

/-- The dead times, the blank lengths and the hold limits stand, and so do the enabled pairs. -/
structure SameTimes (s t : State) : Prop where
  pairs : t.os.pairs = s.os.pairs
  inputs : ∀ n : Fin 4, t.gu.inputs[n].blankLength = s.gu.inputs[n].blankLength ∧
    t.gu.inputs[n].holdLimit = s.gu.inputs[n].holdLimit

theorem SameTimes.of_eq {s t : State} (hos : t.os.pairs = s.os.pairs) (hgu : t.gu.inputs = s.gu.inputs) : SameTimes s t :=
  ⟨hos, fun n => by rw [hgu]; exact ⟨rfl, rfl⟩⟩

theorem SameTimes.refl (s : State) : SameTimes s s := .of_eq rfl rfl

theorem SameTimes.after {s t u : State} (k : SameTimes t u) (h : SameTimes s t) : SameTimes s u :=
  ⟨k.pairs.trans h.pairs, fun n => ⟨(k.inputs n).1.trans (h.inputs n).1, (k.inputs n).2.trans (h.inputs n).2⟩⟩

theorem blank_times (t : Time) (edges : List (Fin 16)) (g : GuardUnit) (n : Fin 4) :
    (g.blank t edges).inputs[n].blankLength = g.inputs[n].blankLength ∧
      (g.blank t edges).inputs[n].holdLimit = g.inputs[n].holdLimit ∧
        (g.blank t edges).inputs[n].state = g.inputs[n].state := by
  have hsame := blank_input t edges g n
  exact ⟨(congrArg FaultInput.blankLength hsame :), (congrArg FaultInput.holdLimit hsame :),
    (congrArg FaultInput.state hsame :)⟩

theorem osResolve_sameTimes (s : State) : SameTimes s (osResolve s) :=
  ⟨resolve_pairs _ _, fun n =>
    have hblank := blank_times s.tb.tl (drivenChanges s.os (s.os.resolve s.tb.tl)) s.gu n
    ⟨hblank.1, hblank.2.1⟩⟩

theorem osEndLevels_sameTimes (s : State) : SameTimes s (osEndLevels s) := by
  obtain ⟨w, hw⟩ : ∃ w, w = suppressShoot { s with os := s.os.endLevels } := ⟨_, rfl⟩
  have hpairs : w.os.pairs = s.os.pairs := by
    rw [hw, suppressShoot_os, suppress_pairs, OutputStage.endLevels, mapLines_pairs]
  have hgu : w.gu = s.gu := by simp [hw]
  have hended : osEndLevels s = osResolve w := by rw [hw]; rfl
  rw [hended]
  exact (osResolve_sameTimes w).after (.of_eq hpairs (by rw [hgu]))

theorem enterStopping_sameTimes (o : ProgramOutcome) (r : Reason) (s : State) : SameTimes s (enterStopping o r s) := by
  have hclosed : SameTimes s (discardAgenda { noticeClosed s with su := (noticeClosed s).su.stop o r }) :=
    .of_eq (by simp [discardAgenda]) (by simp [discardAgenda])
  unfold enterStopping
  dsimp only
  split
  · exact (osEndLevels_sameTimes _).after hclosed
  · exact hclosed

theorem takeTripAbort_sameTimes (s : State) : SameTimes s (takeTripAbort s) := by
  unfold takeTripAbort
  split
  · exact enterStopping_sameTimes _ _ s
  · exact .refl s

theorem coverLines_sameTimes (mask : Half) (s : State) : SameTimes s (coverLines mask s) := by
  have hcovered : SameTimes s { s with os := s.os.cover mask } := .of_eq (mapLines_pairs _ _) rfl
  exact (osResolve_sameTimes _).after hcovered

theorem deliverTrip_sameTimes (s : State) : SameTimes s (deliverTrip s) := by
  unfold deliverTrip
  split
  next => exact .refl s
  next mask _ =>
    have hdrawn : SameTimes s (afterDraw { s with gu := { s.gu with tripNotice := none } }) := .of_eq rfl rfl
    dsimp only
    split
    · exact (coverLines_sameTimes _ _).after ((takeTripAbort_sameTimes _).after hdrawn)
    · exact (takeTripAbort_sameTimes _).after ((coverLines_sameTimes _ _).after hdrawn)

section
variable {s : State} (hstaged : s.cp.staged = none)
include hstaged

theorem takeRetirementDone_sameTimes : SameTimes s (takeRetirementDone s) := by
  unfold takeRetirementDone
  split
  next incomplete _ =>
    split
    next =>
      rw [programEnd_eq, if_neg (by rw [hstaged]; decide)]
      obtain ⟨hgu, hos, _⟩ := programEnded_parts incomplete { s with fu := { s.fu with doneNotice := none } }
      exact .of_eq (by rw [hos]) (by rw [hgu])
    next => exact .refl s
  next => exact .refl s

end

/-- With no block staged the end of an event leaves the intervals. -/
theorem settle_sameTimes {s : State} (hstaged : s.cp.staged = none) : SameTimes s (settle s) := by
  have hevaluated (u : State) : SameTimes u (fuEvaluate u) := .of_eq rfl rfl
  have hjudged := (hevaluated _).after (deliverTrip_sameTimes s)
  have hnone : (fuEvaluate (deliverTrip s)).cp.staged = none := by simpa using hstaged
  have hreported : SameTimes (takeNotices s) (settle s) := .of_eq (by simp [settle]) (by simp [settle])
  have hstarved (u : State) : SameTimes u (reportStarved u) := .of_eq (by simp) (by simp)
  exact hreported.after ((hstarved _).after ((deliverTrip_sameTimes _).after
    ((takeRetirementDone_sameTimes hnone).after hjudged)))

/-! ## The CP at the end of an event -/

theorem jwState_stays (j : JournalState) : Escalating fun t => t.jw.state = j where
  same := fun h _ hjw => by rw [hjw]; exact h
  offer := fun r s hs => (offer_state r s).trans hs
  raise := fun _ _ hs => hs
  shoots := fun _ _ hs => hs
  rises := fun _ _ hs => hs
  escalations := fun _ hs => hs
  trips := fun _ hs => hs

theorem takeRetirementDone_cp {s : State} (hstaged : s.cp.staged = none) (hstop : inProgressIs stopCode s = false) :
    (takeRetirementDone s).cp = s.cp := by
  unfold takeRetirementDone
  split
  next incomplete _ =>
    split
    next =>
      rw [programEnd_eq, if_neg (by rw [hstaged]; decide), programEnded]
      rw [applyStaged_of_none (by exact hstaged), completeStop]
      split
      next h => exact absurd (hstop.symm.trans h) Bool.false_ne_true
      next => rfl
    next => rfl
  next => rfl

/-- With no block staged and no STOP_PROGRAM in progress the end of an event leaves the CP. -/
theorem settle_cp {s : State} (hstaged : s.cp.staged = none) (hstop : inProgressIs stopCode s = false)
    (hclose : CloseAsked s) : (settle s).cp = s.cp := by
  have hclose' : CloseAsked (takeNotices s) := by
    intro hclosing
    rw [(takeNotices_noMore s).bus.outstanding]
    exact hclose (((jwState_stays s.jw.state).takeNotices s rfl).symm.trans hclosing)
  have hjudged : (fuEvaluate (deliverTrip s)).cp = s.cp := by simp
  have hdone := takeRetirementDone_cp (s := fuEvaluate (deliverTrip s)) (by rw [hjudged]; exact hstaged)
    (by unfold inProgressIs; rw [hjudged]; exact hstop)
  rw [settle, (pump_kept hclose').1, takeNotices]
  simpa using hdone

/-! ## New Limits at the GU (R132) -/

theorem setLimits_input (m : Limits) (g : GuardUnit) (n : Fin 4) :
    (g.setLimits m).inputs[n] = { g.inputs[n] with blankLength := m.blankLengths[n], holdLimit := m.holdLimits[n] } := by
  rw [GuardUnit.setLimits, GuardUnit.mapInputs_input]

theorem escalate_times (n k : Fin 4) (s : State) :
    (escalate n s).gu.inputs[k].blankLength = s.gu.inputs[k].blankLength ∧
      (escalate n s).gu.inputs[k].holdLimit = s.gu.inputs[k].holdLimit := by
  change (s.gu.setInput n { s.gu.inputs[n] with escalated := true }).inputs[k].blankLength = _ ∧
    (s.gu.setInput n { s.gu.inputs[n] with escalated := true }).inputs[k].holdLimit = _
  by_cases h : k = n
  · subst h
    rw [setInput_same]
    exact ⟨rfl, rfl⟩
  · rw [setInput_other _ _ h]
    exact ⟨rfl, rfl⟩

/-- The input has the block's intervals. -/
def TimesSet (m : Limits) (n : Fin 4) (s : State) : Prop :=
  s.gu.inputs[n].blankLength = m.blankLengths[n] ∧ s.gu.inputs[n].holdLimit = m.holdLimits[n]

theorem judgeHold_timesSet (m : Limits) (n k : Fin 4) (s : State) (h : TimesSet m n s) : TimesSet m n (judgeHold s k) := by
  unfold judgeHold
  split
  · obtain ⟨hblank, hhold⟩ := escalate_times k n s
    exact ⟨hblank.trans h.1, hhold.trans h.2⟩
  · exact h

/-- The GU takes the blank lengths and the hold limits, whatever holds escalate. -/
theorem guNewLimits_times (m : Limits) (s : State) (n : Fin 4) : TimesSet m n (guNewLimits m s) := by
  have hset : TimesSet m n { s with gu := s.gu.setLimits m } := by
    unfold TimesSet
    dsimp only
    rw [setLimits_input]
    exact ⟨rfl, rfl⟩
  exact foldl_inv (TimesSet m n) judgeHold (fun t k ht => judgeHold_timesSet m n k t ht) _ _ hset

theorem deliverLimits_times (m : Limits) (s : State) (n : Fin 4) :
    TimesSet m n (deliverLimits m s) := by
  unfold deliverLimits
  split
  · obtain ⟨w, hw⟩ : ∃ w, w = guNewLimits m (afterDraw s) := ⟨_, rfl⟩
    have htimes := guNewLimits_times m (afterDraw s) n
    rw [← hw] at htimes ⊢
    have hsame : SameTimes { w with os := w.os.newDeadTimes w.tb.tl m } (osNewDeadTimes m w) := osResolve_sameTimes _
    exact ⟨(hsame.inputs n).1.trans htimes.1, (hsame.inputs n).2.trans htimes.2⟩
  · exact guNewLimits_times m _ n

/-- No input is ACTIVE. -/
def Unguarded (g : GuardUnit) : Prop := ∀ n : Fin 4, g.inputs[n].state ≠ .active

theorem Unguarded.blank {g : GuardUnit} (h : Unguarded g) (t : Time) (edges : List (Fin 16)) : Unguarded (g.blank t edges) :=
  fun n => by rw [(blank_times t edges g n).2.2]; exact h n

/-- With no input ACTIVE no hold escalates. -/
theorem guNewLimits_of_unguarded {s : State} (h : Unguarded s.gu) (m : Limits) :
    guNewLimits m s = { s with gu := s.gu.setLimits m } := by
  obtain ⟨w, hw⟩ : ∃ w : State, w = { s with gu := s.gu.setLimits m } := ⟨_, rfl⟩
  have hstate (n : Fin 4) : w.gu.inputs[n].state ≠ .active := by
    rw [hw]
    dsimp only
    rw [setLimits_input]
    exact h n
  have hstill (n : Fin 4) : judgeHold w n = w := by
    have hover : overLimit n w = false := by
      rw [overLimit, FaultInput.watched, beq_eq_false_iff_ne.mpr (hstate n)]
      rfl
    rw [judgeHold, hover]
    rfl
  rw [guNewLimits, ← hw]
  exact foldl_inv (fun t => t = w) judgeHold (fun t n ht => by rw [ht]; exact hstill n) _ _ rfl

theorem osNewDeadTimes_kept (m : Limits) (s : State) :
    (osNewDeadTimes m s).ev.events = s.ev.events ∧ (osNewDeadTimes m s).gu.tripNotice = s.gu.tripNotice := ⟨rfl, rfl⟩

/-- What new Limits leave of a state with no input ACTIVE. -/
theorem deliverLimits_of_unguarded {s : State} (h : Unguarded s.gu) (m : Limits) :
    (deliverLimits m s).tb = s.tb ∧ (deliverLimits m s).jw = s.jw ∧ (deliverLimits m s).ev.events = s.ev.events ∧
      (deliverLimits m s).gu.tripNotice = s.gu.tripNotice := by
  have hdrawn : Unguarded (afterDraw s).gu := h
  unfold deliverLimits
  split
  · obtain ⟨hevents, htrip⟩ := osNewDeadTimes_kept m (guNewLimits m (afterDraw s))
    rw [(osNewDeadTimes_frame _ _).1, (osNewDeadTimes_frame _ _).2.2.2.2.1, hevents, htrip, guNewLimits_of_unguarded hdrawn]
    exact ⟨rfl, rfl, rfl, rfl⟩
  · obtain ⟨w, hw⟩ : ∃ w, w = osNewDeadTimes m (afterDraw s) := ⟨_, rfl⟩
    have hblanked : Unguarded w.gu := by rw [hw]; exact hdrawn.blank _ _
    obtain ⟨hevents, htrip⟩ := osNewDeadTimes_kept m (afterDraw s)
    rw [← hw] at hevents htrip
    have htb : w.tb = s.tb := by simp [hw, afterDraw]
    have hjw : w.jw = s.jw := by simp [hw, afterDraw]
    rw [← hw, guNewLimits_of_unguarded hblanked]
    exact ⟨htb, hjw, hevents, htrip⟩

/-! ## A block taken in an application (R76) -/

/-- The first APPLY_LIMITS of the entries takes the block. -/
theorem foldl_applyEntry_cp {l : List Entry} {s : State} {b : StagedLimits} (hstaged : s.cp.staged = some b)
    (h : ∃ e ∈ l, e.kind = .applyLimits) :
    (l.foldl applyEntry s).cp = { s.cp with active := b.limits, staged := none } := by
  induction l generalizing s with
  | nil =>
    obtain ⟨_, hmem, _⟩ := h
    cases hmem
  | cons e l ih =>
    rw [List.foldl_cons]
    by_cases hk : e.kind = .applyLimits
    · have htaken : (applyEntry s e).cp = { s.cp with active := b.limits, staged := none } := by
        rw [(applyEntry_kind s e).2.2, applyKind, hk]
        dsimp only
        rw [applyLimitsEntry_of_some (s := count .agendaApplications 1 s) (b := b) hstaged,
          applyStaged_of_some (s := count .agendaApplications 1 s) (b := b) hstaged]
        rfl
      exact (foldl_applyEntry_plain fun _ _ => .inl (by rw [htaken])).1.trans htaken
    · have hplain := (applyEntry_plain (s := s) (e := e) (.inr hk)).1
      have hrest : ∃ x ∈ l, x.kind = .applyLimits := by
        obtain ⟨x, hx, hxk⟩ := h
        rcases List.mem_cons.mp hx with rfl | hx
        · exact absurd hxk hk
        · exact ⟨x, hx, hxk⟩
      rw [ih (by rw [hplain]; exact hstaged) hrest, hplain]

theorem entriesApplied_cp {s : State} {b : StagedLimits} (hstaged : s.cp.staged = some b)
    (h : ∃ e ∈ dueEntries s, e.kind = .applyLimits) :
    (entriesApplied s).cp = { s.cp with active := b.limits, staged := none } :=
  foldl_applyEntry_cp (s := { s with su := { s.su with agenda := appliedAgenda s } }) hstaged h

theorem takesLimits_of_some {s : State} {b : StagedLimits} (hstaged : s.cp.staged = some b)
    (h : ∃ e ∈ dueEntries s, e.kind = .applyLimits) : takesLimits s = true := by
  obtain ⟨e, he, hk⟩ := h
  rw [takesLimits, hstaged, Option.isSome_some, Bool.true_and, List.any_eq_true]
  exact ⟨e, he, beq_iff_eq.mpr hk⟩

/-- The event of entries that take a block in a program that goes on. -/
theorem applyDue_taking {s : State} {b : StagedLimits} (hdue : applicationDue s = true) (hstaged : s.cp.staged = some b)
    (hlimits : ∃ e ∈ dueEntries s, e.kind = .applyLimits)
    (hgoes : (entriesApplied s).su.program = .draining → (entriesApplied s).su.agenda ≠ []) :
    applyDue s = deliverBatch (dueChanges s) true (entriesApplied s) := by
  rw [applyDue, if_pos hdue, takesLimits_of_some hstaged hlimits, applyEntries_eq_drainEnd, drainEnd_of_going hgoes]
  rfl

/-- The batch and the new Limits in the two orders of their delivery. -/
theorem deliverBatch_of_first {v : State} (h : v.oracle % 2 = 0) (cs : List Change) :
    deliverBatch cs true v = deliverLimits v.cp.active (osBatch cs (afterDraw v)) := by
  have hnot : ¬((true = true) ∧ drawn v = true) := fun hd => by
    have hone : v.oracle % 2 = 1 := beq_iff_eq.mp hd.2
    omega
  rw [deliverBatch, if_neg hnot, deliverTaken, if_pos rfl, if_pos rfl, (osBatch_frame _ _).2.2.2.2.1]
  rfl

theorem deliverBatch_of_second {v : State} (h : v.oracle % 2 = 1) (cs : List Change) :
    deliverBatch cs true v = osBatch cs (deliverLimits v.cp.active (afterDraw v)) := by
  have hdrawn : drawn v = true := beq_iff_eq.mpr h
  rw [deliverBatch, if_pos ⟨rfl, hdrawn⟩]
  rfl

theorem osBatch_os_congr {s t : State} (cs : List Change) (hos : t.os = s.os) (htl : t.tb.tl = s.tb.tl) :
    (osBatch cs t).os = (osBatch cs s).os := by
  by_cases h : cs = []
  · subst h
    exact hos
  · rw [osBatch_os h, osBatch_os h, hos, htl]

theorem Unguarded.osBatch {s : State} (h : Unguarded s.gu) (cs : List Change) : Unguarded (osBatch cs s).gu := by
  by_cases hnil : cs = []
  · subst hnil
    exact h
  · rw [osBatch_gu hnil]
    exact h.blank _ _

/-- What a batch and a block leave of a state with no input ACTIVE. -/
theorem deliverBatch_of_unguarded {v : State} (h : Unguarded v.gu) (cs : List Change) :
    (deliverBatch cs true v).tb = v.tb ∧ (deliverBatch cs true v).gu.tripNotice = v.gu.tripNotice := by
  have hdrawn : Unguarded (afterDraw v).gu := h
  rcases Nat.mod_two_eq_zero_or_one v.oracle with horacle | horacle
  · rw [deliverBatch_of_first horacle]
    obtain ⟨htb, _, _, htrip⟩ := deliverLimits_of_unguarded (hdrawn.osBatch cs) v.cp.active
    rw [htb, htrip, (osBatch_frame _ _).1, (osBatch_trip _ _).1]
    exact ⟨rfl, rfl⟩
  · rw [deliverBatch_of_second horacle]
    obtain ⟨htb, _, _, htrip⟩ := deliverLimits_of_unguarded hdrawn v.cp.active
    rw [(osBatch_frame _ _).1, (osBatch_trip _ _).1, htb, htrip]
    exact ⟨rfl, rfl⟩

/-- With no line changed the block alone is delivered. -/
theorem deliverBatch_nil (v : State) : deliverBatch [] true v = deliverLimits v.cp.active (afterDraw v) := by
  rcases Nat.mod_two_eq_zero_or_one v.oracle with horacle | horacle
  · rw [deliverBatch_of_first horacle]
    rfl
  · rw [deliverBatch_of_second horacle]
    rfl

theorem deliverBatch_closeAsked {v : State} (h : CloseAsked v) (cs : List Change) (b : Bool) :
    CloseAsked (deliverBatch cs b v) := by
  have hstate : (deliverBatch cs b v).jw.state = v.jw.state := by
    have hkeep := jwState_stays v.jw.state
    have hdrawn : (afterDraw v).jw.state = v.jw.state := rfl
    unfold deliverBatch deliverTaken
    split
    next hd =>
      rw [if_pos hd.1]
      exact hkeep.toReporting.osBatch cs _ (hkeep.deliverLimits _ _ hdrawn)
    next =>
      split
      · exact hkeep.deliverLimits _ _ (hkeep.toReporting.osBatch cs _ hdrawn)
      · exact hkeep.toReporting.osBatch cs _ rfl
  intro hclosing
  have hbp : (deliverBatch cs b v).bp = v.bp := by simp
  rw [hbp]
  exact h (hstate.symm.trans hclosing)

end Sys2Proof.Machine
end

/-! APPLICATION of MARK, APPLY_LIMITS and END entries, and of any entries due together (R67, R75 to R77, R79, R89, R112,
R179). -/
section
namespace Sys2Proof.Machine

/-! ## The event of entries that take no block -/

section
variable {s : State} (hrunning : s.su.program = .running) (hdue : dueEntries s ≠ []) (hplain : PlainDue s)
include hrunning hdue

theorem applicationDue_of_running : applicationDue s = true := (applicationDue_iff s).mpr ⟨.inl hrunning, hdue⟩

theorem exec_application_of_running : exec .application s = .next (settle (applyDue s)) := by
  rw [exec_application, takeApplication_of_due (applicationDue_of_running hrunning hdue)]

include hplain

/-- With no END among them the program goes on RUNNING. -/
theorem applyDue_of_no_end (h : ∀ e ∈ dueEntries s, e.kind ≠ .endProgram) :
    applyDue s = osBatch (dueChanges s) (entriesApplied s) := by
  refine applyDue_going (applicationDue_of_running hrunning hdue) hplain fun hdraining => ?_
  rw [entriesApplied_su_of_no_end h] at hdraining
  exact absurd (hrunning.symm.trans hdraining) (by decide)

/-- An END that leaves entries behind puts the program in DRAINING. -/
theorem applyDue_of_end (h : ∃ e ∈ dueEntries s, e.kind = .endProgram) (hrest : appliedAgenda s ≠ []) :
    applyDue s = osBatch (dueChanges s) (entriesApplied s) := by
  refine applyDue_going (applicationDue_of_running hrunning hdue) hplain fun _ => ?_
  rw [entriesApplied_su_of_end h hrunning]
  exact hrest

/-- An END among the last entries puts it in STOPPING. -/
theorem applyDue_of_last_end (h : ∃ e ∈ dueEntries s, e.kind = .endProgram) (hrest : appliedAgenda s = []) :
    applyDue s = osBatch (dueChanges s) (enterStopping .ended .none (entriesApplied s)) := by
  have hsu := entriesApplied_su_of_end h hrunning
  rw [applyDue_stopping (applicationDue_of_running hrunning hdue) hplain (by rw [hsu]) (by rw [hsu]; exact hrest), hsu]

end

/-- The records and the MARK cause of such an event. -/
theorem Applies.recorded {s v : State} (h : Applies s v) (hplain : PlainDue s) {cs : List Change}
    (ht : Tracking (osBatch cs v)) :
    (((dueEntries s).filterMap (Entry.record s)).foldl (fun j r => j.offer r) s.jw).fifo <+:
        (settle (osBatch cs v)).jw.fifo ∧
      pendingCause .mark (settle (osBatch cs v)) = ((dueEntries s).any Entry.marks || pendingCause .mark s) := by
  constructor
  · rw [ht.settle_fifo, ← (entriesApplied_plain hplain).2.1, ← h.jw]
    exact (fifo_grows v.jw.fifo).toReporting.osBatch cs v (List.prefix_refl _)
  · rw [ht.settle_pendingCause (by decide) (by decide), osBatch_pendingCause (by decide), pendingCause, h.ev]
    exact foldl_applyEntry_pendingCause (c := .mark) (by decide) _ _

/-- The record of an entry, in the words of the statements. -/
theorem Entry.record_eq (s : State) (e : Entry) :
    e.record s =
      if e.kind = .mark then
        some { kind := .mark, source := 0xFF#8, flags := 0#8, stamp := s.tb.tl.setWidth 40, value1 := e.tag,
               value2 := s.tb.pt.setWidth 32 }
      else if e.kind = .applyLimits then
        some { kind := .limits, source := 0xFF#8, flags := 2#8, stamp := s.tb.tl.setWidth 40, value1 := 0#32,
               value2 := 0#32 }
      else none := by
  unfold Entry.record
  cases e.kind <;> rfl

theorem dueChanges_of_one {s : State} {e : Entry} (hone : dueEntries s = [e]) (h : e.change = none) : dueChanges s = [] := by
  rw [dueChanges, hone, List.filterMap_cons, h]
  rfl

/-- The held records after one entry that moves no line. -/
theorem Applies.fifo_of_one {s v : State} (h : Applies s v) (hplain : PlainDue s) {e : Entry} (hone : dueEntries s = [e])
    (ht : Tracking v) : (settle v).jw.fifo = ((e.record s).elim s.jw fun r => s.jw.offer r).fifo := by
  rw [ht.settle_fifo, h.jw, (entriesApplied_plain hplain).2.1, hone, List.filterMap_cons]
  cases e.record s <;> rfl

/-! ## The event of entries that take a block -/

theorem applyEntry_jwState (s : State) (e : Entry) : (applyEntry s e).jw.state = s.jw.state := by
  rw [(applyEntry_kind s e).1, applyKind]
  cases e.kind
  case mark =>
    rw [(applyMark_parts e _).1]
    exact offer_state (markRecord s e.tag) s
  case applyLimits =>
    dsimp only [applyLimitsEntry, applyStaged]
    repeat' split
    all_goals first | rfl | exact offer_state _ s
  all_goals rfl

theorem entriesApplied_closeAsked {s : State} (h : CloseAsked s) : CloseAsked (entriesApplied s) := by
  have hstate : (entriesApplied s).jw.state = s.jw.state :=
    foldl_keeps _ (fun t => t.jw.state) applyEntry_jwState _ _
  have hbp : (entriesApplied s).bp = s.bp := (entriesApplied_frame s).2.2.2.2.1
  intro hclosing
  rw [hbp]
  exact h (hstate.symm.trans hclosing)

/-- The end of an event that begins with nothing out and takes a block while no input is ACTIVE. -/
theorem taking_tracking {s : State} (h : Tracking s) (hsteady : Unguarded s.gu)
    (hgoes : (entriesApplied s).su.program ≠ .stopping) (cs : List Change) :
    Tracking (deliverBatch cs true (entriesApplied s)) := by
  obtain ⟨htrip, htracked, _⟩ := going_tracking h hgoes cs
  obtain ⟨_, _, hgu, _⟩ := entriesApplied_frame s
  have hunguarded : Unguarded (entriesApplied s).gu := by rw [hgu]; exact hsteady
  have hfu : (osBatch cs (entriesApplied s)).fu = (entriesApplied s).fu := (osBatch_frame _ _).2.1
  rw [hfu] at htracked
  refine ⟨?_, ?_, ?_⟩
  · rw [(deliverBatch_of_unguarded hunguarded cs).2, hgu]
    exact h.trip
  · simpa using htracked
  · intro hstopping
    exact absurd (by simpa using hstopping) hgoes

theorem taking_settled {s : State} (h : Tracking s) (hclose : CloseAsked s) (hsteady : Unguarded s.gu) {b : StagedLimits}
    (hstaged : s.cp.staged = some b) (hlimits : ∃ e ∈ dueEntries s, e.kind = .applyLimits)
    (hgoes : (entriesApplied s).su.program ≠ .stopping) (cs : List Change) :
    let t := settle (deliverBatch cs true (entriesApplied s))
    t.su = (entriesApplied s).su ∧ t.os = (deliverBatch cs true (entriesApplied s)).os ∧ t.tb = s.tb ∧ t.cx = s.cx ∧
      t.cp = { s.cp with active := b.limits, staged := none } ∧ t.pins = s.pins := by
  have htracking := taking_tracking h hsteady hgoes cs
  obtain ⟨htb, _, hgu, hcx, _, hpins, _⟩ := entriesApplied_frame s
  have hunguarded : Unguarded (entriesApplied s).gu := by rw [hgu]; exact hsteady
  obtain ⟨ksu, kos, _, ktb, _⟩ := htracking.settle_parts
  refine ⟨ksu.trans (by simp), kos, ktb.trans ((deliverBatch_of_unguarded hunguarded cs).1.trans htb), ?_, ?_, ?_⟩
  · simpa using hcx
  · rw [(htracking.settle_kept (deliverBatch_closeAsked (entriesApplied_closeAsked hclose) cs true)).1]
    simpa using entriesApplied_cp hstaged hlimits
  · simpa using hpins

/-- The lines in the two orders of the batch and the block (R112). -/
theorem deliverBatch_os_of_first {s : State} {m : Limits} (hactive : (entriesApplied s).cp.active = m)
    (horacle : s.oracle % 2 = 0) (cs : List Change) :
    (deliverBatch cs true (entriesApplied s)).os =
      ((osBatch cs s).os.newDeadTimes s.tb.tl m).resolve s.tb.tl := by
  obtain ⟨htb, hos, _, _, _, _, koracle⟩ := entriesApplied_frame s
  have hbatch : (osBatch cs (afterDraw (entriesApplied s))).os = (osBatch cs s).os :=
    osBatch_os_congr cs hos (congrArg Timebase.tl htb)
  have htl : (osBatch cs (afterDraw (entriesApplied s))).tb.tl = s.tb.tl := by
    rw [(osBatch_frame _ _).1]
    exact congrArg Timebase.tl htb
  rw [deliverBatch_of_first (by rw [koracle]; exact horacle), deliverLimits_os, hbatch, htl, hactive]

theorem deliverBatch_os_of_second {s : State} {m : Limits} (hactive : (entriesApplied s).cp.active = m)
    (horacle : s.oracle % 2 = 1) (cs : List Change) :
    (deliverBatch cs true (entriesApplied s)).os =
      (osBatch cs { s with os := (s.os.newDeadTimes s.tb.tl m).resolve s.tb.tl }).os := by
  obtain ⟨htb, hos, _, _, _, _, koracle⟩ := entriesApplied_frame s
  rw [deliverBatch_of_second (by rw [koracle]; exact horacle), hactive]
  refine osBatch_os_congr cs ?_ ?_
  · rw [deliverLimits_os]
    change (((entriesApplied s).os.newDeadTimes (entriesApplied s).tb.tl m).resolve (entriesApplied s).tb.tl) = _
    rw [hos, htb]
  · rw [(deliverLimits_clock m _).1]
    exact congrArg Timebase.tl htb

/-- One APPLY_LIMITS entry with a block staged, before the block is delivered. -/
theorem entriesApplied_of_one_limits {s : State} {e : Entry} {b : StagedLimits} (hone : dueEntries s = [e])
    (hk : e.kind = .applyLimits) (hstaged : s.cp.staged = some b) :
    (entriesApplied s).jw = s.jw.offer
      { kind := .limits, source := 0xFF#8, flags := if b.replaced then 5#8 else 1#8, stamp := s.tb.tl.setWidth 40,
        value1 := 0#32, value2 := 0#32 } := by
  obtain ⟨w, hw⟩ : ∃ w : State, w = { s with su := { s.su with agenda := appliedAgenda s } } := ⟨_, rfl⟩
  have hfold : entriesApplied s = applyEntry w e := by rw [entriesApplied, hone, hw]; rfl
  have hwstaged : (count .agendaApplications 1 w).cp.staged = some b := by rw [hw]; exact hstaged
  rw [hfold, (applyEntry_kind w e).1, applyKind, hk]
  dsimp only
  rw [applyLimitsEntry_of_some hwstaged, applyStaged_of_some hwstaged, hw]
  rfl

/-- What one APPLY_LIMITS entry makes active, whatever hold it escalates. -/
theorem limits_active {s : State} (hclose : CloseAsked s) {e : Entry} {b : StagedLimits} (hone : dueEntries s = [e])
    (hk : e.kind = .applyLimits) (hstaged : s.cp.staged = some b) (hstop : inProgressIs stopCode s = false) :
    let t := settle (deliverBatch [] true (entriesApplied s))
    t.cp = { s.cp with active := b.limits, staged := none } ∧
      (∀ k : Fin 8, t.os.pairs[k].deadTime = b.limits.deadTimes[k] ∧ t.os.pairs[k].enabled = s.os.pairs[k].enabled) ∧
        (∀ n : Fin 4, t.gu.inputs[n].blankLength = b.limits.blankLengths[n] ∧
          t.gu.inputs[n].holdLimit = b.limits.holdLimits[n]) ∧
          t.tb.tl = s.tb.tl ∧ t.tb.pt = s.tb.pt ∧ t.cx = s.cx ∧ t.pins = s.pins := by
  have hcp := entriesApplied_cp hstaged ⟨e, by rw [hone]; exact List.mem_singleton_self e, hk⟩
  obtain ⟨htb, hos, _, hcx, _, hpins, _⟩ := entriesApplied_frame s
  obtain ⟨u, hu⟩ : ∃ u, u = deliverBatch [] true (entriesApplied s) := ⟨_, rfl⟩
  have hdelivered : u = deliverLimits b.limits (afterDraw (entriesApplied s)) := by rw [hu, deliverBatch_nil, hcp]
  have hucp : u.cp = { s.cp with active := b.limits, staged := none } := by
    rw [hu, (deliverBatch_frame _ _ _).2.2.2.1]
    exact hcp
  have huclose : CloseAsked u := by rw [hu]; exact deliverBatch_closeAsked (entriesApplied_closeAsked hclose) [] true
  have htimes := settle_sameTimes (s := u) (by rw [hucp])
  dsimp only
  rw [← hu]
  refine ⟨?_, fun k => ?_, fun n => ?_, ?_, ?_, ?_, ?_⟩
  · rw [settle_cp (by rw [hucp]) (by unfold inProgressIs; rw [hucp]; exact hstop) huclose, hucp]
  · have hpair := deliverLimits_pair b.limits (afterDraw (entriesApplied s)) k
    rw [← hdelivered] at hpair
    rw [htimes.pairs]
    refine ⟨hpair.1, hpair.2.trans ?_⟩
    change (entriesApplied s).os.pairs[k].enabled = _
    rw [hos]
  · have hset := deliverLimits_times b.limits (afterDraw (entriesApplied s)) n
    rw [← hdelivered] at hset
    exact ⟨(htimes.inputs n).1.trans hset.1, (htimes.inputs n).2.trans hset.2⟩
  · rw [(settle_clock u).1, hdelivered, (deliverLimits_clock _ _).1]
    exact congrArg Timebase.tl htb
  · rw [(settle_clock u).2.1, hdelivered, (deliverLimits_clock _ _).2.1]
    exact congrArg Timebase.pt htb
  · rw [(settle_frame u).1, hu]
    simpa using hcx
  · rw [(settle_frame u).2.1, hu]
    simpa using hpins

end Sys2Proof.Machine
end

/-! O32: one MARK, APPLY_LIMITS or END entry, and any entries due together. -/
section
namespace Sys2Proof.Machine

section
variable {s : State} (hquiet : Quiet s) (hrested : Rested s) (hrunning : s.su.program = .running)
include hquiet hrested hrunning

/-- What one entry that moves no line, takes no block and is no END leaves. -/
theorem one_plain_entry {e : Entry} (hone : dueEntries s = [e]) (hchange : e.change = none) (hplain : PlainDue s)
    (hend : e.kind ≠ .endProgram) :
    let t := settle (entriesApplied s)
    Tracking (entriesApplied s) ∧ exec .application s = .next t ∧ t.su = { s.su with agenda := appliedAgenda s } ∧
      t.jw.fifo = ((e.record s).elim s.jw fun r => s.jw.offer r).fifo ∧ t.os = s.os ∧ t.gu = s.gu ∧ t.tb = s.tb ∧
        t.cx = s.cx ∧ t.cp = s.cp ∧ t.pins = s.pins := by
  have hnoEnd : ∀ x ∈ dueEntries s, x.kind ≠ .endProgram := fun x hx => by
    rw [hone] at hx
    rw [List.mem_singleton.mp hx]
    exact hend
  have hdue : dueEntries s ≠ [] := by rw [hone]; exact List.cons_ne_nil _ _
  have hsu := entriesApplied_su_of_no_end hnoEnd
  have hgoes : (entriesApplied s).su.program ≠ .stopping := by
    rw [hsu]
    exact fun hstopping => absurd (hrunning.symm.trans hstopping) (by decide)
  have htracking : Tracking (entriesApplied s) := going_tracking hquiet.tracking hgoes []
  obtain ⟨ksu, kos, kgu, ktb, kcx, kcp, kpins, _⟩ :=
    going_settled hquiet.tracking hrested.closeAsked hplain hgoes []
  refine ⟨htracking, ?_, ksu.trans hsu, (applies_going s).fifo_of_one hplain hone htracking, kos, kgu, ktb, kcx, kcp, kpins⟩
  rw [exec_application_of_running hrunning hdue, applyDue_of_no_end hrunning hdue hplain hnoEnd,
    dueChanges_of_one hone hchange, osBatch_nil]

/-- What one END entry leaves. -/
theorem one_end_entry {e : Entry} (hone : dueEntries s = [e]) (hk : e.kind = .endProgram) :
    (appliedAgenda s ≠ [] → ∃ t, exec .application s = .next t ∧
      t.su = { s.su with program := .draining, outcome := .ended, reason := .none, agenda := appliedAgenda s } ∧
        t.jw.fifo = s.jw.fifo ∧ t.os = s.os ∧ t.gu = s.gu ∧ t.tb = s.tb ∧ t.cx = s.cx ∧ t.cp = s.cp ∧ t.pins = s.pins) ∧
      (appliedAgenda s = [] → Retiring s → ∃ t, exec .application s = .next t ∧
        t.su = { s.su with
          program := .stopping, outcome := .ended, reason := .none, admissionOpen := false, queue := [], waiter := none,
          agenda := [] } ∧
          t.jw.fifo = s.jw.fifo ∧ t.os = s.os ∧ t.gu = s.gu ∧ t.tb = s.tb ∧ t.cx = s.cx ∧ t.cp = s.cp ∧
            t.pins = s.pins) := by
  have hmem : e ∈ dueEntries s := by rw [hone]; exact List.mem_singleton_self e
  have hdue : dueEntries s ≠ [] := by rw [hone]; exact List.cons_ne_nil _ _
  have hplain : PlainDue s := fun x hx => .inr fun hx' => by
    rw [hone] at hx
    rw [List.mem_singleton.mp hx, hk] at hx'
    cases hx'
  have hchanges : dueChanges s = [] := dueChanges_of_one hone (by rw [Entry.change, hk])
  have hrecord : e.record s = none := by rw [Entry.record, hk]
  have hsu := entriesApplied_su_of_end ⟨e, hmem, hk⟩ hrunning
  refine ⟨fun hrest => ?_, fun hrest hretiring => ?_⟩
  · have hgoes : (entriesApplied s).su.program ≠ .stopping := by rw [hsu]; exact nofun
    have htracking : Tracking (entriesApplied s) := going_tracking hquiet.tracking hgoes []
    obtain ⟨ksu, kos, kgu, ktb, kcx, kcp, kpins, _⟩ :=
      going_settled hquiet.tracking hrested.closeAsked hplain hgoes []
    refine ⟨_, ?_, ksu.trans hsu, ((applies_going s).fifo_of_one hplain hone htracking).trans (by rw [hrecord]; rfl), kos,
      kgu, ktb, kcx, kcp, kpins⟩
    rw [exec_application_of_running hrunning hdue, applyDue_of_end hrunning hdue hplain ⟨e, hmem, hk⟩ hrest, hchanges,
      osBatch_nil]
  · have htracking : Tracking (enterStopping .ended .none (entriesApplied s)) :=
      stopping_tracking hquiet.1 hretiring (o := .ended) rfl .none []
    obtain ⟨ksu, kos, kgu, ktb, kcx, kcp, kpins, _⟩ :=
      stopping_settled hquiet.1 hretiring hrested.closeAsked hplain (o := .ended) rfl .none []
    refine ⟨_, ?_, ksu.trans (by rw [hsu]),
      ((applies_stopping s rfl .none).fifo_of_one hplain hone htracking).trans (by rw [hrecord]; rfl), kos, kgu, ktb, kcx,
      kcp, kpins⟩
    rw [exec_application_of_running hrunning hdue, applyDue_of_last_end hrunning hdue hplain ⟨e, hmem, hk⟩ hrest, hchanges,
      osBatch_nil]

/-- The slots and the causes after one MARK. -/
theorem one_mark_entry {e : Entry} (hone : dueEntries s = [e]) (hk : e.kind = .mark) :
    ∃ t, exec .application s = .next t ∧ t.su = { s.su with agenda := appliedAgenda s } ∧
      t.jw.fifo = (s.jw.offer
        { kind := .mark, source := 0xFF#8, flags := 0#8, stamp := s.tb.tl.setWidth 40, value1 := e.tag,
          value2 := s.tb.pt.setWidth 32 }).fifo ∧
        (e.notify = true → pendingCause .mark t = true) ∧
          (e.notify = false → pendingCause .mark t = pendingCause .mark s) ∧
            t.fu.table = s.fu.table.map (fun sl => slotJudged s.fu (slotNoticed e.slot Slot.entryApplied sl)) ∧
              (s.bp.outstanding .fu = false → RetireAsked t) ∧ t.os = s.os ∧ t.gu = s.gu ∧ t.tb = s.tb ∧ t.cx = s.cx ∧
                t.cp = s.cp ∧ t.pins = s.pins := by
  have hrekeyed : e.rekeyed = none := by rw [Entry.rekeyed, hk]
  have hplain : PlainDue s := fun x hx => .inr fun hx' => by
    rw [hone] at hx
    rw [List.mem_singleton.mp hx, hk] at hx'
    cases hx'
  obtain ⟨htracking, hexec, ksu, kfifo, kall⟩ :=
    one_plain_entry hquiet hrested hrunning hone (by rw [Entry.change, hk]) hplain (by rw [hk]; exact nofun)
  have hmark : pendingCause .mark (settle (entriesApplied s)) = (e.notify || pendingCause .mark s) := by
    have hrecorded := ((applies_going s).recorded hplain (cs := []) htracking).2
    rw [hone] at hrecorded
    refine hrecorded.trans ?_
    simp [Entry.marks, hk]
  have hgoes : (entriesApplied s).su.program ≠ .stopping := by
    rw [← htracking.settle_parts.1, ksu]
    exact fun hstopping => absurd (hrunning.symm.trans hstopping) (by decide)
  obtain ⟨_, kfetch⟩ := going_on hquiet.tracking hrested rfl rfl rfl hgoes []
  refine ⟨_, hexec, ksu, kfifo.trans ?_, fun hn => ?_, fun hn => ?_, htracking.settle_table.1.trans ?_,
    fun hout => (kfetch hout).1, kall⟩
  · rw [Entry.record_eq, if_pos hk]
    rfl
  · rw [hmark, hn]
    rfl
  · rw [hmark, hn]
    rfl
  · have hfu : (entriesApplied s).fu = e.release s.fu := by rw [entriesApplied_fu, hone]; rfl
    rw [hfu, markReady_release, hrekeyed]
    rfl

/-- One APPLY_LIMITS entry with a block staged. -/
theorem one_limits_entry {e : Entry} (hone : dueEntries s = [e]) (hk : e.kind = .applyLimits) {b : StagedLimits}
    (hstaged : s.cp.staged = some b) (hstop : inProgressIs stopCode s = false) :
    ∃ t, exec .application s = .next t ∧ t.cp = { s.cp with active := b.limits, staged := none } ∧
      (∀ k : Fin 8, t.os.pairs[k].deadTime = b.limits.deadTimes[k] ∧ t.os.pairs[k].enabled = s.os.pairs[k].enabled) ∧
        (∀ n : Fin 4, t.gu.inputs[n].blankLength = b.limits.blankLengths[n] ∧
          t.gu.inputs[n].holdLimit = b.limits.holdLimits[n]) ∧
          t.tb.tl = s.tb.tl ∧ t.tb.pt = s.tb.pt ∧ t.cx = s.cx ∧ t.pins = s.pins ∧
            (Unguarded s.gu → t.su = { s.su with agenda := appliedAgenda s } ∧
              t.jw.fifo = (s.jw.offer
                { kind := .limits, source := 0xFF#8, flags := if b.replaced then 5#8 else 1#8,
                  stamp := s.tb.tl.setWidth 40, value1 := 0#32, value2 := 0#32 }).fifo) := by
  have hmem : ∃ x ∈ dueEntries s, x.kind = .applyLimits := ⟨e, by rw [hone]; exact List.mem_singleton_self e, hk⟩
  have hdue : dueEntries s ≠ [] := by rw [hone]; exact List.cons_ne_nil _ _
  have hnoEnd : ∀ x ∈ dueEntries s, x.kind ≠ .endProgram := fun x hx hx' => by
    rw [hone] at hx
    rw [List.mem_singleton.mp hx, hk] at hx'
    cases hx'
  have hsu := entriesApplied_su_of_no_end hnoEnd
  have hprogram : (entriesApplied s).su.program = .running := by rw [hsu]; exact hrunning
  have happlied : applyDue s = deliverBatch [] true (entriesApplied s) := by
    rw [applyDue_taking (applicationDue_of_running hrunning hdue) hstaged hmem (fun hd => by rw [hprogram] at hd; cases hd),
      dueChanges_of_one hone (by rw [Entry.change, hk])]
  obtain ⟨kcp, kpairs, kinputs, ktl, kpt, kcx, kpins⟩ := limits_active hrested.closeAsked hone hk hstaged hstop
  refine ⟨_, by rw [exec_application_of_running hrunning hdue, happlied], kcp, kpairs, kinputs, ktl, kpt, kcx, kpins,
    fun hsteady => ?_⟩
  have hgoes : (entriesApplied s).su.program ≠ .stopping := by rw [hprogram]; exact nofun
  have htracking := taking_tracking hquiet.tracking hsteady hgoes []
  have hunguarded : Unguarded (afterDraw (entriesApplied s)).gu := by
    change Unguarded (entriesApplied s).gu
    rw [(entriesApplied_frame s).2.2.1]
    exact hsteady
  refine ⟨((taking_settled hquiet.tracking hrested.closeAsked hsteady hstaged hmem hgoes []).1).trans hsu, ?_⟩
  rw [htracking.settle_fifo, deliverBatch_nil, (deliverLimits_of_unguarded hunguarded _).2.1]
  exact congrArg JournalWriter.fifo (entriesApplied_of_one_limits hone hk hstaged)

/-- Any entries due together that take no block. -/
theorem plain_entries (hdue : dueEntries s ≠ []) (hplain : PlainDue s)
    (hretires : (∃ e ∈ dueEntries s, e.kind = .endProgram) → appliedAgenda s = [] → Retiring s) :
    ∃ t, exec .application s = .next t ∧
      (¬(∃ e ∈ dueEntries s, e.kind = .endProgram) → t.su = { s.su with agenda := appliedAgenda s }) ∧
        ((∃ e ∈ dueEntries s, e.kind = .endProgram) → appliedAgenda s ≠ [] →
          t.su = { s.su with program := .draining, outcome := .ended, reason := .none, agenda := appliedAgenda s }) ∧
          ((∃ e ∈ dueEntries s, e.kind = .endProgram) → appliedAgenda s = [] →
            t.su = { s.su with
              program := .stopping, outcome := .ended, reason := .none, admissionOpen := false, queue := [],
              waiter := none, agenda := [] }) ∧
            t.os = (osBatch (dueChanges s) s).os ∧ t.gu = (osBatch (dueChanges s) s).gu ∧
              (((dueEntries s).filterMap (Entry.record s)).foldl (fun j r => j.offer r) s.jw).fifo <+: t.jw.fifo ∧
                pendingCause .mark t = ((dueEntries s).any Entry.marks || pendingCause .mark s) ∧
                  t.tb = s.tb ∧ t.cx = s.cx ∧ t.cp = s.cp ∧ t.pins = s.pins := by
  have hexec := exec_application_of_running hrunning hdue
  by_cases hends : ∃ e ∈ dueEntries s, e.kind = .endProgram
  · have hsu := entriesApplied_su_of_end hends hrunning
    by_cases hrest : appliedAgenda s = []
    · rw [applyDue_of_last_end hrunning hdue hplain hends hrest] at hexec
      have hretiring := hretires hends hrest
      have htracking := stopping_tracking hquiet.1 hretiring (o := .ended) rfl .none (dueChanges s)
      obtain ⟨ksu, kos, kgu, ktb, kcx, kcp, kpins, _⟩ :=
        stopping_settled hquiet.1 hretiring hrested.closeAsked hplain (o := .ended) rfl .none (dueChanges s)
      obtain ⟨kfifo, kmark⟩ := (applies_stopping s rfl .none).recorded hplain htracking
      exact ⟨_, hexec, fun hn => absurd hends hn, fun _ hn => absurd hrest hn, fun _ _ => ksu.trans (by rw [hsu]), kos, kgu,
        kfifo, kmark, ktb, kcx, kcp, kpins⟩
    · rw [applyDue_of_end hrunning hdue hplain hends hrest] at hexec
      have hgoes : (entriesApplied s).su.program ≠ .stopping := by rw [hsu]; exact nofun
      obtain ⟨ksu, kos, kgu, ktb, kcx, kcp, kpins, _⟩ :=
        going_settled hquiet.tracking hrested.closeAsked hplain hgoes (dueChanges s)
      obtain ⟨kfifo, kmark⟩ := (applies_going s).recorded hplain (going_tracking hquiet.tracking hgoes (dueChanges s))
      exact ⟨_, hexec, fun hn => absurd hends hn, fun _ _ => ksu.trans hsu, fun _ hn => absurd hn hrest, kos, kgu, kfifo,
        kmark, ktb, kcx, kcp, kpins⟩
  · have hnoEnd : ∀ e ∈ dueEntries s, e.kind ≠ .endProgram := fun e he hk => hends ⟨e, he, hk⟩
    have hsu := entriesApplied_su_of_no_end hnoEnd
    rw [applyDue_of_no_end hrunning hdue hplain hnoEnd] at hexec
    have hgoes : (entriesApplied s).su.program ≠ .stopping := by
      rw [hsu]
      exact fun hstopping => absurd (hrunning.symm.trans hstopping) (by decide)
    obtain ⟨ksu, kos, kgu, ktb, kcx, kcp, kpins, _⟩ :=
      going_settled hquiet.tracking hrested.closeAsked hplain hgoes (dueChanges s)
    obtain ⟨kfifo, kmark⟩ := (applies_going s).recorded hplain (going_tracking hquiet.tracking hgoes (dueChanges s))
    exact ⟨_, hexec, fun _ => ksu.trans hsu, fun hn => absurd hn hends, fun hn => absurd hn hends, kos, kgu, kfifo, kmark,
      ktb, kcx, kcp, kpins⟩

/-- Any entries due together that take a block while no input is ACTIVE. -/
theorem taking_entries (hdue : dueEntries s ≠ []) {b : StagedLimits} (hstaged : s.cp.staged = some b)
    (hlimits : ∃ e ∈ dueEntries s, e.kind = .applyLimits) (hnoEnd : ∀ e ∈ dueEntries s, e.kind ≠ .endProgram)
    (hsteady : Unguarded s.gu) :
    ∃ t, exec .application s = .next t ∧ t.su = { s.su with agenda := appliedAgenda s } ∧
      t.cp = { s.cp with active := b.limits, staged := none } ∧
        (s.oracle % 2 = 0 →
          t.os = ((osBatch (dueChanges s) s).os.newDeadTimes s.tb.tl b.limits).resolve s.tb.tl) ∧
          (s.oracle % 2 = 1 → t.os = (osBatch (dueChanges s)
            { s with os := (s.os.newDeadTimes s.tb.tl b.limits).resolve s.tb.tl }).os) ∧
            t.tb = s.tb ∧ t.cx = s.cx ∧ t.pins = s.pins := by
  have hsu := entriesApplied_su_of_no_end hnoEnd
  have hprogram : (entriesApplied s).su.program = .running := by rw [hsu]; exact hrunning
  have hactive : (entriesApplied s).cp.active = b.limits := by rw [entriesApplied_cp hstaged hlimits]
  have hexec := exec_application_of_running hrunning hdue
  rw [applyDue_taking (applicationDue_of_running hrunning hdue) hstaged hlimits fun hd => by
    rw [hprogram] at hd; cases hd] at hexec
  obtain ⟨ksu, kos, ktb, kcx, kcp, kpins⟩ := taking_settled hquiet.tracking hrested.closeAsked hsteady hstaged hlimits
    (by rw [hprogram]; exact nofun) (dueChanges s)
  exact ⟨_, hexec, ksu.trans hsu, kcp, fun h => kos.trans (deliverBatch_os_of_first hactive h _),
    fun h => kos.trans (deliverBatch_os_of_second hactive h _), ktb, kcx, kpins⟩

end

/-- Settles O32: a MARK, an END and a limits record that are due. -/
theorem markAndEndApplied : Obligations.MarkAndEndApplied := by
  intro s hquiet hrested hrunning
  refine ⟨fun e hone => ⟨one_mark_entry hquiet hrested hrunning hone, fun hk hstaged => ?_, fun b hk hstaged hstop =>
    one_limits_entry hquiet hrested hrunning hone hk hstaged ?_, fun hk => (one_end_entry hquiet hrested hrunning hone hk).1,
    fun hk => (one_end_entry hquiet hrested hrunning hone hk).2⟩, fun hdue => ⟨fun hplain hretires => ?_,
    fun b hstaged hlimits hends hsteady => taking_entries hquiet hrested hrunning hdue hstaged hlimits
      (fun e he hk => hends ⟨e, he, hk⟩) hsteady⟩⟩
  · obtain ⟨_, hexec, ksu, kfifo, kall⟩ := one_plain_entry hquiet hrested hrunning hone (by rw [Entry.change, hk])
      (fun _ _ => .inl hstaged) (by rw [hk]; exact nofun)
    refine ⟨_, hexec, ksu, kfifo.trans ?_, kall⟩
    rw [Entry.record, hk]
    rfl
  · exact Bool.eq_false_iff.mpr fun h => absurd (hrunning.symm.trans (hstop h)) (by decide)
  · have hplain' : PlainDue s := fun e he => hplain.imp id fun hn hk => hn ⟨e, he, hk⟩
    obtain ⟨t, hexec, kgoing, kdrains, kstops, kos, kgu, kfifo, kmark, kall⟩ :=
      plain_entries hquiet hrested hrunning hdue hplain' hretires
    refine ⟨t, hexec, kgoing, kdrains, kstops, kos, kgu, ?_, fun ⟨e, he, hk, hn⟩ => ?_, kall⟩
    · have hrecords : Entry.record s = fun e => _ := funext (Entry.record_eq s)
      rw [hrecords] at kfifo
      exact kfifo
    · have hmarks : (dueEntries s).any Entry.marks = true :=
        List.any_eq_true.mpr ⟨e, he, by rw [Entry.marks, hk, hn]; rfl⟩
      rw [kmark, hmarks]
      rfl

end Sys2Proof.Machine
end

/-! The validation of a step (R50): the model's tests and the points of the statements are the same. -/
section
namespace Sys2Proof.Machine

/-! ## Kinds (12.4) -/

def StepKind.number : StepKind → Nat
  | .set => 1
  | .pulse => 2
  | .train => 3
  | .wait => 4
  | .anchor => 5
  | .mark => 6
  | .applyLimits => 7
  | .endProgram => 8

theorem stepKindOf_number {b : Byte} {k : StepKind} (h : stepKindOf b = some k) : b.toNat = k.number := by
  unfold stepKindOf at h
  split at h <;> cases h
  all_goals assumption

theorem stepKindOf_of_number {b : Byte} {k : StepKind} (h : b.toNat = k.number) : stepKindOf b = some k := by
  unfold stepKindOf
  rw [h]
  cases k <;> rfl

theorem stepKindOf_eq_none {b : Byte} (h : stepKindOf b = none) : b.toNat = 0 ∨ 8 < b.toNat := by
  by_contra hrange
  have hnamed : ∃ k : StepKind, b.toNat = k.number := by
    obtain ⟨hpos, hle⟩ : 0 < b.toNat ∧ b.toNat ≤ 8 := by omega
    generalize b.toNat = n at hpos hle
    interval_cases n
    exacts [⟨.set, rfl⟩, ⟨.pulse, rfl⟩, ⟨.train, rfl⟩, ⟨.wait, rfl⟩, ⟨.anchor, rfl⟩, ⟨.mark, rfl⟩, ⟨.applyLimits, rfl⟩,
      ⟨.endProgram, rfl⟩]
  obtain ⟨k, hk⟩ := hnamed
  rw [stepKindOf_of_number hk] at h
  cases h

/-! ## Fields and times -/

theorem maskOk_iff (s : State) (mask : Half) :
    maskOk s mask = true ↔ ¬(mask = 0#16 ∨ ∃ n : Fin 16, mask.getLsbD n.val = true ∧ s.os.lines[n].role = .unused) := by
  have hrole (r : Role) : (r == Role.sequenced) = true ↔ r ≠ .unused := by cases r <;> decide
  have hline (n : Fin 16) : (!mask.getLsbD n.val || s.os.lines[n].role == .sequenced) = true ↔
      ¬(mask.getLsbD n.val = true ∧ s.os.lines[n].role = .unused) := by
    rw [Bool.or_eq_true, hrole, Bool.not_eq_true', not_and, ← Bool.not_eq_true, imp_iff_not_or]
  unfold maskOk
  rw [Bool.and_eq_true, List.all_eq_true, bne_iff_ne]
  simp only [List.mem_finRange, true_implies, hline]
  push Not
  rfl

/-- The fields of a kind that R50 refuses. -/
def FieldsBad (s : State) (p : Step) (k : StepKind) : Prop :=
  match k with
  | .set => p.mask = 0#16 ∨ ∃ n : Fin 16, p.mask.getLsbD n.val = true ∧ s.os.lines[n].role = .unused
  | .pulse =>
    (p.mask = 0#16 ∨ ∃ n : Fin 16, p.mask.getLsbD n.val = true ∧ s.os.lines[n].role = .unused) ∨ p.width = 0#32
  | .train =>
    (p.mask = 0#16 ∨ ∃ n : Fin 16, p.mask.getLsbD n.val = true ∧ s.os.lines[n].role = .unused) ∨
      (p.count = 0#16 ∨ p.width = 0#32 ∨ p.period.toNat ≤ p.width.toNat)
  | .wait | .anchor | .mark | .applyLimits | .endProgram => False

theorem fieldsOk_eq_false_iff (k : StepKind) (p : Step) (s : State) : fieldsOk k p s = false ↔ FieldsBad s p k := by
  have hmask : maskOk s p.mask = false ↔
      (p.mask = 0#16 ∨ ∃ n : Fin 16, p.mask.getLsbD n.val = true ∧ s.os.lines[n].role = .unused) := by
    rw [← Bool.not_eq_true, maskOk_iff, not_not]
  unfold fieldsOk FieldsBad
  cases k
  case set => exact hmask
  case pulse => rw [Bool.and_eq_false_iff, hmask, bne_eq_false_iff_eq]
  case train =>
    rw [Bool.and_eq_false_iff, Bool.and_eq_false_iff, Bool.and_eq_false_iff, hmask, bne_eq_false_iff_eq,
      bne_eq_false_iff_eq, decide_eq_false_iff_not, not_lt, or_assoc, or_assoc]
  all_goals simp

/-- The times that R50 refuses, of a step that takes `span` ticks. -/
def TimesBad (s : State) (p : Step) (k : StepKind) (span : Nat) : Prop :=
  2 ^ 48 - 1 < dueOf s p + span ∨
    ((k ≠ .wait ∧ k ≠ .anchor ∧ dueOf s p < s.tb.pt.toNat) ∧ s.su.latePolicy = .apply ∧ 2 ^ 48 - 1 < s.tb.pt.toNat + span)

theorem needsEntry_iff (k : StepKind) : needsEntry (some k) = true ↔ k ≠ .wait ∧ k ≠ .anchor := by
  cases k <;> decide

theorem isLate_iff (k : StepKind) (p : Step) (s : State) :
    isLate k p s = true ↔ k ≠ .wait ∧ k ≠ .anchor ∧ dueOf s p < s.tb.pt.toNat := by
  rw [isLate, Bool.and_eq_true, needsEntry_iff, decide_eq_true_eq, and_assoc]

/-- The policy of an END differs from the unit's only where its times are in range. -/
theorem timesOk_eq_false_iff (k : StepKind) (p : Step) (s : State) :
    timesOk k p s = false ↔ TimesBad s p k (spanOf k p) := by
  have hpt := s.tb.pt.isLt
  have hpolicy : policyFor k s.su.latePolicy = .apply ∧ 2 ^ 48 - 1 < s.tb.pt.toNat + spanOf k p ↔
      s.su.latePolicy = .apply ∧ 2 ^ 48 - 1 < s.tb.pt.toNat + spanOf k p := by
    unfold policyFor
    by_cases hend : k = .endProgram ∧ s.su.latePolicy = .drop
    · rw [if_pos hend, hend.1, hend.2]
      simp only [spanOf, reduceCtorEq, true_and, false_and, iff_false]
      omega
    · rw [if_neg hend]
  unfold timesOk TimesBad Config.maxTime
  rw [← isLate_iff, ← hpolicy, Bool.and_eq_false_iff]
  simp [and_assoc]

theorem spanOf_eq {k : StepKind} {p : Step} (h : p.kind.toNat = k.number) : spanOf k p = stepSpan p := by
  unfold stepSpan
  rw [h]
  cases k <;> rfl

/-! ## The points of R50 -/

theorem badStep_of_unknown {p : Step} (h : stepKindOf p.kind = none) (s : State) : BadStep s p :=
  (stepKindOf_eq_none h).elim .inl fun hlarge => .inr (.inl hlarge)

theorem badStep_iff_of_kind {p : Step} {k : StepKind} (h : stepKindOf p.kind = some k) (hk : k ≠ .wait) (s : State) :
    BadStep s p ↔ fieldsOk k p s = false ∨ timesOk k p s = false := by
  have hnumber := stepKindOf_number h
  rw [fieldsOk_eq_false_iff, timesOk_eq_false_iff, spanOf_eq hnumber]
  unfold BadStep FieldsBad TimesBad dueOf
  rw [hnumber]
  cases k
  case wait => exact absurd rfl hk
  all_goals simp [StepKind.number, or_assoc]

theorem waitEdgeOf_eq_none_iff (b : Byte) : waitEdgeOf b = none ↔ 2 < b.toNat := by
  unfold waitEdgeOf
  split <;> simp_all
  omega

theorem channelOf_eq_none_iff (b : Byte) : channelOf b = none ↔ 15 < b.toNat := by
  unfold channelOf
  split <;> simp <;> omega

theorem channelOf_eq_some {b : Byte} {c : Fin 16} (h : channelOf b = some c) : b.toNat = c.val := by
  unfold channelOf at h
  split at h
  · exact congrArg Fin.val (Option.some.inj h)
  · cases h

theorem waiterOf_eq_none_iff (p : Step) (s : State) :
    waiterOf p s = none ↔
      (15 < p.channel.toNat ∨ 2 < p.edge.toNat ∨
        ∃ c : Fin 16, p.channel.toNat = c.val ∧ s.cx.channels[c].enable = false) ∨
      (p.timeout ≠ 0#32 ∧ 2 ^ 48 - 1 < s.tb.pt.toNat + p.timeout.toNat) := by
  have hpt := s.tb.pt.isLt
  have hrange : 2 ^ 48 - 1 < s.tb.pt.toNat + p.timeout.toNat → p.timeout ≠ 0#32 := fun hlarge hzero => by
    rw [hzero] at hlarge
    simp at hlarge
    omega
  rw [← channelOf_eq_none_iff, ← waitEdgeOf_eq_none_iff]
  unfold waiterOf
  cases hchannel : channelOf p.channel with
  | none => simp
  | some c =>
    have hnumber := channelOf_eq_some hchannel
    have hdisabled : (∃ d : Fin 16, p.channel.toNat = d.val ∧ s.cx.channels[d].enable = false) ↔
        s.cx.channels[c].enable = false := by
      refine ⟨fun ⟨d, hd, hoff⟩ => ?_, fun hoff => ⟨c, hnumber, hoff⟩⟩
      obtain rfl : c = d := Fin.ext (hnumber.symm.trans hd)
      exact hoff
    cases waitEdgeOf p.edge with
    | none => simp
    | some e =>
      rw [hdisabled]
      unfold Config.maxTime
      dsimp only
      rw [ite_eq_right_iff]
      simp only [reduceCtorEq, imp_false, not_and, not_le, false_or]
      rw [and_iff_right_of_imp hrange]
      cases s.cx.channels[c].enable <;> simp

theorem badStep_iff_of_wait {p : Step} (h : stepKindOf p.kind = some .wait) (s : State) :
    BadStep s p ↔ waiterOf p s = none := by
  rw [waiterOf_eq_none_iff]
  unfold BadStep
  rw [stepKindOf_number h]
  simp [StepKind.number, or_assoc]

end Sys2Proof.Machine
end

/-! STEP_ADMISSION of the steps that end the program, that are late, and that are due at PT (R50 to R57): the state in which
such a step is judged, and the agenda with its entry in it. -/
section
namespace Sys2Proof.Machine

/-! ## Steps that end the program -/

/-- A fault of an admissible step ends the program FAULTED. -/
theorem admission_aborted {s v : State} {q : QueuedStep} (hmay : mayAdmit q s = true) (hretiring : Retiring s)
    (htrip : s.gu.tripNotice = none) (hbase : AbortBase s v) (hsu : v.su = s.su) (hfu : v.fu = s.fu)
    (hclose : CloseAsked v) (r : Reason) :
    Aborted .faulted r s (settle (suFault r v)) ∧ (settle (suFault r v)).cp = v.cp := by
  have hrunning : v.su.program = .running := by rw [hsu]; exact (running_of_mayAdmit hmay).1
  have hvtrip : v.gu.tripNotice = none := by rw [hbase.gu]; exact htrip
  have hvretiring : Retiring v := by
    unfold Retiring
    rw [hfu]
    exact hretiring
  rw [suFault_of_active (.inl hrunning)]
  exact ⟨aborted_of_base rfl hbase hvtrip hvretiring r, aborted_cp hvtrip hvretiring hclose .faulted r⟩

/-! ## The report of a late step (R54) -/

theorem reportLate_counts (q : QueuedStep) (n : Nat) (s : State) : Counted 1 0 0 s (reportLate q n s) :=
  (offer_counts _ s).then (raise_counted _ (by decide))

theorem reportLate_jw (q : QueuedStep) (n : Nat) (s : State) :
    (reportLate q n s).jw = s.jw.offer (lateRecord s n (dueOf s q.step) q.step.tag) := rfl

theorem reportLate_tally {i : Fin 16} (h : i ≠ 10 ∧ i ≠ 11) (q : QueuedStep) (n : Nat) (s : State) :
    (reportLate q n s).ev.tallies[i] = s.ev.tallies[i] :=
  (congrArg (·[i]) (EventUnit.raise_tallies _ _)).trans (offer_tally_of_other _ s h)

theorem reportLate_late (q : QueuedStep) (n : Nat) (s : State) : pendingCause .late (reportLate q n s) = true := by
  have hraised := (offer (lateRecord s n (dueOf s q.step) q.step.tag) s).ev.raise_getLsbD .late .late
  rw [decide_eq_true rfl, Bool.true_or] at hraised
  exact hraised

theorem reportLate_starved (q : QueuedStep) (n : Nat) (s : State) :
    pendingCause .starved (reportLate q n s) = pendingCause .starved s := by
  have hraised := (offer (lateRecord s n (dueOf s q.step) q.step.tag) s).ev.raise_getLsbD .late .starved
  rw [decide_eq_false (by decide), Bool.false_or] at hraised
  exact hraised.trans (offer_pendingCause _ s (by decide))

theorem dueOf_congr {s t : State} (h : t.su = s.su) (p : Step) : dueOf t p = dueOf s p := by
  unfold dueOf
  rw [h]

/-- The LATE record in the words of the statements. -/
theorem lateRecord_eq (s : State) (n : Nat) (due : Nat) (tag : Word) :
    lateRecord s n due tag =
      { kind := .late, source := 0xFF#8, flags := byteOf n, stamp := s.tb.tl.setWidth 40,
        value1 := if s.tb.pt.toNat - due < 2 ^ 32 then BitVec.ofNat 32 (s.tb.pt.toNat - due) else 0xFFFFFFFF#32,
        value2 := tag } := by
  have hvalue : BitVec.ofNat 32 (min (s.tb.pt.toNat - due) (2 ^ 32 - 1)) =
      if s.tb.pt.toNat - due < 2 ^ 32 then BitVec.ofNat 32 (s.tb.pt.toNat - due) else 0xFFFFFFFF#32 := by
    split
    next h => rw [Nat.min_eq_left (by omega)]
    next h =>
      rw [Nat.min_eq_right (by omega)]
      rfl
  rw [← hvalue]
  rfl

/-! ## The state in which a step due now is admitted -/

/-- What a report leaves to the admission that follows it. -/
structure Judged (r : Nat) (s b : State) : Prop where
  su : b.su = s.su
  fu : b.fu = s.fu
  os : b.os = s.os
  gu : b.gu = s.gu
  tb : b.tb = s.tb
  cx : b.cx = s.cx
  cp : b.cp = s.cp
  bp : b.bp = s.bp
  pins : b.pins = s.pins
  counted : Counted r 0 0 s b
  starved : pendingCause .starved b = pendingCause .starved s
  admitted : b.ev.tallies[0] = s.ev.tallies[0]
  lateApplied : b.ev.tallies[1] = satAdd s.ev.tallies[1] r
  lateDropped : b.ev.tallies[2] = s.ev.tallies[2]
  applications : b.ev.tallies[3] = s.ev.tallies[3]

theorem Judged.refl (s : State) : Judged 0 s s :=
  ⟨rfl, rfl, rfl, rfl, rfl, rfl, rfl, rfl, rfl, .refl s, rfl, rfl, (satAdd_zero _).symm, rfl, rfl⟩

theorem reportedLate_judged (q : QueuedStep) (s : State) : Judged 1 s (count .lateApplied 1 (reportLate q 1 s)) := by
  have hcount (i : Fin 16) := (reportLate q 1 s).ev.count_tally .lateApplied 1 i
  refine ⟨by simp, by simp, by simp, by simp, by simp, by simp, by simp, by simp, by simp,
    (reportLate_counts q 1 s).then (count_counted 1 _ (by decide)), reportLate_starved q 1 s, ?_, ?_, ?_, ?_⟩
  · exact ((hcount 0).trans (if_neg (by decide))).trans (reportLate_tally (i := 0) (by decide) q 1 s)
  · refine ((hcount 1).trans (if_pos rfl)).trans ?_
    rw [reportLate_tally (i := 1) (by decide)]
    rfl
  · exact ((hcount 2).trans (if_neg (by decide))).trans (reportLate_tally (i := 2) (by decide) q 1 s)
  · exact ((hcount 3).trans (if_neg (by decide))).trans (reportLate_tally (i := 3) (by decide) q 1 s)

/-- The state in which a step that is applied at once is numbered: reported if it is late. -/
def applyBase (q : QueuedStep) (s : State) : State :=
  if dueOf s q.step < s.tb.pt.toNat then count .lateApplied 1 (reportLate q 1 s) else s

theorem applyBase_judged (q : QueuedStep) (s : State) :
    Judged (if dueOf s q.step < s.tb.pt.toNat then 1 else 0) s (applyBase q s) := by
  unfold applyBase
  split
  · exact reportedLate_judged q s
  · exact .refl s

theorem applyBase_jw (q : QueuedStep) (s : State) :
    (applyBase q s).jw =
      if dueOf s q.step < s.tb.pt.toNat then
        s.jw.offer
          { kind := .late, source := 0xFF#8, flags := 1#8, stamp := s.tb.tl.setWidth 40,
            value1 := if s.tb.pt.toNat - dueOf s q.step < 2 ^ 32 then BitVec.ofNat 32 (s.tb.pt.toNat - dueOf s q.step)
              else 0xFFFFFFFF#32,
            value2 := q.step.tag }
      else s.jw := by
  unfold applyBase
  split
  · exact congrArg s.jw.offer (lateRecord_eq s 1 (dueOf s q.step) q.step.tag)
  · rfl

theorem applyBase_late {q : QueuedStep} {s : State} (h : dueOf s q.step < s.tb.pt.toNat) :
    pendingCause .late (applyBase q s) = true := by
  rw [applyBase, if_pos h]
  exact reportLate_late q 1 s

/-- A valid step due at PT, or late and applied, is admitted with its entry due at PT and applied in its admission. -/
theorem admitStep_of_now {q : QueuedStep} {k : StepKind} {ek : EntryKind} {s : State}
    (hkind : stepKindOf q.step.kind = some k) (hentry : k.entryKind = some ek) (hfields : fieldsOk k q.step s = true)
    (htimes : timesOk k q.step s = true)
    (hnow : dueOf s q.step = s.tb.pt.toNat ∨
      (dueOf s q.step < s.tb.pt.toNat ∧ policyFor k s.su.latePolicy = .apply)) :
    admitStep q s = applyDue (entryAdmitted q k ek s.tb.pt (applyBase q s)) := by
  rw [admitStep_of_kind hkind (ne_wait_of_entry hentry), admitChecked_of_ok hfields htimes, admitValid_of_entry hentry,
    admitTimed, isLate_of_entry hentry]
  rcases hnow with hdue | ⟨hlate, hpolicy⟩
  · have hpunctual : ¬dueOf s q.step < s.tb.pt.toNat := by omega
    have hpt : BitVec.ofNat 48 (dueOf s q.step) = s.tb.pt := by rw [hdue, BitVec.ofNat_toNat, BitVec.setWidth_eq]
    rw [decide_eq_false hpunctual, applyBase, if_neg hpunctual, hpt]
    exact if_pos rfl
  · have htb : (count .lateApplied 1 (reportLate q 1 s)).tb = s.tb := by simp
    rw [decide_eq_true hlate, if_pos rfl, admitLate, hpolicy, applyBase, if_pos hlate]
    dsimp only
    rw [admitEntry_eq, if_pos (congrArg Timebase.pt htb).symm]

/-! ## The agenda with the entry in it -/

theorem due_ne_of_none {s : State} (h : dueEntries s = []) {e : Entry} (he : e ∈ s.su.agenda) : e.due ≠ s.tb.pt := by
  have hnot := List.filter_eq_nil_iff.mp h e he
  exact fun hdue => hnot (beq_iff_eq.mpr hdue)

theorem dueEntries_eq_nil {s : State} (hrunning : s.su.program = .running) (h : applicationDue s = false) :
    dueEntries s = [] := by
  by_contra hne
  rw [(applicationDue_iff s).mpr ⟨.inl hrunning, hne⟩] at h
  cases h

section
variable {s w : State} {e : Entry} (hnone : dueEntries s = []) (htb : w.tb = s.tb)
  (hagenda : w.su.agenda = s.su.agenda ++ [e]) (hdue : e.due = s.tb.pt)
include hnone htb hagenda hdue

theorem dueEntries_of_entered : dueEntries w = [e] := by
  have hold : s.su.agenda.filter (fun x => x.due == s.tb.pt) = [] := hnone
  have hnew : (e.due == s.tb.pt) = true := beq_iff_eq.mpr hdue
  rw [dueEntries, hagenda, htb, List.filter_append, hold, List.nil_append, List.filter_cons, hnew, if_pos rfl,
    List.filter_nil]

theorem appliedAgenda_of_entered : appliedAgenda w = s.su.agenda ++ e.rekeyed.toList := by
  have hold : s.su.agenda.filterMap (Entry.afterApplication s.tb.pt) = s.su.agenda := by
    refine (List.filterMap_congr fun x hx => ?_).trans List.filterMap_some
    exact if_neg (due_ne_of_none hnone hx)
  have hnew : e.afterApplication s.tb.pt = e.rekeyed := if_pos hdue
  rw [appliedAgenda, hagenda, htb, List.filterMap_append, hold, List.filterMap_cons, hnew]
  cases e.rekeyed <;> rfl

end

/-- The agenda has taken the entry of a step: what the applications of the present PT find. -/
structure Entered (e : Entry) (s b w : State) : Prop where
  program : w.su.program = .running
  agenda : w.su.agenda = s.su.agenda ++ [e]
  due : e.due = s.tb.pt
  os : w.os = s.os
  gu : w.gu = s.gu
  tb : w.tb = s.tb
  cx : w.cx = s.cx
  cp : w.cp = s.cp
  pins : w.pins = s.pins
  jw : w.jw = b.jw
  ev : w.ev = b.ev.count .stepsAdmitted 1
  table : w.fu.table.length = s.fu.table.length
  done : w.fu.doneNotice = s.fu.doneNotice
  reported : w.fu.starvedReported = s.fu.starvedReported
  bus : s.bp.Alike w.bp

theorem admitted_parts (n : Fin 8) (b isEnd : Bool) (f : FetchUnit) :
    (f.admitted n b isEnd).state = f.state ∧ (f.admitted n b isEnd).doneNotice = f.doneNotice ∧
      (f.admitted n b isEnd).starvedReported = f.starvedReported ∧
        (f.admitted n b isEnd).table.length = f.table.length := ⟨rfl, rfl, rfl, List.length_map _⟩

theorem close_reported (f : FetchUnit) : f.close.starvedReported = f.starvedReported := by
  unfold FetchUnit.close
  split <;> rfl

section
variable {q : QueuedStep} {k : StepKind} {ek : EntryKind} {r : Nat} {s b : State} (hb : Judged r s b)
  (hrunning : s.su.program = .running)
include hb

theorem entryAdmitted_fu (hk : k ≠ .endProgram) (due : Time) :
    (entryAdmitted q k ek due b).fu = s.fu.admitted q.slot true false ∧ (entryAdmitted q k ek due b).bp = s.bp := by
  rw [entryAdmitted, if_neg hk, beq_eq_false_iff_ne.mpr hk]
  refine ⟨?_, ?_⟩
  · change b.fu.admitted q.slot true false = _
    rw [hb.fu]
  · change b.bp = _
    rw [hb.bp]

theorem entryAdmitted_fu_of_end (due : Time) :
    (entryAdmitted q .endProgram ek due b).fu = (s.fu.admitted q.slot true true).close ∧
      (entryAdmitted q .endProgram ek due b).bp = s.bp.discardIf TransferKind.isFetchRead := by
  rw [entryAdmitted, if_pos rfl]
  refine ⟨?_, ?_⟩
  · change (b.fu.admitted q.slot true true).close = _
    rw [hb.fu]
  · change b.bp.discardIf _ = _
    rw [hb.bp]

/-- The SU of an admission with an entry. -/
theorem entryAdmitted_su {rest : List QueuedStep} (hqueue : s.su.queue = q :: rest) (hk : k ≠ .endProgram) (due : Time) :
    (entryAdmitted q k ek due b).su = { s.su with
      queue := rest, admissionCount := s.su.admissionCount + 1#32,
      cursor := BitVec.ofNat 48 (dueOf s q.step + cursorStep k q.step),
      agenda := s.su.agenda ++ [entryOf q ek due s] } := by
  have hentry : entryOf q ek due b = entryOf q ek due s := by
    unfold entryOf
    rw [hb.su]
  rw [entryAdmitted, if_neg hk, setCursor_su, numberStep_su, dueOf_congr hb.su, hentry, hb.su, hqueue]
  rfl

theorem entryAdmitted_su_of_end (due : Time) :
    (entryAdmitted q .endProgram ek due b).su = { s.su with
      queue := [], admissionCount := s.su.admissionCount + 1#32, cursor := BitVec.ofNat 48 (dueOf s q.step),
      agenda := s.su.agenda ++ [entryOf q ek due s], admissionOpen := false, waiter := none } := by
  have hentry : entryOf q ek due b = entryOf q ek due s := by
    unfold entryOf
    rw [hb.su]
  rw [entryAdmitted, if_pos rfl, closeAdmission_su, setCursor_su, numberStep_su, dueOf_congr hb.su, hentry, hb.su]
  rfl

theorem entryAdmitted_frame (due : Time) :
    (entryAdmitted q k ek due b).os = s.os ∧ (entryAdmitted q k ek due b).gu = s.gu ∧
      (entryAdmitted q k ek due b).tb = s.tb ∧ (entryAdmitted q k ek due b).cx = s.cx ∧
        (entryAdmitted q k ek due b).cp = s.cp ∧ (entryAdmitted q k ek due b).pins = s.pins ∧
          (entryAdmitted q k ek due b).jw = b.jw ∧
            (entryAdmitted q k ek due b).ev = b.ev.count .stepsAdmitted 1 := by
  obtain ⟨w, hw⟩ : ∃ w, w = setCursor (dueOf b q.step + cursorStep k q.step)
    (numberStep q (some (entryOf q ek due b)) (k == .endProgram) b) := ⟨_, rfl⟩
  have hframe : w.os = s.os ∧ w.gu = s.gu ∧ w.tb = s.tb ∧ w.cx = s.cx ∧ w.cp = s.cp ∧ w.pins = s.pins ∧ w.jw = b.jw ∧
      w.ev = b.ev.count .stepsAdmitted 1 := by
    rw [hw]
    exact ⟨hb.os, hb.gu, hb.tb, hb.cx, hb.cp, hb.pins, rfl, rfl⟩
  unfold entryAdmitted
  dsimp only
  rw [← hw]
  split
  · simpa using hframe
  · exact hframe

include hrunning

theorem entryAdmitted_entered {rest : List QueuedStep} (hqueue : s.su.queue = q :: rest) :
    Entered (entryOf q ek s.tb.pt s) s b (entryAdmitted q k ek s.tb.pt b) := by
  obtain ⟨hos, hgu, htb, hcx, hcp, hpins, hjw, hev⟩ := entryAdmitted_frame (q := q) (k := k) (ek := ek) hb s.tb.pt
  by_cases hk : k = .endProgram
  · subst hk
    obtain ⟨hfu, hbp⟩ := entryAdmitted_fu_of_end (q := q) (ek := ek) hb s.tb.pt
    have hsu := entryAdmitted_su_of_end (q := q) (ek := ek) hb s.tb.pt
    obtain ⟨_, hdone, hreported, hlength⟩ := admitted_parts q.slot true true s.fu
    obtain ⟨_, _, kdone, _, ktable⟩ := close_parts (s.fu.admitted q.slot true true)
    exact ⟨by rw [hsu]; exact hrunning, by rw [hsu], rfl, hos, hgu, htb, hcx, hcp, hpins, hjw, hev,
      by rw [hfu, ktable, hlength], by rw [hfu, kdone, hdone], by rw [hfu, close_reported, hreported],
      by rw [hbp]; exact s.bp.discardIf_alike _⟩
  · obtain ⟨hfu, hbp⟩ := entryAdmitted_fu (q := q) (ek := ek) hb hk s.tb.pt
    have hsu := entryAdmitted_su (ek := ek) hb hqueue hk s.tb.pt
    obtain ⟨_, hdone, hreported, hlength⟩ := admitted_parts q.slot true false s.fu
    exact ⟨by rw [hsu]; exact hrunning, by rw [hsu], rfl, hos, hgu, htb, hcx, hcp, hpins, hjw, hev,
      by rw [hfu, hlength], by rw [hfu, hdone], by rw [hfu, hreported], by rw [hbp]; exact .refl _⟩

end

end Sys2Proof.Machine
end

/-! The end of an admission whose step is applied at once and takes no staged block (R52, R55, R57). -/
section
namespace Sys2Proof.Machine

theorem entriesApplied_tally {i : Fin 16} (hi : i ≠ 3 ∧ i ≠ 10 ∧ i ≠ 11) (w : State) :
    (entriesApplied w).ev.tallies[i] = w.ev.tallies[i] := foldl_applyEntry_tally hi _ _

/-- What an admission that is applied at once leaves of time, the channels and the pins, and what it reports and counts. -/
def Others (late : Prop) (r : Nat) (s t : State) : Prop :=
  t.tb.tl = s.tb.tl ∧ t.tb.pt = s.tb.pt ∧ t.cx = s.cx ∧ t.pins = s.pins ∧ (late → pendingCause .late t = true) ∧
    t.ev.tallies[1] = satAdd s.ev.tallies[1] r ∧ t.ev.tallies[2] = s.ev.tallies[2] ∧
      t.ev.tallies[3] = satAdd s.ev.tallies[3] 1

/-- The step has been numbered and counted (R49). -/
def Numbered (s t : State) : Prop :=
  t.su.admissionCount = s.su.admissionCount + 1#32 ∧ t.ev.tallies[0] = satAdd s.ev.tallies[0] 1

/-- STARVED and the requests after an event that goes on. -/
def GoesOn (s t : State) : Prop := StarvedJudged s t ∧ (s.bp.outstanding .fu = false → FetchAsked t)

section
variable {e : Entry} {r : Nat} {s b w : State} (h : Entered e s b w) (hb : Judged r s b) (hnone : dueEntries s = [])
include h

theorem Entered.tracking (hquiet : Quiet s) (hretiring : Retiring s) : Tracking w := by
  obtain ⟨htable, hdone⟩ := hretiring
  refine ⟨by rw [h.gu]; exact hquiet.1, fun _ hnil => htable ?_, fun _ => h.done.trans hdone⟩
  have hlength := h.table
  rw [hnil] at hlength
  exact List.length_eq_zero_iff.mp hlength.symm

theorem Entered.retiring (hretiring : Retiring s) : Retiring w := by
  obtain ⟨htable, hdone⟩ := hretiring
  refine ⟨fun hnil => htable ?_, h.done.trans hdone⟩
  have hlength := h.table
  rw [hnil] at hlength
  exact List.length_eq_zero_iff.mp hlength.symm

theorem Entered.counted : Counted 0 0 0 b w := by
  have hcount : Counted 0 0 0 b (count .stepsAdmitted 1 b) := count_counted 1 b (by decide)
  exact hcount.then (.of_eq h.ev h.jw)

theorem Entered.tally {i : Fin 16} (hi : i ≠ 0) : w.ev.tallies[i] = b.ev.tallies[i] := by
  rw [h.ev]
  exact (b.ev.count_tally .stepsAdmitted 1 i).trans (if_neg hi)

theorem Entered.numbered : w.ev.tallies[0] = satAdd b.ev.tallies[0] 1 := by
  rw [h.ev]
  exact (b.ev.count_tally .stepsAdmitted 1 0).trans (if_pos rfl)

theorem Entered.pendingCause_eq (c : Cause) : pendingCause c w = pendingCause c b := by
  rw [pendingCause, h.ev]
  rfl

theorem Entered.closeAsked (hb : Judged r s b) (hclose : CloseAsked s) : CloseAsked w := by
  intro hclosing
  rw [h.bus.outstanding]
  exact hclose ((hb.counted.then h.counted).state.symm.trans hclosing)

/-- A cause that no entry of this kind raises. -/
theorem Entered.entriesApplied_pendingCause {c : Cause} (hc : c ≠ .recordsLost) (hmark : c ≠ .mark) :
    pendingCause c (entriesApplied w) = pendingCause c b := by
  have hfold := foldl_applyEntry_pendingCause hc (dueEntries w)
    { w with su := { w.su with agenda := appliedAgenda w } }
  rw [decide_eq_false hmark, Bool.false_and, Bool.false_or] at hfold
  exact hfold.trans (h.pendingCause_eq c)

include hnone

theorem Entered.dueEntries_eq : dueEntries w = [e] := dueEntries_of_entered hnone h.tb h.agenda h.due

theorem Entered.appliedAgenda_eq : appliedAgenda w = s.su.agenda ++ e.rekeyed.toList :=
  appliedAgenda_of_entered hnone h.tb h.agenda h.due

theorem Entered.applicationDue_of : applicationDue w = true := by
  refine (applicationDue_iff w).mpr ⟨.inl h.program, ?_⟩
  rw [h.dueEntries_eq hnone]
  exact List.cons_ne_nil _ _

theorem Entered.dueChanges_eq : dueChanges w = e.change.toList := by
  rw [dueChanges, h.dueEntries_eq hnone, List.filterMap_cons]
  cases e.change <;> rfl

theorem Entered.plain (hplain : e.Plain s) : PlainDue w := fun x hx => by
  rw [h.dueEntries_eq hnone] at hx
  rw [List.mem_singleton.mp hx]
  unfold Entry.Plain
  rw [h.cp]
  exact hplain

theorem Entered.no_end (hk : e.kind ≠ .endProgram) : ∀ x ∈ dueEntries w, x.kind ≠ .endProgram := fun x hx => by
  rw [h.dueEntries_eq hnone] at hx
  rw [List.mem_singleton.mp hx]
  exact hk

theorem Entered.entriesApplied_applications : (entriesApplied w).ev.tallies[3] = satAdd w.ev.tallies[3] 1 := by
  have hcount := foldl_applyEntry_applications (dueEntries w)
    { w with su := { w.su with agenda := appliedAgenda w } }
  rw [h.dueEntries_eq hnone] at hcount
  rw [entriesApplied, h.dueEntries_eq hnone]
  exact hcount

/-- The counters of an admission that is applied at once. -/
theorem Entered.tallies (hb : Judged r s b) {x : State}
    (hx : ∀ i : Fin 16, i.val < 4 → x.ev.tallies[i] = (entriesApplied w).ev.tallies[i]) :
    x.ev.tallies[0] = satAdd s.ev.tallies[0] 1 ∧ x.ev.tallies[1] = satAdd s.ev.tallies[1] r ∧
      x.ev.tallies[2] = s.ev.tallies[2] ∧ x.ev.tallies[3] = satAdd s.ev.tallies[3] 1 := by
  refine ⟨(hx 0 (by decide)).trans ?_, (hx 1 (by decide)).trans ?_, (hx 2 (by decide)).trans ?_,
    (hx 3 (by decide)).trans ?_⟩
  · exact (entriesApplied_tally (i := 0) (by decide) w).trans (h.numbered.trans (by rw [hb.admitted]))
  · exact (entriesApplied_tally (i := 1) (by decide) w).trans ((h.tally (i := 1) (by decide)).trans hb.lateApplied)
  · exact (entriesApplied_tally (i := 2) (by decide) w).trans ((h.tally (i := 2) (by decide)).trans hb.lateDropped)
  · exact (h.entriesApplied_applications hnone).trans
      (congrArg (satAdd · 1) ((h.tally (i := 3) (by decide)).trans hb.applications))

/-- What the end of such an admission reports and counts. -/
theorem Entered.others {late : Prop} (hb : Judged r s b) (hlate : late → pendingCause .late b = true) {v : State}
    (hv : Applies w v) {cs : List Change} (ht : Tracking (osBatch cs v)) :
    Others late r s (settle (osBatch cs v)) ∧ (settle (osBatch cs v)).ev.tallies[0] = satAdd s.ev.tallies[0] 1 := by
  obtain ⟨_, _, _, ktb, kcx, kpins, _⟩ := hv.settled ht
  have hsame (i : Fin 16) (hi : i.val < 4) :
      (settle (osBatch cs v)).ev.tallies[i] = (entriesApplied w).ev.tallies[i] :=
    hv.tally ⟨fun e => by rw [e] at hi; omega, fun e => by rw [e] at hi; omega, fun e => by rw [e] at hi; omega,
      fun e => by rw [e] at hi; omega⟩ (fun e => by rw [e] at hi; omega) ht
  obtain ⟨hfirst, happlied, hdropped, happlications⟩ := h.tallies hnone hb hsame
  refine ⟨⟨?_, ?_, kcx.trans h.cx, kpins.trans h.pins, fun hl => ?_, happlied, hdropped, happlications⟩, hfirst⟩
  · rw [ktb, h.tb]
  · rw [ktb, h.tb]
  · rw [ht.settle_pendingCause (by decide) (by decide), osBatch_pendingCause (by decide), pendingCause, hv.ev]
    exact (h.entriesApplied_pendingCause (c := .late) (by decide) (by decide)).trans (hlate hl)

/-- An entry that takes no block and ends no program, applied in its admission. -/
theorem Entered.applied {late : Prop} (hb : Judged r s b) (hlate : late → pendingCause .late b = true)
    (hquiet : Quiet s) (hrested : Rested s) (hretiring : Retiring s) (hbp : w.bp = s.bp) (hplain : e.Plain s)
    (hk : e.kind ≠ .endProgram) :
    let t := settle (applyDue w)
    Tracking (osBatch e.change.toList (entriesApplied w)) ∧
      applyDue w = osBatch e.change.toList (entriesApplied w) ∧
      t.su = { w.su with agenda := s.su.agenda ++ e.rekeyed.toList } ∧ t.os = (osBatch e.change.toList s).os ∧
        t.gu = (osBatch e.change.toList s).gu ∧ t.cp = s.cp ∧ Others late r s t ∧
          t.ev.tallies[0] = satAdd s.ev.tallies[0] 1 ∧ GoesOn s t := by
  have htracking := h.tracking hquiet hretiring
  have hplainDue := h.plain hnone hplain
  have hsu := entriesApplied_su_of_no_end (h.no_end hnone hk)
  have hprogram : (entriesApplied w).su.program = .running := by rw [hsu]; exact h.program
  have hgoes : (entriesApplied w).su.program ≠ .stopping := by rw [hprogram]; exact nofun
  have happlied : applyDue w = osBatch e.change.toList (entriesApplied w) := by
    rw [applyDue_going (h.applicationDue_of hnone) hplainDue (fun hd => by rw [hprogram] at hd; cases hd), h.dueChanges_eq hnone]
  have hclose := h.closeAsked hb hrested.closeAsked
  obtain ⟨ksu, kos, kgu, _, _, kcp, _, _⟩ := going_settled htracking hclose hplainDue hgoes e.change.toList
  obtain ⟨hos, hgu⟩ := osBatch_congr e.change.toList h.os h.gu (congrArg Timebase.tl h.tb)
  have ht := going_tracking htracking hgoes e.change.toList
  obtain ⟨kothers, kfirst⟩ := h.others hnone hb hlate (applies_going w) ht
  have kgoes := going_on htracking hrested hbp ((h.pendingCause_eq .starved).trans hb.starved) h.reported hgoes
    e.change.toList
  dsimp only
  rw [happlied]
  refine ⟨ht, rfl, ksu.trans ?_, kos.trans hos, kgu.trans hgu, kcp.trans h.cp, kothers, kfirst, kgoes⟩
  rw [hsu, h.appliedAgenda_eq hnone]

/-- The records of an entry that moves no line and takes no block. -/
theorem Entered.records (hb : Judged r s b) (hrested : Rested s) {v : State} (hv : Applies w v) (ht : Tracking v)
    (hbus : w.bp.Alike v.bp) (hplain : e.Plain s) :
    (settle v).jw.fifo = ((e.record s).elim b.jw fun x => b.jw.offer x).fifo ∧
      OffersCounted (r + (e.record s).toList.length) s (settle v) ∧
        pendingCause .mark (settle v) = (e.marks || pendingCause .mark b) := by
  have hplainDue := h.plain hnone hplain
  have hclose := h.closeAsked hb hrested.closeAsked
  have hrecord : e.record w = e.record s := congrFun (Entry.record_congr h.tb) e
  obtain ⟨_, _, hentries⟩ := entriesApplied_plain hplainDue
  rw [h.dueEntries_eq hnone, List.filterMap_cons, hrecord] at hentries
  have hfifo := hv.fifo_of_one hplainDue (h.dueEntries_eq hnone) ht
  rw [hrecord, h.jw] at hfifo
  obtain ⟨_, hmark⟩ := hv.recorded hplainDue (cs := []) ht
  rw [h.dueEntries_eq hnone, List.any_cons, List.any_nil, Bool.or_false, h.pendingCause_eq] at hmark
  have hone : Counted (e.record s).toList.length 0 0 w (entriesApplied w) := by
    revert hentries
    cases e.record s <;> exact id
  have hall := (hb.counted.then h.counted).trans (hone.then (.of_eq hv.ev hv.jw))
  refine ⟨hfifo, ht.settle_counted (hv.closeAsked hplainDue hclose hbus []) hall.offers, hmark⟩

/-- An END applied in its admission. -/
theorem Entered.ended {late : Prop} (hb : Judged r s b) (hlate : late → pendingCause .late b = true)
    (hquiet : Quiet s) (hrested : Rested s) (hretiring : Retiring s) (hk : e.kind = .endProgram) :
    let t := settle (applyDue w)
    t.su = (if s.su.agenda = [] then
        { w.su with
          program := .stopping, outcome := .ended, reason := .none, admissionOpen := false, queue := [], waiter := none,
          agenda := [] }
      else { w.su with program := .draining, outcome := .ended, reason := .none, agenda := s.su.agenda }) ∧
      t.jw.fifo = b.jw.fifo ∧ OffersCounted r s t ∧ t.os = s.os ∧ t.gu = s.gu ∧ t.cp = s.cp ∧ Others late r s t ∧
        t.ev.tallies[0] = satAdd s.ev.tallies[0] 1 := by
  have htracking := h.tracking hquiet hretiring
  have hplain : e.Plain s := .inr (by rw [hk]; exact nofun)
  have hplainDue := h.plain hnone hplain
  have hclose := h.closeAsked hb hrested.closeAsked
  have hmem : ∃ x ∈ dueEntries w, x.kind = .endProgram :=
    ⟨e, by rw [h.dueEntries_eq hnone]; exact List.mem_singleton_self e, hk⟩
  have hne : dueEntries w ≠ [] := by rw [h.dueEntries_eq hnone]; exact List.cons_ne_nil _ _
  have hsu := entriesApplied_su_of_end hmem h.program
  have hrest : appliedAgenda w = s.su.agenda := by
    rw [h.appliedAgenda_eq hnone, Entry.rekeyed, hk]
    exact List.append_nil _
  have hchanges : dueChanges w = [] := dueChanges_of_one (h.dueEntries_eq hnone) (by rw [Entry.change, hk])
  have hrecord : e.record s = none := by rw [Entry.record, hk]
  have hwbp : (entriesApplied w).bp = w.bp := (entriesApplied_frame w).2.2.2.2.1
  dsimp only
  by_cases hempty : s.su.agenda = []
  · have happlied := applyDue_of_last_end h.program hne hplainDue hmem (hrest.trans hempty)
    rw [hchanges, osBatch_nil] at happlied
    have ht : Tracking (enterStopping .ended .none (entriesApplied w)) :=
      stopping_tracking htracking.trip (h.retiring hretiring) (o := .ended) rfl .none []
    have hbus := enterStopping_alike .ended .none (entriesApplied w)
    rw [hwbp] at hbus
    obtain ⟨ksu, kos, kgu, _, _, kcp, _⟩ :=
      stopping_settled htracking.trip (h.retiring hretiring) hclose hplainDue (o := .ended) rfl .none []
    obtain ⟨kfifo, kcounted, _⟩ := h.records hnone hb hrested (applies_stopping w (o := .ended) rfl .none) ht hbus hplain
    obtain ⟨kothers, kfirst⟩ := h.others hnone hb hlate (applies_stopping w (o := .ended) rfl .none) (cs := []) ht
    rw [hrecord] at kfifo kcounted
    rw [happlied, if_pos hempty]
    exact ⟨ksu.trans (by rw [hsu]), kfifo, kcounted, kos.trans h.os, kgu.trans h.gu, kcp.trans h.cp, kothers, kfirst⟩
  · have happlied := applyDue_of_end h.program hne hplainDue hmem (by rw [hrest]; exact hempty)
    rw [hchanges, osBatch_nil] at happlied
    have hgoes : (entriesApplied w).su.program ≠ .stopping := by rw [hsu]; exact nofun
    have ht : Tracking (entriesApplied w) := going_tracking htracking hgoes []
    obtain ⟨ksu, kos, kgu, _, _, kcp, _⟩ := going_settled htracking hclose hplainDue hgoes []
    obtain ⟨kfifo, kcounted, _⟩ := h.records hnone hb hrested (applies_going w) ht (by rw [hwbp]; exact .refl _) hplain
    obtain ⟨kothers, kfirst⟩ := h.others hnone hb hlate (applies_going w) (cs := []) ht
    rw [hrecord] at kfifo kcounted
    rw [happlied, if_neg hempty]
    refine ⟨ksu.trans ?_, kfifo, kcounted, kos.trans h.os, kgu.trans h.gu, kcp.trans h.cp, kothers, kfirst⟩
    rw [hsu, hrest]

end

end Sys2Proof.Machine
end

/-! An APPLY_LIMITS step that takes a staged block in its admission, whatever hold the block escalates (R76, R131, R132). -/
section
namespace Sys2Proof.Machine

/-! ## The first trip notice of an event -/

/-- A trip notice taken before the end of the event is taken at its end. -/
theorem settle_deliverTrip (u : State) : settle (deliverTrip u) = settle u := by
  have hnone : (deliverTrip u).gu.tripNotice = none := by simp
  rw [settle, settle, takeNotices, takeNotices, deliverTrip_none hnone]

/-- A trip notice leaves the FU, or aborts its strips. -/
theorem deliverTrip_fu (s : State) : (deliverTrip s).fu = s.fu ∨ (deliverTrip s).fu = abortedFetch s := by
  have habort (x : State) (hfu : x.fu = s.fu) (hsu : x.su = s.su) :
      (takeTripAbort x).fu = s.fu ∨ (takeTripAbort x).fu = abortedFetch s := by
    unfold takeTripAbort
    split
    · right
      rw [enterStopping_fu, abortedFetch, abortedFetch, hfu, hsu]
    · exact .inl hfu
  unfold deliverTrip
  split
  · exact .inl rfl
  · dsimp only
    split
    · have hcovered (mask : Half) (x : State) : (coverLines mask x).fu = x.fu := by simp
      rw [hcovered]
      exact habort _ rfl rfl
    · exact habort _ (by simp [afterDraw]) (by simp [afterDraw])

theorem foldl_released_reported (l : List Entry) (f : FetchUnit) :
    (l.foldl (fun f e => f.released e.slot true) f).starvedReported = f.starvedReported := by
  induction l generalizing f with
  | nil => rfl
  | cons e l ih => exact ih (f.released e.slot true)

theorem abortedFetch_reported (s : State) : (abortedFetch s).starvedReported = s.fu.starvedReported := by
  unfold abortedFetch
  rw [foldl_released_reported]
  split
  · exact close_reported _
  · rfl

/-- A trip notice to a program whose strips are tracked leaves them tracked. -/
theorem deliverTrip_tracking {u : State} (hretiring : Retiring u) : Tracking (deliverTrip u) := by
  obtain ⟨htable, hdone⟩ := hretiring
  have hkept : (deliverTrip u).fu.table ≠ [] ∧ (deliverTrip u).fu.doneNotice = none := by
    rcases deliverTrip_fu u with hfu | hfu <;> rw [hfu]
    · exact ⟨htable, hdone⟩
    · obtain ⟨kdone, _, klength, _⟩ := abortedFetch_parts u
      refine ⟨fun hnil => htable ?_, kdone.trans hdone⟩
      rw [hnil] at klength
      exact List.length_eq_zero_iff.mp klength.symm
  exact ⟨by simp, fun _ => hkept.1, fun _ => hkept.2⟩

theorem deliverTrip_reported (u : State) : (deliverTrip u).fu.starvedReported = u.fu.starvedReported := by
  rcases deliverTrip_fu u with hfu | hfu <;> rw [hfu]
  exact abortedFetch_reported u

theorem deliverTrip_admissionCount (u : State) : (deliverTrip u).su.admissionCount = u.su.admissionCount := by
  rw [deliverTrip_su, takeTripAbort_su]
  repeat' split
  all_goals rfl

/-! ## Causes of a trip and of new Limits -/

theorem suppressShoot_pendingCause {c : Cause} (hc : c ≠ .recordsLost) (s : State) :
    pendingCause c (suppressShoot s) = pendingCause c s :=
  foldl_keeps _ (pendingCause c) (fun s _ => offer_pendingCause _ s hc) _ _

theorem osResolve_pendingCause (c : Cause) (s : State) : pendingCause c (osResolve s) = pendingCause c s := rfl

theorem enterStopping_pendingCause {c : Cause} (hc : c ≠ .recordsLost) (o : ProgramOutcome) (r : Reason) (s : State) :
    pendingCause c (enterStopping o r s) = pendingCause c s := by
  obtain ⟨x, hx⟩ : ∃ x, x = discardAgenda { noticeClosed s with su := (noticeClosed s).su.stop o r } := ⟨_, rfl⟩
  have hev : x.ev = s.ev := by simp [hx, discardAgenda]
  have hclosed : pendingCause c x = pendingCause c s := by rw [pendingCause, hev]; rfl
  unfold enterStopping
  dsimp only
  rw [← hx]
  split
  · rw [osEndLevels, osResolve_pendingCause, suppressShoot_pendingCause hc]
    exact hclosed
  · exact hclosed

theorem takeTripAbort_pendingCause {c : Cause} (hc : c ≠ .recordsLost) (s : State) :
    pendingCause c (takeTripAbort s) = pendingCause c s := by
  unfold takeTripAbort
  split
  · exact enterStopping_pendingCause hc _ _ s
  · rfl

theorem coverLines_pendingCause (c : Cause) (mask : Half) (s : State) :
    pendingCause c (coverLines mask s) = pendingCause c s := rfl

theorem deliverTrip_pendingCause {c : Cause} (hc : c ≠ .recordsLost) (s : State) :
    pendingCause c (deliverTrip s) = pendingCause c s := by
  unfold deliverTrip
  split
  · rfl
  · dsimp only
    split
    · rw [coverLines_pendingCause, takeTripAbort_pendingCause hc]
      rfl
    · rw [takeTripAbort_pendingCause hc, coverLines_pendingCause]
      rfl

theorem raise_pendingCause {c d : Cause} (h : d ≠ c) (s : State) : pendingCause c (raise d s) = pendingCause c s := by
  have hraised := s.ev.raise_getLsbD d c
  rw [decide_eq_false h, Bool.false_or] at hraised
  exact hraised

theorem escalate_pendingCause {c : Cause} (hc : c ≠ .recordsLost) (hguard : Cause.guard ≠ c) (htrip : Cause.trip ≠ c)
    (n : Fin 4) (s : State) : pendingCause c (escalate n s) = pendingCause c s := by
  obtain ⟨x, hx⟩ : ∃ x, x = escalateTrip n s := ⟨_, rfl⟩
  have hstart : pendingCause c x = pendingCause c s := by
    have hev : x.ev = s.ev := by simp [hx]
    rw [pendingCause, hev]
    rfl
  obtain ⟨y, hy⟩ : ∃ y, y = offer (guardRecord x n (flagEscalate ||| flagTrip) .hold) x := ⟨_, rfl⟩
  have hreported : escalate n s = count .trips 1 (raise .trip (raise .guard (count .holdEscalations 1 y))) := by
    rw [hy, hx]
    rfl
  rw [hreported]
  change pendingCause c (raise .trip (raise .guard (count .holdEscalations 1 y))) = _
  rw [raise_pendingCause htrip, raise_pendingCause hguard]
  change pendingCause c y = _
  rw [hy, offer_pendingCause _ _ hc, hstart]

theorem deliverLimits_pendingCause {c : Cause} (hc : c ≠ .recordsLost) (hguard : Cause.guard ≠ c) (htrip : Cause.trip ≠ c)
    (m : Limits) (s : State) : pendingCause c (deliverLimits m s) = pendingCause c s := by
  have hjudge (x : State) (n : Fin 4) : pendingCause c (judgeHold x n) = pendingCause c x := by
    unfold judgeHold
    split
    · exact escalate_pendingCause hc hguard htrip n x
    · rfl
  have hguards (x : State) : pendingCause c (guNewLimits m x) = pendingCause c x :=
    foldl_keeps judgeHold (pendingCause c) hjudge _ _
  have htimes (x : State) : pendingCause c (osNewDeadTimes m x) = pendingCause c x := rfl
  unfold deliverLimits
  split
  · rw [htimes, hguards]
    rfl
  · rw [hguards, htimes]
    rfl

/-- A counter that no offer, no resolution and no escalation counts in stands. -/
theorem tally_stands_escalating {i : Fin 16} (h : i ≠ 4 ∧ i ≠ 5 ∧ i ≠ 10 ∧ i ≠ 11) (htrips : i ≠ 7) (hescalations : i ≠ 8)
    (v : Word) : Escalating fun t => t.ev.tallies[i] = v where
  toReporting := tally_stands h v
  escalations := fun s hs => (s.ev.count_tally .holdEscalations 1 i).trans ((if_neg hescalations).trans hs)
  trips := fun s hs => (s.ev.count_tally .trips 1 i).trans ((if_neg htrips).trans hs)

/-! ## The admission -/

section
variable {e : Entry} {r : Nat} {s b w : State} (h : Entered e s b w) (hb : Judged r s b) (hnone : dueEntries s = [])
  (hk : e.kind = .applyLimits) {l : StagedLimits} (hstaged : s.cp.staged = some l)
include h hnone hk hstaged

theorem Entered.taking :
    (entriesApplied w).su = { w.su with agenda := s.su.agenda } ∧
      (entriesApplied w).cp = { s.cp with active := l.limits, staged := none } ∧
        (entriesApplied w).jw = b.jw.offer
          { kind := .limits, source := 0xFF#8, flags := if l.replaced then 5#8 else 1#8, stamp := s.tb.tl.setWidth 40,
            value1 := 0#32, value2 := 0#32 } ∧
          applyDue w = deliverBatch [] true (entriesApplied w) := by
  have hone := h.dueEntries_eq hnone
  have hwstaged : w.cp.staged = some l := by rw [h.cp]; exact hstaged
  have hmem : ∃ x ∈ dueEntries w, x.kind = .applyLimits := ⟨e, by rw [hone]; exact List.mem_singleton_self e, hk⟩
  have hrest : appliedAgenda w = s.su.agenda := by
    rw [h.appliedAgenda_eq hnone, Entry.rekeyed, hk]
    exact List.append_nil _
  have hsu := entriesApplied_su_of_no_end (h.no_end hnone (by rw [hk]; exact nofun))
  rw [hrest] at hsu
  have hjw := entriesApplied_of_one_limits hone hk hwstaged
  rw [h.jw, h.tb] at hjw
  refine ⟨hsu, by rw [entriesApplied_cp hwstaged hmem, h.cp], hjw, ?_⟩
  rw [applyDue_taking (h.applicationDue_of hnone) hwstaged hmem, h.dueChanges_eq hnone, Entry.change, hk]
  · rfl
  · rw [hsu]
    exact fun hd => absurd (h.program.symm.trans hd) (by decide)

/-- A block taken in an admission. -/
theorem Entered.taken {late : Prop} (hb : Judged r s b) (hlate : late → pendingCause .late b = true) (hrested : Rested s)
    (hretiring : Retiring s) (hbp : w.bp = s.bp) :
    let t := settle (applyDue w)
    t.cp = { s.cp with active := l.limits, staged := none } ∧
      (b.jw.offer
        { kind := .limits, source := 0xFF#8, flags := if l.replaced then 5#8 else 1#8, stamp := s.tb.tl.setWidth 40,
          value1 := 0#32, value2 := 0#32 }).fifo <+: t.jw.fifo ∧
        Others late r s t ∧ GoesOn s t ∧ t.su.admissionCount = w.su.admissionCount ∧
          t.ev.tallies[0] = satAdd s.ev.tallies[0] 1 := by
  obtain ⟨hsu, hcp, hjw, happlied⟩ := h.taking hnone hk hstaged
  obtain ⟨htb, _, _, hcx, hwbp, hpins, _⟩ := entriesApplied_frame w
  obtain ⟨_, _, hbus⟩ := (rested_iff s).mp hrested
  obtain ⟨u, hu⟩ : ∃ u, u = applyDue w := ⟨_, rfl⟩
  have hdelivered : u = deliverLimits l.limits (afterDraw (entriesApplied w)) := by
    rw [hu, happlied, deliverBatch_nil, hcp]
  have hufu : u.fu = (entriesApplied w).fu := by simp [hdelivered, afterDraw]
  have husu : u.su = (entriesApplied w).su := by simp [hdelivered, afterDraw]
  have hucp : u.cp = (entriesApplied w).cp := by simp [hdelivered, afterDraw]
  have hubp : u.bp = s.bp := by simp [hdelivered, afterDraw, hwbp, hbp]
  have hucx : u.cx = s.cx := by simp [hdelivered, afterDraw, hcx, h.cx]
  have hupins : u.pins = s.pins := by simp [hdelivered, afterDraw, hpins, h.pins]
  have hutl : u.tb.tl = s.tb.tl := by
    rw [hdelivered, (deliverLimits_clock _ _).1, ← h.tb, ← htb]
    rfl
  have hupt : u.tb.pt = s.tb.pt := by
    rw [hdelivered, (deliverLimits_clock _ _).2.1, ← h.tb, ← htb]
    rfl
  have huretiring : Retiring u := by
    obtain ⟨htable, hdone⟩ := h.retiring hretiring
    unfold Retiring
    rw [hufu]
    refine ⟨fun hnil => htable ((entriesApplied_table_eq_nil w).mp hnil), ?_⟩
    rw [entriesApplied_fu, (foldl_release_parts _ _).2.1]
    exact hdone
  have hclose : CloseAsked (deliverTrip u) := by
    have hstart : CloseAsked u := by
      rw [hu, happlied]
      exact deliverBatch_closeAsked (entriesApplied_closeAsked (h.closeAsked hb hrested.closeAsked)) [] true
    intro hclosing
    rw [(deliverTrip_noMore u).bus.outstanding]
    exact hstart (((jwState_stays u.jw.state).toReporting.deliverTrip u rfl).symm.trans hclosing)
  have ht := deliverTrip_tracking huretiring
  have halike : s.bp.Alike (deliverTrip u).bp := by
    rw [← hubp]
    exact (deliverTrip_noMore u).bus
  have hcause {c : Cause} (hlost : c ≠ .recordsLost) (hmark : c ≠ .mark) (hguard : Cause.guard ≠ c)
      (htrip : Cause.trip ≠ c) : pendingCause c (deliverTrip u) = pendingCause c b := by
    rw [deliverTrip_pendingCause hlost, hdelivered, deliverLimits_pendingCause hlost hguard htrip]
    exact h.entriesApplied_pendingCause hlost hmark
  have htally (i : Fin 16) (hi : i.val < 4) :
      (settle (deliverTrip u)).ev.tallies[i] = (entriesApplied w).ev.tallies[i] := by
    have hne (j : Fin 16) (hj : 4 ≤ j.val) : i ≠ j := fun hij => by rw [hij] at hi; omega
    have hstands := tally_stands_escalating (i := i) ⟨hne 4 (by decide), hne 5 (by decide), hne 10 (by decide),
      hne 11 (by decide)⟩ (hne 7 (by decide)) (hne 8 (by decide)) ((entriesApplied w).ev.tallies[i])
    refine (ht.settle_tally (hne 14 (by decide))).trans (hstands.toReporting.deliverTrip u ?_)
    rw [hdelivered]
    exact hstands.deliverLimits _ _ rfl
  obtain ⟨hfirst, happliedLate, hdropped, happlications⟩ := h.tallies hnone hb htally
  have hgrows : (entriesApplied w).jw.fifo <+: u.jw.fifo := by
    rw [hdelivered]
    exact (fifo_grows _).deliverLimits _ _ (List.prefix_refl _)
  dsimp only
  rw [← hu, ← settle_deliverTrip u]
  refine ⟨?_, ?_, ⟨?_, ?_, ?_, ?_, fun hl => ?_, happliedLate, hdropped, happlications⟩, ⟨?_, fun hout => ?_⟩, ?_, hfirst⟩
  · rw [(ht.settle_kept hclose).1, ← hcp, ← hucp]
    simp
  · rw [settle_deliverTrip, ← hjw]
    exact hgrows.trans (settle_fifo_grows u)
  · rw [settle_deliverTrip, (settle_clock u).1, hutl]
  · rw [settle_deliverTrip, (settle_clock u).2.1, hupt]
  · rw [settle_deliverTrip, (settle_frame u).1, hucx]
  · rw [settle_deliverTrip, (settle_frame u).2.1, hupins]
  · rw [ht.settle_pendingCause (by decide) (by decide), hcause (by decide) (by decide) (by decide) (by decide)]
    exact hlate hl
  · refine ht.settle_starved ((hcause (by decide) (by decide) (by decide) (by decide)).trans hb.starved) ?_
    rw [deliverTrip_reported, hufu, entriesApplied_fu, (foldl_release_parts _ _).2.2.1, h.reported]
  · exact ht.settle_fetchAsked_of_rests (halike.grant_of_grant hbus) (by rw [halike.outstanding]; exact hout)
  · rw [ht.settle_parts.1, deliverTrip_admissionCount, husu, hsu]

/-- With no input ACTIVE the block escalates no hold, and the program goes on. -/
theorem Entered.taken_steady (hquiet : Quiet s) (hretiring : Retiring s) (hsteady : Unguarded s.gu) :
    (settle (applyDue w)).su = { w.su with agenda := s.su.agenda } := by
  obtain ⟨hsu, _, _, happlied⟩ := h.taking hnone hk hstaged
  have hgoes : (entriesApplied w).su.program ≠ .stopping := by
    rw [hsu]
    exact fun hstopping => absurd (h.program.symm.trans hstopping) (by decide)
  have ht := taking_tracking (h.tracking hquiet hretiring) (by rw [h.gu]; exact hsteady) hgoes []
  rw [happlied, ht.settle_parts.1, ← hsu]
  simp

end

end Sys2Proof.Machine
end

/-! O43: the steps that STEP_ADMISSION refuses, drops, applies at once, or that end the program. -/
section
namespace Sys2Proof.Machine

theorem fieldsOk_and_timesOk {p : Step} {k : StepKind} {s : State} (hkind : stepKindOf p.kind = some k) (hk : k ≠ .wait)
    (hgood : ¬BadStep s p) : fieldsOk k p s = true ∧ timesOk k p s = true := by
  rw [badStep_iff_of_kind hkind hk, not_or] at hgood
  exact ⟨(Bool.not_eq_false _).mp hgood.1, (Bool.not_eq_false _).mp hgood.2⟩

theorem policyFor_of_ne {k : StepKind} (hk : k ≠ .endProgram) (p : LatePolicy) : policyFor k p = p :=
  if_neg fun h => hk h.1

theorem admitStep_of_late {q : QueuedStep} {k : StepKind} {ek : EntryKind} {s : State}
    (hkind : stepKindOf q.step.kind = some k) (hentry : k.entryKind = some ek) (hfields : fieldsOk k q.step s = true)
    (htimes : timesOk k q.step s = true) (hlate : dueOf s q.step < s.tb.pt.toNat) :
    admitStep q s = admitLate q k ek s := by
  rw [admitStep_of_kind hkind (ne_wait_of_entry hentry), admitChecked_of_ok hfields htimes, admitValid_of_entry hentry,
    admitTimed, isLate_of_entry hentry, decide_eq_true hlate, if_pos rfl]

/-! ## A late step that is dropped (R56) -/

/-- The state that a dropped step leaves to the end of its event. -/
def dropped (q : QueuedStep) (k : StepKind) (s : State) : State :=
  setCursor (dueOf s q.step + cursorStep k q.step)
    (numberStep q none false (count .lateDropped 1 (reportLate q 2 s)))

theorem admitLate_of_drop {q : QueuedStep} {k : StepKind} {ek : EntryKind} {s : State} (hk : k ≠ .endProgram)
    (hdrop : s.su.latePolicy = .drop) : admitLate q k ek s = dropped q k s := by
  rw [admitLate, policyFor_of_ne hk, hdrop]
  dsimp only [admitDropped, dropped]
  rw [dueOf_congr (s := s) (by simp)]

theorem dropped_su {q : QueuedStep} {k : StepKind} {s : State} {rest : List QueuedStep} (hqueue : s.su.queue = q :: rest) :
    (dropped q k s).su = { s.su with
      queue := rest, admissionCount := s.su.admissionCount + 1#32,
      cursor := BitVec.ofNat 48 (dueOf s q.step + cursorStep k q.step) } := by
  have hreported : (count .lateDropped 1 (reportLate q 2 s)).su = s.su := by simp
  rw [dropped, setCursor_su, numberStep_su, hreported, hqueue]
  simp

theorem dropped_counted (q : QueuedStep) (k : StepKind) (s : State) : Counted 1 0 0 s (dropped q k s) := by
  have hcount : Counted 0 0 0 (reportLate q 2 s) (count .lateDropped 1 (reportLate q 2 s)) := count_counted 1 _ (by decide)
  have hnumbered : Counted 0 0 0 (count .lateDropped 1 (reportLate q 2 s))
      (count .stepsAdmitted 1 (count .lateDropped 1 (reportLate q 2 s))) := count_counted 1 _ (by decide)
  exact (((reportLate_counts q 2 s).then hcount).then hnumbered).then (.of_eq rfl rfl)

theorem dropped_tally (q : QueuedStep) (k : StepKind) (s : State) (i : Fin 16) :
    (dropped q k s).ev.tallies[i] =
      if i = 0 then satAdd (if i = 2 then satAdd (reportLate q 2 s).ev.tallies[i] 1 else (reportLate q 2 s).ev.tallies[i]) 1
      else if i = 2 then satAdd (reportLate q 2 s).ev.tallies[i] 1 else (reportLate q 2 s).ev.tallies[i] := by
  have hdropped := (reportLate q 2 s).ev.count_tally .lateDropped 1 i
  have hnumbered := ((reportLate q 2 s).ev.count .lateDropped 1).count_tally .stepsAdmitted 1 i
  rw [hdropped] at hnumbered
  exact hnumbered

section
variable {s : State} {q : QueuedStep} {rest : List QueuedStep} (hquiet : Quiet s) (hrested : Rested s)
  (hnone : applicationDue s = false) (hqueue : s.su.queue = q :: rest) (hmay : mayAdmit q s = true)
  (hretiring : Retiring s)
include hnone hqueue hmay

theorem exec_admission {u : State} (h : admitStep q s = u) : exec .stepAdmission s = .next (settle u) := by
  rw [exec_stepAdmission_of_mayAdmit hnone hqueue hmay, h]

include hquiet hrested hretiring

/-- A step that fails validation ends the program. -/
theorem admission_bad (h : admitStep q s = suFault .badStep s) :
    ∃ t, exec .stepAdmission s = .next t ∧ Aborted .faulted .badStep s t ∧ t.cp = s.cp :=
  ⟨_, exec_admission hnone hqueue hmay h, admission_aborted hmay hretiring hquiet.1 (.refl s) rfl rfl hrested.closeAsked _⟩

theorem admission_badStep (h : BadStep s q.step) :
    ∃ t, exec .stepAdmission s = .next t ∧ Aborted .faulted .badStep s t ∧ t.cp = s.cp := by
  refine admission_bad hquiet hrested hnone hqueue hmay hretiring ?_
  cases hkind : stepKindOf q.step.kind with
  | none => exact admitStep_of_unknown hkind s
  | some k =>
    by_cases hk : k = .wait
    · subst hk
      rw [admitStep_of_wait hkind, admitWaitStep, (badStep_iff_of_wait hkind s).mp h]
    · rw [admitStep_of_kind hkind hk, admitChecked_of_bad ((badStep_iff_of_kind hkind hk s).mp h)]

/-- A late step under LATE_STOP ends the program (R57). -/
theorem admission_lateStop {k : StepKind} {ek : EntryKind} (hkind : stepKindOf q.step.kind = some k)
    (hentry : k.entryKind = some ek) (hk : k ≠ .endProgram) (hfields : fieldsOk k q.step s = true)
    (htimes : timesOk k q.step s = true) (hlate : dueOf s q.step < s.tb.pt.toNat) (hstop : s.su.latePolicy = .stop) :
    ∃ t, exec .stepAdmission s = .next t ∧ Aborted .faulted .lateStop s t ∧
      (s.jw.offer (lateRecord s 0 (dueOf s q.step) q.step.tag)).fifo <+: t.jw.fifo ∧ OffersCountedWith 1 s t ∧
        pendingCause .late t = true ∧ t.ev.tallies[0] = s.ev.tallies[0] ∧ t.ev.tallies[1] = s.ev.tallies[1] ∧
          t.ev.tallies[2] = s.ev.tallies[2] ∧ t.cp = s.cp := by
  have hadmitted : admitStep q s = suFault .lateStop (reportLate q 0 s) := by
    rw [admitStep_of_late hkind hentry hfields htimes hlate, admitLate, policyFor_of_ne hk, hstop]
  obtain ⟨v, hv⟩ : ∃ v, v = reportLate q 0 s := ⟨_, rfl⟩
  have hsu : v.su = s.su := by simp [hv]
  have hfu : v.fu = s.fu := by simp [hv]
  have hbase : AbortBase s v := ⟨fun _ _ => by rw [hsu], by rw [hsu], by simp [hv], by simp [hv], by simp [hv],
    by simp [hv], by simp [hv], by simp [hv], by simp [hv]⟩
  have hcounted : Counted 1 0 0 s v := by rw [hv]; exact reportLate_counts q 0 s
  have hclose : CloseAsked v := closeAsked_of_counted hrested.closeAsked hcounted (by simp [hv])
  obtain ⟨kaborted, kcp⟩ := admission_aborted hmay hretiring hquiet.1 hbase hsu hfu hclose .lateStop
  have hrunning : v.su.program = .running := by rw [hsu]; exact (running_of_mayAdmit hmay).1
  have hvtrip : v.gu.tripNotice = none := by rw [hbase.gu]; exact hquiet.1
  have hvretiring : Retiring v := by unfold Retiring; rw [hfu]; exact hretiring
  have hfault : suFault .lateStop v = enterStopping .faulted .lateStop v := suFault_of_active (.inl hrunning) _
  have htally {i : Fin 16} (hi : i ≠ 4 ∧ i ≠ 5 ∧ i ≠ 10 ∧ i ≠ 11) (hlink : i ≠ 14) :
      (settle (suFault .lateStop v)).ev.tallies[i] = s.ev.tallies[i] := by
    rw [hfault]
    refine ((enterStopping_tracking hvtrip hvretiring .faulted .lateStop).settle_tally hlink).trans ?_
    refine (tally_stands hi _).enterStopping .faulted .lateStop v ?_
    rw [hv]
    exact reportLate_tally ⟨hi.2.2.1, hi.2.2.2⟩ q 0 s
  have hcp : v.cp = s.cp := by simp [hv]
  rw [← hv] at hadmitted
  refine ⟨_, exec_admission hnone hqueue hmay hadmitted, kaborted, ?_, ?_, ?_, htally (i := 0) (by decide) (by decide),
    htally (i := 1) (by decide) (by decide), htally (i := 2) (by decide) (by decide), kcp.trans hcp⟩
  · rw [hfault, ← reportLate_jw, ← hv]
    exact aborted_fifo _ _ v
  · rw [hfault]
    exact aborted_counted hcounted hvtrip hvretiring hclose _ _
  · rw [hfault]
    exact aborted_pending (by rw [hv]; exact reportLate_late q 0 s) _ _

/-- A late step under LATE_DROP (R56). -/
theorem admission_lateDrop {k : StepKind} {ek : EntryKind} (hkind : stepKindOf q.step.kind = some k)
    (hentry : k.entryKind = some ek) (hk : k ≠ .endProgram) (hfields : fieldsOk k q.step s = true)
    (htimes : timesOk k q.step s = true) (hlate : dueOf s q.step < s.tb.pt.toNat) (hdrop : s.su.latePolicy = .drop) :
    ∃ t, exec .stepAdmission s = .next t ∧
      t.su = { s.su with
        queue := rest, admissionCount := s.su.admissionCount + 1#32,
        cursor := BitVec.ofNat 48 (dueOf s q.step + cursorStep k q.step) } ∧
        t.jw.fifo = (s.jw.offer (lateRecord s 2 (dueOf s q.step) q.step.tag)).fifo ∧
          t.ev.tallies[1] = s.ev.tallies[1] ∧ t.ev.tallies[2] = satAdd s.ev.tallies[2] 1 ∧
            t.ev.tallies[3] = s.ev.tallies[3] ∧ OffersCounted 1 s t ∧ GoesOn s t ∧ pendingCause .late t = true ∧
              t.os = s.os ∧ t.gu = s.gu ∧ t.tb = s.tb ∧ t.cx = s.cx ∧ t.cp = s.cp ∧
                t.ev.tallies[0] = satAdd s.ev.tallies[0] 1 := by
  have hadmitted : admitStep q s = dropped q k s :=
    (admitStep_of_late hkind hentry hfields htimes hlate).trans (admitLate_of_drop hk hdrop)
  have hsu := dropped_su (k := k) hqueue
  have hcounted := dropped_counted q k s
  have htally := dropped_tally q k s
  have hjw : (dropped q k s).jw = s.jw.offer (lateRecord s 2 (dueOf s q.step) q.step.tag) := rfl
  have hcause (c : Cause) : pendingCause c (dropped q k s) = pendingCause c (reportLate q 2 s) := rfl
  have hfu : (dropped q k s).fu = s.fu.admitted q.slot false false := by
    change (reportLate q 2 s).fu.admitted q.slot false false = _
    simp
  obtain ⟨u, hu⟩ : ∃ u, u = dropped q k s := ⟨_, rfl⟩
  have hos : u.os = s.os := by simp [hu, dropped]
  have hgu : u.gu = s.gu := by simp [hu, dropped]
  have htb : u.tb = s.tb := by simp [hu, dropped]
  have hcx : u.cx = s.cx := by simp [hu, dropped]
  have hcp : u.cp = s.cp := by simp [hu, dropped]
  have hbp : u.bp = s.bp := by simp [hu, dropped]
  rw [← hu] at hadmitted hsu hcounted htally hjw hcause hfu
  obtain ⟨_, hdone⟩ := hretiring
  obtain ⟨_, kdone, kreported, klength⟩ := admitted_parts q.slot false false s.fu
  have ht : Tracking u := by
    obtain ⟨htrip, htracked, _⟩ := hquiet.tracking
    refine ⟨by rw [hgu]; exact htrip, ?_, fun _ => by rw [hfu, kdone]; exact hdone⟩
    rw [hfu, admitted_table]
    exact fun hst htable => htracked hst (List.map_eq_nil_iff.mp htable)
  have hclose : CloseAsked u := closeAsked_of_counted hrested.closeAsked hcounted (by rw [hbp])
  obtain ⟨ksu, kos, kgu, ktb, _⟩ := ht.settle_parts
  have kgoes : GoesOn s (settle u) := ht.goes_on hrested hbp ((hcause _).trans (reportLate_starved q 2 s))
    (by rw [hfu, kreported])
  have kcx : (settle u).cx = s.cx := by rw [(settle_frame u).1, hcx]
  refine ⟨_, exec_admission hnone hqueue hmay hadmitted, ksu.trans hsu, ht.settle_fifo.trans (by rw [hjw]),
    (ht.settle_tally (i := 1) (by decide)).trans ?_, (ht.settle_tally (i := 2) (by decide)).trans ?_,
    (ht.settle_tally (i := 3) (by decide)).trans ?_, ht.settle_counted hclose hcounted.offers, kgoes, ?_, kos.trans hos,
    kgu.trans hgu, ktb.trans htb, kcx, (ht.settle_kept hclose).1.trans hcp,
    (ht.settle_tally (i := 0) (by decide)).trans ?_⟩
  · exact (htally 1).trans (reportLate_tally (i := 1) (by decide) q 2 s)
  · exact (htally 2).trans (congrArg (satAdd · 1) (reportLate_tally (i := 2) (by decide) q 2 s))
  · exact (htally 3).trans (reportLate_tally (i := 3) (by decide) q 2 s)
  · rw [ht.settle_pendingCause (by decide) (by decide), hcause]
    exact reportLate_late q 2 s
  · exact (htally 0).trans (congrArg (satAdd · 1) (reportLate_tally (i := 0) (by decide) q 2 s))

/-- An END that is due later (R44, R88). -/
theorem admission_end_later (hkind : stepKindOf q.step.kind = some .endProgram)
    (htimes : timesOk .endProgram q.step s = true) (hlater : s.tb.pt.toNat < dueOf s q.step) :
    ∃ t, exec .stepAdmission s = .next t ∧
      t.su = { s.su with
        queue := [], admissionCount := s.su.admissionCount + 1#32, cursor := BitVec.ofNat 48 (dueOf s q.step),
        agenda := s.su.agenda ++ [entryOf q .endProgram (BitVec.ofNat 48 (dueOf s q.step)) s], admissionOpen := false,
        waiter := none } ∧
        t.fu.state ≠ .fetching ∧ t.fu.state ≠ .watching ∧ t.os = s.os ∧ t.gu = s.gu ∧ t.tb = s.tb ∧ t.cx = s.cx ∧
          t.cp = s.cp ∧ t.jw.fifo = s.jw.fifo ∧ t.ev.tallies[0] = satAdd s.ev.tallies[0] 1 := by
  have hadmitted := admitStep_of_later hkind rfl rfl htimes hlater
  obtain ⟨u, hu⟩ : ∃ u, u = entryAdmitted q .endProgram .endProgram (BitVec.ofNat 48 (dueOf s q.step)) s := ⟨_, rfl⟩
  have hsu := entryAdmitted_su_of_end (q := q) (ek := .endProgram) (Judged.refl s) (BitVec.ofNat 48 (dueOf s q.step))
  obtain ⟨hfu, hbp⟩ :=
    entryAdmitted_fu_of_end (q := q) (ek := .endProgram) (Judged.refl s) (BitVec.ofNat 48 (dueOf s q.step))
  obtain ⟨hos, hgu, htb, hcx, hcp, _, hjw, hev⟩ := entryAdmitted_frame (q := q) (k := .endProgram) (ek := .endProgram)
    (Judged.refl s) (BitVec.ofNat 48 (dueOf s q.step))
  rw [← hu] at hadmitted hsu hfu hbp hos hgu htb hcx hcp hjw hev
  obtain ⟨htable, hdone⟩ := hretiring
  obtain ⟨_, kdone, _, klength⟩ := admitted_parts q.slot true true s.fu
  obtain ⟨hfetching, hwatching, ldone, _, ltable⟩ := close_parts (s.fu.admitted q.slot true true)
  have ht : Tracking u := by
    refine ⟨by rw [hgu]; exact hquiet.1, fun _ hnil => htable ?_, fun _ => by rw [hfu, ldone, kdone]; exact hdone⟩
    rw [hfu, ltable] at hnil
    rw [hnil] at klength
    exact List.length_eq_zero_iff.mp klength.symm
  have hclose : CloseAsked u := by
    intro hclosing
    rw [hbp, (s.bp.discardIf_alike _).outstanding]
    exact hrested.closeAsked (by rw [← hjw]; exact hclosing)
  obtain ⟨ksu, kos, kgu, ktb, _⟩ := ht.settle_parts
  have kstate : (settle u).fu.state = (s.fu.admitted q.slot true true).close.state := by rw [ht.settle_table.2, hfu]
  refine ⟨_, exec_admission hnone hqueue hmay hadmitted, ksu.trans hsu, by rw [kstate]; exact hfetching,
    by rw [kstate]; exact hwatching, kos.trans hos, kgu.trans hgu, ktb.trans htb, ?_, (ht.settle_kept hclose).1.trans hcp,
    ht.settle_fifo.trans (by rw [hjw]), (ht.settle_tally (i := 0) (by decide)).trans ?_⟩
  · rw [(settle_frame u).1, hcx]
  · rw [hev]
    exact (s.ev.count_tally .stepsAdmitted 1 0).trans (if_pos rfl)

end

/-! ## Steps applied in their admission -/

/-- The step is applied now, in the words of the statements. -/
def AppliedNow (s : State) (p : Step) : Prop :=
  dueOf s p = s.tb.pt.toNat ∨
    (dueOf s p < s.tb.pt.toNat ∧ (s.su.latePolicy = .apply ∨ (p.kind.toNat = 8 ∧ s.su.latePolicy = .drop)))

theorem AppliedNow.policy {s : State} {p : Step} {k : StepKind} (h : AppliedNow s p) (hkind : stepKindOf p.kind = some k) :
    dueOf s p = s.tb.pt.toNat ∨ (dueOf s p < s.tb.pt.toNat ∧ policyFor k s.su.latePolicy = .apply) := by
  refine h.imp id fun ⟨hlate, hpolicy⟩ => ⟨hlate, ?_⟩
  unfold policyFor
  rcases hpolicy with happly | ⟨hend, hdrop⟩
  · rw [happly]
    exact ite_self _
  · have hk : k = .endProgram := by
      have hnumber := (stepKindOf_number hkind).symm.trans hend
      cases k <;> first | rfl | exact absurd hnumber (by decide)
    rw [if_pos ⟨hk, hdrop⟩]

/-- The agenda in which a step that is applied now finds its entry. -/
def nowEntered (q : QueuedStep) (k : StepKind) (ek : EntryKind) (s : State) : State :=
  entryAdmitted q k ek s.tb.pt (applyBase q s)

section
variable {s : State} {q : QueuedStep} {rest : List QueuedStep} (hnone : applicationDue s = false)
  (hqueue : s.su.queue = q :: rest) (hmay : mayAdmit q s = true)
include hnone hqueue hmay

theorem nowEntered_entered (k : StepKind) (ek : EntryKind) :
    Entered (entryOf q ek s.tb.pt s) s (applyBase q s) (nowEntered q k ek s) ∧ dueEntries s = [] :=
  have hrunning := (running_of_mayAdmit hmay).1
  ⟨entryAdmitted_entered (applyBase_judged q s) hrunning hqueue, dueEntries_eq_nil hrunning hnone⟩

theorem exec_now {k : StepKind} {ek : EntryKind} (hkind : stepKindOf q.step.kind = some k) (hentry : k.entryKind = some ek)
    (hgood : ¬BadStep s q.step) (hnow : AppliedNow s q.step) :
    exec .stepAdmission s = .next (settle (applyDue (nowEntered q k ek s))) := by
  obtain ⟨hfields, htimes⟩ := fieldsOk_and_timesOk hkind (ne_wait_of_entry hentry) hgood
  exact exec_admission hnone hqueue hmay (admitStep_of_now hkind hentry hfields htimes (hnow.policy hkind))

/-- A step that takes no block and is no END. -/
theorem now_plain {k : StepKind} {ek : EntryKind} (hquiet : Quiet s) (hrested : Rested s) (hretiring : Retiring s)
    (hk : k ≠ .endProgram) (hek : ek ≠ .endProgram) (hplain : (entryOf q ek s.tb.pt s).Plain s) :
    let e := entryOf q ek s.tb.pt s
    let w := nowEntered q k ek s
    let t := settle (applyDue w)
    Tracking (osBatch e.change.toList (entriesApplied w)) ∧ applyDue w = osBatch e.change.toList (entriesApplied w) ∧
      t.su = { s.su with
        queue := rest, admissionCount := s.su.admissionCount + 1#32,
        cursor := BitVec.ofNat 48 (dueOf s q.step + cursorStep k q.step),
        agenda := s.su.agenda ++ e.rekeyed.toList } ∧
        t.os = (osBatch e.change.toList s).os ∧ t.gu = (osBatch e.change.toList s).gu ∧ t.cp = s.cp ∧
          Others (dueOf s q.step < s.tb.pt.toNat) (if dueOf s q.step < s.tb.pt.toNat then 1 else 0) s t ∧
            t.ev.tallies[0] = satAdd s.ev.tallies[0] 1 ∧ GoesOn s t := by
  obtain ⟨hentered, hdue⟩ := nowEntered_entered hnone hqueue hmay k ek
  have hjudged := applyBase_judged q s
  obtain ⟨_, hbp⟩ := entryAdmitted_fu (q := q) (ek := ek) hjudged hk s.tb.pt
  obtain ⟨ht, happlied, ksu, kos, kgu, kcp, kothers, kfirst, kgoes⟩ :=
    hentered.applied hdue hjudged (fun hl => applyBase_late hl) hquiet hrested hretiring hbp hplain hek
  refine ⟨ht, happlied, ksu.trans ?_, kos, kgu, kcp, kothers, kfirst, kgoes⟩
  rw [nowEntered, entryAdmitted_su (ek := ek) hjudged hqueue hk s.tb.pt]

/-- A step whose entry moves no line, takes no block and is no END. -/
theorem now_record {k : StepKind} {ek : EntryKind} (hquiet : Quiet s) (hrested : Rested s) (hretiring : Retiring s)
    (hk : k ≠ .endProgram) (hek : ek ≠ .endProgram) (hplain : (entryOf q ek s.tb.pt s).Plain s)
    (hchange : (entryOf q ek s.tb.pt s).change = none) :
    let e := entryOf q ek s.tb.pt s
    let t := settle (applyDue (nowEntered q k ek s))
    t.jw.fifo = ((e.record s).elim (applyBase q s).jw fun x => (applyBase q s).jw.offer x).fifo ∧
      OffersCounted ((if dueOf s q.step < s.tb.pt.toNat then 1 else 0) + (e.record s).toList.length) s t ∧
        pendingCause .mark t = (e.marks || pendingCause .mark (applyBase q s)) := by
  obtain ⟨hentered, hdue⟩ := nowEntered_entered hnone hqueue hmay k ek
  obtain ⟨ht, happlied, _⟩ := now_plain (ek := ek) hnone hqueue hmay hquiet hrested hretiring hk hek hplain
  rw [hchange, Option.toList_none, osBatch_nil] at ht happlied
  dsimp only
  rw [happlied]
  exact hentered.records hdue (applyBase_judged q s) hrested (applies_going _) ht
    (by rw [(entriesApplied_frame _).2.2.2.2.1]; exact .refl _) hplain

/-- Every step that is applied in its admission is numbered and counted. -/
theorem now_numbered {k : StepKind} {ek : EntryKind} (hquiet : Quiet s) (hrested : Rested s) (hretiring : Retiring s)
    (hentry : k.entryKind = some ek) : Numbered s (settle (applyDue (nowEntered q k ek s))) := by
  obtain ⟨hentered, hdue⟩ := nowEntered_entered hnone hqueue hmay k ek
  have hjudged := applyBase_judged q s
  by_cases hk : k = .endProgram
  · subst hk
    obtain rfl : EntryKind.endProgram = ek := Option.some.inj hentry
    obtain ⟨ksu, _, _, _, _, _, _, kfirst⟩ :=
      hentered.ended hdue hjudged (fun hl => applyBase_late hl) hquiet hrested hretiring rfl
    refine ⟨?_, kfirst⟩
    rw [ksu, nowEntered, entryAdmitted_su_of_end hjudged s.tb.pt]
    split <;> rfl
  · have hek : ek ≠ .endProgram := by
      rintro rfl
      exact hk ((StepKind.entryKind_eq_endProgram hentry).mp rfl)
    by_cases hplain : (entryOf q ek s.tb.pt s).Plain s
    · obtain ⟨_, _, ksu, _, _, _, _, kfirst, _⟩ :=
        now_plain (ek := ek) hnone hqueue hmay hquiet hrested hretiring hk hek hplain
      exact ⟨by rw [ksu], kfirst⟩
    · obtain ⟨hsome, hlimits⟩ := not_or.mp hplain
      obtain ⟨l, hl⟩ := Option.ne_none_iff_exists'.mp hsome
      obtain ⟨_, hbp⟩ := entryAdmitted_fu (q := q) (ek := ek) hjudged hk s.tb.pt
      obtain ⟨_, _, _, _, kcount, kfirst⟩ := hentered.taken hdue (not_not.mp hlimits) hl hjudged
        (fun hl => applyBase_late hl) hrested hretiring hbp
      refine ⟨?_, kfirst⟩
      rw [kcount, nowEntered, entryAdmitted_su (ek := ek) hjudged hqueue hk s.tb.pt]

end

end Sys2Proof.Machine
end

/-! O43, put together. -/
section
namespace Sys2Proof.Machine

theorem Admits.numbered {s u : State} {q : QueuedStep} {b : Bool} (hquiet : Quiet s) (hrested : Rested s)
    (h : Admits q b s u) (hsu : u.su.admissionCount = s.su.admissionCount + 1#32) : Numbered s (settle u) :=
  ⟨by rw [(h.tracking hquiet).settle_parts.1, hsu], (h.settled hquiet hrested).1.1⟩

section
variable {s : State} {q : QueuedStep} {rest : List QueuedStep} (hquiet : Quiet s) (hrested : Rested s)
  (hnone : applicationDue s = false) (hqueue : s.su.queue = q :: rest) (hmay : mayAdmit q s = true)
  (hretiring : Retiring s)
include hquiet hrested hnone hqueue hmay hretiring

/-- A valid step that LATE_STOP does not turn away is numbered and counted (R49). -/
theorem admission_numbered (hgood : ¬BadStep s q.step)
    (hadmits : ¬(q.step.kind.toNat ≠ 4 ∧ q.step.kind.toNat ≠ 5 ∧ dueOf s q.step < s.tb.pt.toNat ∧
      s.su.latePolicy = .stop)) :
    ∃ t, exec .stepAdmission s = .next t ∧ Numbered s t := by
  cases hkind : stepKindOf q.step.kind with
  | none => exact absurd (badStep_of_unknown hkind s) hgood
  | some k =>
    have hnumber := stepKindOf_number hkind
    cases hentry : k.entryKind with
    | none =>
      by_cases hk : k = .wait
      · subst hk
        obtain ⟨w, hw⟩ := Option.ne_none_iff_exists'.mp fun h => hgood ((badStep_iff_of_wait hkind s).mpr h)
        have hadmits : Admits q false s (admitWait q w s) := ⟨rfl, rfl, rfl, rfl, rfl, rfl, rfl, rfl, rfl, rfl⟩
        exact ⟨_, exec_admission hnone hqueue hmay (admitStep_of_waiter hkind hw),
          Admits.numbered hquiet hrested hadmits rfl⟩
      · have hanchor : k = .anchor := by
          cases k <;> simp_all [StepKind.entryKind]
        subst hanchor
        obtain ⟨_, htimes⟩ := fieldsOk_and_timesOk hkind hk hgood
        have hrange := dueOf_lt_of_timesOk htimes
        have hadmits : Admits q false s (admitAnchor q s) := ⟨rfl, rfl, rfl, rfl, rfl, rfl, rfl, rfl, rfl, rfl⟩
        exact ⟨_, exec_admission hnone hqueue hmay (admitStep_of_anchor hkind (by omega)),
          Admits.numbered hquiet hrested hadmits rfl⟩
    | some ek =>
      obtain ⟨hfields, htimes⟩ := fieldsOk_and_timesOk hkind (ne_wait_of_entry hentry) hgood
      rcases Nat.lt_trichotomy (dueOf s q.step) s.tb.pt.toNat with hlate | hnow | hlater
      · by_cases hnow : AppliedNow s q.step
        · exact ⟨_, exec_now hnone hqueue hmay hkind hentry hgood hnow,
            now_numbered hnone hqueue hmay hquiet hrested hretiring hentry⟩
        · have hpolicy : s.su.latePolicy ≠ .apply := fun happly => hnow (.inr ⟨hlate, .inl happly⟩)
          have hjudged : q.step.kind.toNat ≠ 4 ∧ q.step.kind.toNat ≠ 5 := by
            rw [hnumber]
            cases k <;> simp_all [StepKind.entryKind, StepKind.number]
          have hdrop : s.su.latePolicy = .drop := by
            cases hp : s.su.latePolicy with
            | apply => exact absurd hp hpolicy
            | drop => rfl
            | stop => exact absurd ⟨hjudged.1, hjudged.2, hlate, hp⟩ hadmits
          have hk : k ≠ .endProgram := by
            rintro rfl
            exact hnow (.inr ⟨hlate, .inr ⟨hnumber, hdrop⟩⟩)
          obtain ⟨t, hexec, ksu, _, _, _, _, _, _, _, _, _, _, _, _, kfirst⟩ :=
            admission_lateDrop hquiet hrested hnone hqueue hmay hretiring hkind hentry hk hfields htimes hlate hdrop
          exact ⟨t, hexec, by rw [ksu], kfirst⟩
      · exact ⟨_, exec_now hnone hqueue hmay hkind hentry hgood (.inl hnow),
          now_numbered hnone hqueue hmay hquiet hrested hretiring hentry⟩
      · by_cases hk : k = .endProgram
        · subst hk
          obtain ⟨t, hexec, ksu, _, _, _, _, _, _, _, _, kfirst⟩ :=
            admission_end_later hquiet hrested hnone hqueue hmay hretiring hkind htimes hlater
          exact ⟨t, hexec, by rw [ksu], kfirst⟩
        · have hadmitted := admitStep_of_later hkind hentry hfields htimes hlater
          rw [entryAdmitted, if_neg hk, beq_eq_false_iff_ne.mpr hk] at hadmitted
          have hadmits : Admits q true s (setCursor (dueOf s q.step + cursorStep k q.step)
              (numberStep q (some (entryOf q ek (BitVec.ofNat 48 (dueOf s q.step)) s)) false s)) :=
            ⟨rfl, rfl, rfl, rfl, rfl, rfl, rfl, rfl, rfl, rfl⟩
          exact ⟨_, exec_admission hnone hqueue hmay hadmitted,
            Admits.numbered hquiet hrested hadmits rfl⟩

/-- A SET that is applied now. -/
theorem admission_set_now (hkind : stepKindOf q.step.kind = some .set) (hgood : ¬BadStep s q.step)
    (hnow : AppliedNow s q.step) :
    ∃ t, exec .stepAdmission s = .next t ∧
      t.su = { s.su with
        queue := rest, admissionCount := s.su.admissionCount + 1#32, cursor := BitVec.ofNat 48 (dueOf s q.step),
        agenda := s.su.agenda ++ [] } ∧
        t.os = (osBatch [{ mask := q.step.mask, levels := q.step.pattern }] s).os ∧ t.cp = s.cp ∧
          Others (dueOf s q.step < s.tb.pt.toNat) (if dueOf s q.step < s.tb.pt.toNat then 1 else 0) s t ∧
            GoesOn s t ∧ t.tb = s.tb := by
  have hplain : (entryOf q .set s.tb.pt s).Plain s := .inr nofun
  obtain ⟨ht, happlied, ksu, kos, _, kcp, kothers, _, kgoes⟩ := now_plain (k := .set) (ek := .set) hnone hqueue hmay hquiet hrested
    hretiring nofun nofun hplain
  have ktb : (settle (applyDue (nowEntered q .set .set s))).tb = s.tb := by
    obtain ⟨hentered, _⟩ := nowEntered_entered hnone hqueue hmay .set .set
    rw [happlied, ht.settle_parts.2.2.2.1, (osBatch_frame _ _).1, (entriesApplied_frame _).1, hentered.tb]
  exact ⟨_, exec_now hnone hqueue hmay hkind rfl hgood hnow, ksu, kos, kcp, kothers, kgoes, ktb⟩

end

theorem notBad_of_ok {s : State} {p : Step} {k : StepKind} (hkind : stepKindOf p.kind = some k) (hk : k ≠ .wait)
    (hfields : fieldsOk k p s = true) (htimes : timesOk k p s = true) : ¬BadStep s p := by
  rw [badStep_iff_of_kind hkind hk, hfields, htimes]
  simp

/-- A SET due at PT is in range. -/
theorem set_now_timesOk {s : State} {p : Step} (hdue : dueOf s p = s.tb.pt.toNat) : timesOk .set p s = true := by
  have hpt := s.tb.pt.isLt
  by_contra hbad
  rcases (timesOk_eq_false_iff .set p s).mp ((Bool.not_eq_true _).mp hbad) with h | h
  · simp only [spanOf] at h
    omega
  · exact absurd h.1.2.2 (by omega)

/-- Settles O43: an invalid step, a late one under each policy, and a valid one of each kind that is applied now. -/
theorem stepsRefusedLateAndLast : Obligations.StepsRefusedLateAndLast := by
  intro s q rest hquiet hrested hnone hqueue hmay hretiring
  refine ⟨fun hkind => ?_, fun k hkind hk hbad => ?_, fun hkind hw => ?_, fun k ek hkind hentry hend hfields htimes hlate =>
    ⟨fun hdrop => ?_, fun hstop => ?_, fun happly hk => ?_⟩, fun hkind hfields hdue => ?_, fun hkind htimes hlater => ?_, ?_⟩
  · exact admission_badStep hquiet hrested hnone hqueue hmay hretiring (badStep_of_unknown hkind s)
  · exact admission_badStep hquiet hrested hnone hqueue hmay hretiring ((badStep_iff_of_kind hkind hk s).mpr hbad)
  · exact admission_badStep hquiet hrested hnone hqueue hmay hretiring ((badStep_iff_of_wait hkind s).mpr hw)
  · obtain ⟨t, hexec, ksu, kfifo, kapplied, kdropped, kapplications, kcounted, kgoes, klate, kos, kgu, ktb, kcx, kcp, _⟩ :=
      admission_lateDrop hquiet hrested hnone hqueue hmay hretiring hkind hentry hend hfields htimes hlate hdrop
    exact ⟨t, hexec, ksu.trans (by rw [cursorStep_eq]), kfifo, kapplied, kdropped, kapplications, kcounted, kgoes, klate,
      kos, kgu, ktb, kcx, kcp⟩
  · exact admission_lateStop hquiet hrested hnone hqueue hmay hretiring hkind hentry hend hfields htimes hlate hstop
  · subst hk
    obtain ⟨t, hexec, ksu, kos, kcp, ⟨_, _, kcx, _, klate, _⟩, _, ktb⟩ := admission_set_now hquiet hrested hnone hqueue hmay
      hretiring hkind (notBad_of_ok hkind nofun hfields htimes) (.inr ⟨hlate, .inl happly⟩)
    exact ⟨t, hexec, ksu.trans (by rw [List.append_nil]), kos, klate hlate, ktb, kcx, kcp⟩
  · obtain ⟨t, hexec, ksu, kos, kcp, ⟨_, _, kcx, _⟩, _, ktb⟩ := admission_set_now hquiet hrested hnone hqueue hmay hretiring
      hkind (notBad_of_ok hkind nofun hfields (set_now_timesOk hdue)) (.inl hdue)
    refine ⟨t, hexec, ksu.trans ?_, kos, ktb, kcx, kcp⟩
    rw [List.append_nil, hdue, BitVec.ofNat_toNat, BitVec.setWidth_eq]
  · obtain ⟨t, hexec, ksu, hfetching, hwatching, kos, kgu, ktb, kcx, kcp, kfifo, _⟩ :=
      admission_end_later hquiet hrested hnone hqueue hmay hretiring hkind htimes hlater
    refine ⟨t, hexec, by rw [ksu]; exact (running_of_mayAdmit hmay).1, by rw [ksu], by rw [ksu], ?_, fun e he => ?_,
      hfetching, hwatching, kos, kgu, ktb, kcx, kcp, kfifo⟩
    · rw [ksu, List.length_append, List.length_singleton]
    · rw [ksu, List.getLast?_concat] at he
      obtain rfl := Option.some.inj he
      exact ⟨rfl, rfl⟩
  · have hjw := applyBase_jw q s
    refine ⟨admission_badStep hquiet hrested hnone hqueue hmay hretiring,
      admission_numbered hquiet hrested hnone hqueue hmay hretiring, fun hgood hnow => ?_⟩
    replace hnow : AppliedNow s q.step := hnow
    refine ⟨fun hk => ?_, fun hk => ?_, fun hk => ?_, fun hk => ?_, fun hk hstaged => ?_, fun b hk hstaged => ?_, fun hk => ?_⟩
    · have hkind : stepKindOf q.step.kind = some .set := stepKindOf_of_number hk
      obtain ⟨t, hexec, ksu, kos, kcp, kothers, kgoes, _⟩ :=
        admission_set_now hquiet hrested hnone hqueue hmay hretiring hkind hgood hnow
      exact ⟨t, hexec, ksu, kos, kcp, kothers, kgoes⟩
    · have hkind : stepKindOf q.step.kind = some .pulse := stepKindOf_of_number hk
      obtain ⟨_, _, ksu, kos, _, kcp, kothers, _, kgoes⟩ := now_plain (k := .pulse) (ek := .pulseLead) hnone hqueue hmay
        hquiet hrested hretiring nofun nofun (.inr nofun)
      exact ⟨_, exec_now hnone hqueue hmay hkind rfl hgood hnow, ksu, kos, kcp, kothers, kgoes⟩
    · have hkind : stepKindOf q.step.kind = some .train := stepKindOf_of_number hk
      obtain ⟨_, _, ksu, kos, _, kcp, kothers, _, kgoes⟩ := now_plain (k := .train) (ek := .trainLead) hnone hqueue hmay
        hquiet hrested hretiring nofun nofun (.inr nofun)
      exact ⟨_, exec_now hnone hqueue hmay hkind rfl hgood hnow, ksu, kos, kcp, kothers, kgoes⟩
    · have hkind : stepKindOf q.step.kind = some .mark := stepKindOf_of_number hk
      obtain ⟨_, _, ksu, kos, kgu, kcp, kothers, _, kgoes⟩ := now_plain (k := .mark) (ek := .mark) hnone hqueue hmay
        hquiet hrested hretiring nofun nofun (.inr nofun)
      obtain ⟨kfifo, kcounted, kmark⟩ := now_record (k := .mark) (ek := .mark) hnone hqueue hmay hquiet hrested hretiring
        nofun nofun (.inr nofun) rfl
      rw [hjw] at kfifo
      refine ⟨_, exec_now hnone hqueue hmay hkind rfl hgood hnow, ksu, kfifo, fun hnotify => ?_, kcounted, kos, kgu, kcp,
        kothers, kgoes⟩
      have hmarks : (entryOf q .mark s.tb.pt s).marks = true := hnotify
      rw [kmark, hmarks, Bool.true_or]
    · have hkind : stepKindOf q.step.kind = some .applyLimits := stepKindOf_of_number hk
      obtain ⟨_, _, ksu, kos, kgu, kcp, kothers, _, kgoes⟩ := now_plain (k := .applyLimits) (ek := .applyLimits) hnone hqueue
        hmay hquiet hrested hretiring nofun nofun (.inl hstaged)
      obtain ⟨kfifo, kcounted, _⟩ := now_record (k := .applyLimits) (ek := .applyLimits) hnone hqueue hmay hquiet hrested
        hretiring nofun nofun (.inl hstaged) rfl
      rw [hjw] at kfifo
      exact ⟨_, exec_now hnone hqueue hmay hkind rfl hgood hnow, ksu, kfifo, kcounted, kos, kgu, kcp, kothers, kgoes⟩
    · have hkind : stepKindOf q.step.kind = some .applyLimits := stepKindOf_of_number hk
      obtain ⟨hentered, hdue⟩ := nowEntered_entered hnone hqueue hmay .applyLimits .applyLimits
      have hjudged := applyBase_judged q s
      obtain ⟨_, hbp⟩ := entryAdmitted_fu (q := q) (k := .applyLimits) (ek := .applyLimits) hjudged nofun s.tb.pt
      obtain ⟨kcp, kfifo, kothers, kgoes, _, _⟩ := hentered.taken hdue rfl hstaged hjudged (fun hl => applyBase_late hl)
        hrested hretiring hbp
      rw [hjw] at kfifo
      refine ⟨_, exec_now hnone hqueue hmay hkind rfl hgood hnow, kcp, kfifo, kothers, kgoes, fun hsteady => ?_⟩
      rw [hentered.taken_steady hdue rfl hstaged hquiet hretiring hsteady, nowEntered,
        entryAdmitted_su (k := .applyLimits) (ek := .applyLimits) hjudged hqueue nofun s.tb.pt]
      simp [cursorStep]
    · have hkind : stepKindOf q.step.kind = some .endProgram := stepKindOf_of_number hk
      obtain ⟨hentered, hdue⟩ := nowEntered_entered hnone hqueue hmay .endProgram .endProgram
      have hjudged := applyBase_judged q s
      obtain ⟨ksu, kfifo, kcounted, kos, kgu, kcp, kothers, _⟩ := hentered.ended hdue hjudged (fun hl => applyBase_late hl)
        hquiet hrested hretiring rfl
      rw [hjw] at kfifo
      refine ⟨_, exec_now hnone hqueue hmay hkind rfl hgood hnow, ksu.trans ?_, kfifo, kcounted, kos, kgu, kcp, kothers⟩
      rw [nowEntered, entryAdmitted_su_of_end hjudged s.tb.pt]
      by_cases hempty : s.su.agenda = [] <;> simp [hempty]

end Sys2Proof.Machine
end

/-! The Device Context Block and the Limits Block (12.3, 12.4): what the part reads of their bytes, and what it refuses. -/
section
namespace Sys2Proof.Machine

/-! ## Bytes and bits -/

theorem leAt_one_lt (d : List Byte) (i : Nat) : leAt d i 1 < 256 := by
  rw [leAt_one]
  exact (byteAt d i).isLt

theorem byteAt_eq_one_iff (d : List Byte) (i : Nat) : byteAt d i = 1#8 ↔ leAt d i 1 = 1 := by
  rw [leAt_one, ← BitVec.toNat_inj]
  rfl

theorem byteAt_getLsbD (d : List Byte) (i b : Nat) : (byteAt d i).getLsbD b = (leAt d i 1).testBit b := by
  rw [leAt_one, BitVec.testBit_toNat]

theorem half_getLsbD (d : List Byte) (i b : Nat) : (half d i).getLsbD b = (leAt d i 2).testBit b := by
  rw [← half_toNat, BitVec.testBit_toNat]

theorem lineField_eq (d : List Byte) (n : Fin 16) (lo : Nat) : lineField d n lo = lineBits d n.val lo := by
  rw [lineField, lineBits, leAt_one, BitVec.extractLsb'_toNat, Nat.shiftRight_eq_div_pow]

theorem lineBits_lt (d : List Byte) (n b : Nat) : lineBits d n b < 4 := Nat.mod_lt _ (by decide)

/-! ## The values of 12.4 -/

theorem tickSourceOf_isSome (n : Nat) : (tickSourceOf n).isSome = true ↔ n ≤ 1 :=
  match n with
  | 0 | 1 => by decide
  | n + 2 => by simp [tickSourceOf]

theorem tickSourceOf_external (n : Nat) : (tickSourceOf n).getD .internal = .external ↔ n = 1 :=
  match n with
  | 0 | 1 => by decide
  | n + 2 => by simp [tickSourceOf]

theorem edgeOf_isSome (n : Nat) : (edgeOf n).isSome = true ↔ n ≤ 1 :=
  match n with
  | 0 | 1 => by decide
  | n + 2 => by simp [edgeOf]

theorem edgeOf_fall (n : Nat) : (edgeOf n).getD .rise = .fall ↔ n = 1 :=
  match n with
  | 0 | 1 => by decide
  | n + 2 => by simp [edgeOf]

theorem latePolicyOf_isSome (n : Nat) : (latePolicyOf n).isSome = true ↔ n ≤ 2 :=
  match n with
  | 0 | 1 | 2 => by decide
  | n + 3 => by simp [latePolicyOf]

theorem latePolicyOf_getD (n : Nat) :
    ((latePolicyOf n).getD .apply = .drop ↔ n = 1) ∧ ((latePolicyOf n).getD .apply = .stop ↔ n = 2) :=
  match n with
  | 0 | 1 | 2 => by decide
  | n + 3 => by simp [latePolicyOf]

theorem roleOf_isSome (n : Nat) : (roleOf n).isSome = true ↔ n ≤ 1 :=
  match n with
  | 0 | 1 => by decide
  | n + 2 => by simp [roleOf]

theorem roleOf_sequenced (n : Nat) : (roleOf n).getD .unused = .sequenced ↔ n = 1 :=
  match n with
  | 0 | 1 => by decide
  | n + 2 => by simp [roleOf]

theorem levelOf_isSome (n : Nat) : (levelOf n).isSome = true ↔ n ≤ 2 :=
  match n with
  | 0 | 1 | 2 => by decide
  | n + 3 => by simp [levelOf]

theorem levelOf_high (n : Nat) : (levelOf n).getD .released = .high ↔ n = 1 :=
  match n with
  | 0 | 1 | 2 => by decide
  | n + 3 => by simp [levelOf]

/-- A value above 2 reads RELEASED too, and is refused. -/
theorem levelOf_released {n : Nat} (h : n ≤ 2) : (levelOf n).getD .released = .released ↔ n = 2 :=
  match n with
  | 0 | 1 | 2 => by decide
  | n + 3 => absurd h (by omega)

theorem stopLevelOf_isSome (n : Nat) : (stopLevelOf n).isSome = true ↔ n ≤ 3 :=
  match n with
  | 0 | 1 | 2 | 3 => by decide
  | n + 4 => by simp [stopLevelOf]

theorem stopLevelOf_getD (n : Nat) :
    ((stopLevelOf n).getD .keep = .low ↔ n = 1) ∧ ((stopLevelOf n).getD .keep = .high ↔ n = 2) ∧
      ((stopLevelOf n).getD .keep = .released ↔ n = 3) :=
  match n with
  | 0 | 1 | 2 | 3 => by decide
  | n + 4 => by simp [stopLevelOf]

theorem guardActionOf_isSome (n : Nat) : (guardActionOf n).isSome = true ↔ n ≤ 3 :=
  match n with
  | 0 | 1 | 2 | 3 => by decide
  | n + 4 => by simp [guardActionOf]

/-- A value above 3 names no action, and is refused. -/
theorem guardActionOf_code {n : Nat} (h : n ≤ 3) : ((guardActionOf n).getD .note).code = n :=
  match n with
  | 0 | 1 | 2 | 3 => by decide
  | n + 4 => absurd h (by omega)

theorem releasePolicyOf_isSome (n : Nat) : (releasePolicyOf n).isSome = true ↔ n ≤ 1 :=
  match n with
  | 0 | 1 => by decide
  | n + 2 => by simp [releasePolicyOf]

theorem releasePolicyOf_onNextAction (n : Nat) : (releasePolicyOf n).getD .onDeassert = .onNextAction ↔ n = 1 :=
  match n with
  | 0 | 1 => by decide
  | n + 2 => by simp [releasePolicyOf]

theorem captureModeOf_isSome (n : Nat) : (captureModeOf n).isSome = true ↔ n ≤ 3 :=
  match n with
  | 0 | 1 | 2 | 3 => by decide
  | n + 4 => by simp [captureModeOf]

theorem captureModeOf_getD (n : Nat) :
    ((captureModeOf n).getD .edge = .interval ↔ n = 1) ∧ ((captureModeOf n).getD .edge = .width ↔ n = 2) ∧
      ((captureModeOf n).getD .edge = .cycle ↔ n = 3) :=
  match n with
  | 0 | 1 | 2 | 3 => by decide
  | n + 4 => by simp [captureModeOf]

theorem captureModeOf_edge {n : Nat} (h : n ≤ 3) : (captureModeOf n).getD .edge = .edge ↔ n = 0 :=
  match n with
  | 0 | 1 | 2 | 3 => by decide
  | n + 4 => absurd h (by omega)

theorem edgeSelectOf_isSome (n : Nat) : (edgeSelectOf n).isSome = true ↔ n ≤ 2 :=
  match n with
  | 0 | 1 | 2 => by decide
  | n + 3 => by simp [edgeSelectOf]

theorem edgeSelectOf_getD (n : Nat) :
    ((edgeSelectOf n).getD .rise = .fall ↔ n = 1) ∧ ((edgeSelectOf n).getD .rise = .both ↔ n = 2) :=
  match n with
  | 0 | 1 | 2 => by decide
  | n + 3 => by simp [edgeSelectOf]

theorem filterLengthOk_iff (n : Nat) : filterLengthOk n = true ↔ ¬badFilter n := by
  simp only [filterLengthOk, Bool.or_eq_true, beq_iff_eq, badFilter]
  omega

theorem inRange_iff (lo hi n : Nat) : inRange lo hi n = true ↔ lo ≤ n ∧ n ≤ hi := by
  rw [inRange, Bool.and_eq_true, decide_eq_true_iff, decide_eq_true_iff]

/-! ## The parts of a context -/

theorem contextOf_line (d : List Byte) (n : Fin 16) : (contextOf d).lines[n] = lineConfigOf d n := by simp [contextOf]

theorem contextOf_input (d : List Byte) (n : Fin 4) : (contextOf d).inputs[n] = inputConfigOf d n := by simp [contextOf]

theorem contextOf_channel (d : List Byte) (n : Fin 16) : (contextOf d).channels[n] = channelConfigOf d n := by
  simp [contextOf]

theorem line_sequenced_iff (d : List Byte) (n : Fin 16) :
    (contextOf d).lines[n].role = .sequenced ↔ lineBits d n.val 0 = 1 := by
  rw [contextOf_line, ← lineField_eq]
  exact roleOf_sequenced _

theorem line_idle_high_iff (d : List Byte) (n : Fin 16) :
    (contextOf d).lines[n].idle = .high ↔ lineBits d n.val 2 = 1 := by
  rw [contextOf_line, ← lineField_eq]
  exact levelOf_high _

theorem line_safe_high_iff (d : List Byte) (n : Fin 16) :
    (contextOf d).lines[n].safe = .high ↔ lineBits d n.val 6 = 1 := by
  rw [contextOf_line, ← lineField_eq]
  exact levelOf_high _

theorem line_stop_high_iff (d : List Byte) (n : Fin 16) :
    (contextOf d).lines[n].stop = .high ↔ lineBits d n.val 4 = 2 := by
  rw [contextOf_line, ← lineField_eq]
  exact (stopLevelOf_getD _).2.1

/-! ## The points of R174 -/

/-- The first five points refuse the block. -/
def HeaderRefused (d : List Byte) : Prop :=
  leAt d 0 1 ≠ 1 ∨ leAt d 208 1 ≠ 1 ∨
    1 < leAt d 8 1 ∨ 1 < leAt d 9 1 ∨ leAt d 10 2 = 0 ∨ 1024 < leAt d 10 2 ∨
    2 < leAt d 12 1 ∨
    leAt d 16 4 = 0 ∨ 2 ^ 24 ≤ leAt d 16 4 ∨ leAt d 20 4 = 0 ∨ 2 ^ 24 ≤ leAt d 20 4 ∨ 2 ^ 24 ≤ leAt d 24 4 ∨
    leAt d 32 8 % 512 ≠ 0 ∨ leAt d 14 2 < 2 ∨ 256 < leAt d 14 2 ∨ 2 ^ 64 < leAt d 32 8 + 512 * leAt d 14 2 ∨
    leAt d 13 1 = 0

/-- A field of the line names nothing. -/
def LineRefused (d : List Byte) (n : Fin 16) : Prop :=
  1 < lineBits d n.val 0 ∨ lineBits d n.val 2 = 3 ∨ lineBits d n.val 6 = 3

/-- The pair is enabled and breaks a pair rule (R115). -/
def PairRefused (d : List Byte) (k : Fin 8) : Prop :=
  (leAt d 64 1).testBit k.val = true ∧
    (lineBits d (2 * k.val) 0 = 0 ∨ lineBits d (2 * k.val + 1) 0 = 0 ∨ lineBits d (2 * k.val) 6 = 1 ∨
      lineBits d (2 * k.val + 1) 6 = 1 ∨ (lineBits d (2 * k.val) 2 = 1 ∧ lineBits d (2 * k.val + 1) 2 = 1) ∨
        (lineBits d (2 * k.val) 4 = 2 ∧ lineBits d (2 * k.val + 1) 4 = 2))

/-- A field of the fault input is refused. -/
def InputRefused (d : List Byte) (n : Fin 4) : Prop :=
  3 < leAt d (74 + 8 * n.val) 1 ∨ 1 < leAt d (75 + 8 * n.val) 1 ∨ badFilter (leAt d (73 + 8 * n.val) 1) ∨
    ∃ m : Fin 16, (leAt d (76 + 8 * n.val) 2).testBit m.val = true ∧ lineBits d m.val 0 = 0

/-- A field of the channel is refused (R142). -/
def ChannelRefused (d : List Byte) (n : Fin 16) : Prop :=
  badFilter (leAt d (105 + 6 * n.val) 1) ∨ 3 < leAt d (106 + 6 * n.val) 1 ∨
    2 < leAt d (107 + 6 * n.val) 1 ∨ leAt d (108 + 6 * n.val) 2 = 0 ∨ 256 < leAt d (108 + 6 * n.val) 2 ∨
    (leAt d (106 + 6 * n.val) 1 ≠ 0 ∧ leAt d (107 + 6 * n.val) 1 = 2)

theorem dcbRefused_iff (d : List Byte) :
    DcbRefused d ↔ HeaderRefused d ∨ (∃ n, LineRefused d n) ∨ (∃ k, PairRefused d k) ∨ (∃ n, InputRefused d n) ∨
      ∃ n, ChannelRefused d n := by
  simp only [DcbRefused, HeaderRefused, LineRefused, PairRefused, InputRefused, ChannelRefused, or_assoc]

theorem headerOk_iff (d : List Byte) : dcbHeaderOk d = true ↔ ¬HeaderRefused d := by
  have hbatch := leAt_one_lt d 13
  simp only [dcbHeaderOk, limitsFormatOk, HeaderRefused, Bool.and_eq_true, beq_iff_eq, decide_eq_true_iff,
    byteAt_eq_one_iff, tickSourceOf_isSome, edgeOf_isSome, latePolicyOf_isSome, inRange_iff, half_toNat, word_toNat,
    long_toNat, ← leAt_one]
  omega

theorem lineOk_iff (d : List Byte) (n : Fin 16) : lineOk d n = true ↔ ¬LineRefused d n := by
  have hidle := lineBits_lt d n.val 2
  have hstop := lineBits_lt d n.val 4
  have hsafe := lineBits_lt d n.val 6
  simp only [lineOk, LineRefused, Bool.and_eq_true, roleOf_isSome, levelOf_isSome, stopLevelOf_isSome, lineField_eq]
  omega

theorem pairOk_iff {d : List Byte} (hlines : ∀ n, ¬LineRefused d n) (k : Fin 8) :
    pairOk (contextOf d) k = true ↔ ¬PairRefused d k := by
  have hlower := hlines (lowerLine k)
  have hupper := hlines (upperLine k)
  have hpaired : (contextOf d).paired.getLsbD k.val = (leAt d 64 1).testBit k.val := byteAt_getLsbD d 64 k.val
  simp only [pairOk, pairRules, PairRefused, hpaired, Bool.or_eq_true, Bool.and_eq_true, Bool.not_eq_true',
    beq_iff_eq, bne_iff_ne, ne_eq, line_sequenced_iff, line_idle_high_iff,
    line_safe_high_iff, line_stop_high_iff, ← Bool.not_eq_true]
  simp only [LineRefused, lowerLine, upperLine] at hlower hupper ⊢
  cases (leAt d 64 1).testBit k.val
  · simp
  · simp only [not_true_eq_false, false_or, true_and]
    omega

theorem inputOk_iff {d : List Byte} (hlines : ∀ n, ¬LineRefused d n) (n : Fin 4) :
    inputOk d (contextOf d) n = true ↔ ¬InputRefused d n := by
  have hfilter : (contextOf d).inputs[n].filterLength = leAt d (73 + 8 * n.val) 1 := by
    rw [contextOf_input, leAt_one]
    rfl
  have hmask (m : Fin 16) : (contextOf d).inputs[n].clampMask.getLsbD m.val = (leAt d (76 + 8 * n.val) 2).testBit m.val := by
    rw [contextOf_input]
    exact half_getLsbD d _ _
  have hclamped : ((List.finRange 16).all fun m =>
      !(contextOf d).inputs[n].clampMask.getLsbD m.val || (contextOf d).lines[m].role == .sequenced) = true ↔
      ¬∃ m : Fin 16, (leAt d (76 + 8 * n.val) 2).testBit m.val = true ∧ lineBits d m.val 0 = 0 := by
    simp only [List.all_eq_true, List.mem_finRange, true_imp_iff, not_exists]
    refine forall_congr' fun m => ?_
    have hrole := hlines m
    simp only [LineRefused] at hrole
    rw [hmask, Bool.or_eq_true, Bool.not_eq_true', ← Bool.not_eq_true, beq_iff_eq, line_sequenced_iff, not_and,
      ← imp_iff_not_or]
    refine imp_congr_right fun _ => ?_
    omega
  rw [inputOk, Bool.and_eq_true, Bool.and_eq_true, Bool.and_eq_true, hclamped, hfilter, filterLengthOk_iff,
    guardActionOf_isSome, releasePolicyOf_isSome, ← leAt_one, ← leAt_one, InputRefused]
  simp only [not_or, Nat.not_lt, and_assoc]

theorem channelOk_iff (d : List Byte) (n : Fin 16) : channelOk d (contextOf d) n = true ↔ ¬ChannelRefused d n := by
  have hfilter : (contextOf d).channels[n].filterLength = leAt d (105 + 6 * n.val) 1 := by
    rw [contextOf_channel, leAt_one]
    rfl
  have hdecimation : (contextOf d).channels[n].decimation = leAt d (108 + 6 * n.val) 2 := by
    rw [contextOf_channel, ← half_toNat]
    rfl
  have hmode (h : leAt d (106 + 6 * n.val) 1 ≤ 3) :
      (contextOf d).channels[n].mode = .edge ↔ leAt d (106 + 6 * n.val) 1 = 0 := by
    rw [leAt_one] at h ⊢
    rw [contextOf_channel]
    exact captureModeOf_edge h
  have hselect : (contextOf d).channels[n].select = .both ↔ leAt d (107 + 6 * n.val) 1 = 2 := by
    rw [leAt_one, contextOf_channel]
    exact (edgeSelectOf_getD _).2
  rw [channelOk, Bool.and_eq_true, Bool.and_eq_true, Bool.and_eq_true, Bool.and_eq_true, hfilter, hdecimation,
    filterLengthOk_iff, inRange_iff, captureModeOf_isSome, edgeSelectOf_isSome, ← leAt_one, ← leAt_one, Bool.not_eq_true',
    Bool.and_eq_false_iff, bne_eq_false_iff_eq, beq_eq_false_iff_ne, ne_eq, hselect, ChannelRefused]
  by_cases h : leAt d (106 + 6 * n.val) 1 ≤ 3
  · rw [hmode h]
    by_cases hbad : badFilter (leAt d (105 + 6 * n.val) 1)
    · simp [hbad]
    · simp only [hbad, not_false_eq_true, and_true, false_or]
      omega
  · simp [h, Nat.lt_of_not_le h]

/-- The checks of R174 pass exactly the blocks that no point refuses. -/
theorem dcbValid_iff (d : List Byte) : dcbValid d = true ↔ ¬DcbRefused d := by
  have hall {m : Nat} (f : Fin m → Bool) : (List.finRange m).all f = true ↔ ∀ n, f n = true := by simp
  simp only [dcbValid, Bool.and_eq_true, hall, dcbRefused_iff, not_or, not_exists, headerOk_iff, lineOk_iff, channelOk_iff,
    and_assoc]
  refine and_congr_right fun _ => and_congr_right fun hlines => ?_
  simp only [pairOk_iff hlines, inputOk_iff hlines]

end Sys2Proof.Machine
end

/-! The context that a block which is not refused holds (12.3, 12.4). -/
section
namespace Sys2Proof.Machine

theorem limitsRead (d : List Byte) (o : Nat) : LimitsRead d o (limitsOf d o) := by
  refine ⟨fun k => ?_, fun n => ⟨?_, ?_⟩⟩
  · rw [← half_toNat]
    simp [limitsOf]
  · rw [← half_toNat]
    simp [limitsOf]
  · rw [← word_toNat]
    simp [limitsOf]

section
variable {d : List Byte} (hgood : ¬DcbRefused d)
include hgood

theorem notRefused_line (n : Fin 16) : ¬LineRefused d n := fun h => hgood ((dcbRefused_iff d).mpr (.inr (.inl ⟨n, h⟩)))

theorem notRefused_input (n : Fin 4) : ¬InputRefused d n := fun h =>
  hgood ((dcbRefused_iff d).mpr (.inr (.inr (.inr (.inl ⟨n, h⟩)))))

/-- The fields of a line. -/
theorem lineRead (n : Fin 16) :
    ((contextOf d).lines[n].role = .sequenced ↔ lineBits d n.val 0 = 1) ∧
      ((contextOf d).lines[n].idle = .high ↔ lineBits d n.val 2 = 1) ∧
        ((contextOf d).lines[n].idle = .released ↔ lineBits d n.val 2 = 2) ∧
          ((contextOf d).lines[n].stop = .low ↔ lineBits d n.val 4 = 1) ∧
            ((contextOf d).lines[n].stop = .high ↔ lineBits d n.val 4 = 2) ∧
              ((contextOf d).lines[n].stop = .released ↔ lineBits d n.val 4 = 3) ∧
                ((contextOf d).lines[n].safe = .high ↔ lineBits d n.val 6 = 1) ∧
                  ((contextOf d).lines[n].safe = .released ↔ lineBits d n.val 6 = 2) := by
  have hline := notRefused_line hgood n
  have hidle : lineBits d n.val 2 ≤ 2 := by
    have hlt := lineBits_lt d n.val 2
    simp only [LineRefused] at hline
    omega
  have hsafe : lineBits d n.val 6 ≤ 2 := by
    have hlt := lineBits_lt d n.val 6
    simp only [LineRefused] at hline
    omega
  refine ⟨line_sequenced_iff d n, line_idle_high_iff d n, ?_, ?_, line_stop_high_iff d n, ?_, line_safe_high_iff d n, ?_⟩
  · rw [contextOf_line]
    rw [← lineField_eq] at hidle ⊢
    exact levelOf_released hidle
  · rw [contextOf_line, ← lineField_eq]
    exact (stopLevelOf_getD _).1
  · rw [contextOf_line, ← lineField_eq]
    exact (stopLevelOf_getD _).2.2
  · rw [contextOf_line]
    rw [← lineField_eq] at hsafe ⊢
    exact levelOf_released hsafe

/-- The fields of a fault input. -/
theorem inputRead (n : Fin 4) :
    (contextOf d).inputs[n].enable = (leAt d (72 + 8 * n.val) 1).testBit 0 ∧
      ((contextOf d).inputs[n].polarity = .assertedLow ↔ (leAt d (72 + 8 * n.val) 1).testBit 1 = true) ∧
        (contextOf d).inputs[n].filterLength = leAt d (73 + 8 * n.val) 1 ∧
          (contextOf d).inputs[n].action.code = leAt d (74 + 8 * n.val) 1 ∧
            ((contextOf d).inputs[n].policy = .onNextAction ↔ leAt d (75 + 8 * n.val) 1 = 1) ∧
              (contextOf d).inputs[n].clampMask.toNat = leAt d (76 + 8 * n.val) 2 ∧
                (contextOf d).inputs[n].blankMask.toNat = leAt d (78 + 8 * n.val) 2 := by
  have haction : leAt d (74 + 8 * n.val) 1 ≤ 3 := Nat.le_of_not_lt fun h => notRefused_input hgood n (.inl h)
  rw [contextOf_input]
  refine ⟨byteAt_getLsbD d _ _, ?_, (leAt_one d _).symm, ?_, ?_, half_toNat d _, half_toNat d _⟩
  · rw [← byteAt_getLsbD, inputConfigOf]
    cases (byteAt d (72 + 8 * n.val)).getLsbD 1 <;> simp
  · rw [leAt_one] at haction ⊢
    exact guardActionOf_code haction
  · rw [leAt_one]
    exact releasePolicyOf_onNextAction _

end

/-- The fields of a channel. -/
theorem channelRead (d : List Byte) (n : Fin 16) :
    (contextOf d).channels[n].enable = (leAt d (104 + 6 * n.val) 1).testBit 0 ∧
      (contextOf d).channels[n].record = (leAt d (104 + 6 * n.val) 1).testBit 1 ∧
        (contextOf d).channels[n].filterLength = leAt d (105 + 6 * n.val) 1 ∧
          ((contextOf d).channels[n].mode = .interval ↔ leAt d (106 + 6 * n.val) 1 = 1) ∧
            ((contextOf d).channels[n].mode = .width ↔ leAt d (106 + 6 * n.val) 1 = 2) ∧
              ((contextOf d).channels[n].mode = .cycle ↔ leAt d (106 + 6 * n.val) 1 = 3) ∧
                ((contextOf d).channels[n].select = .fall ↔ leAt d (107 + 6 * n.val) 1 = 1) ∧
                  ((contextOf d).channels[n].select = .both ↔ leAt d (107 + 6 * n.val) 1 = 2) ∧
                    (contextOf d).channels[n].decimation = leAt d (108 + 6 * n.val) 2 := by
  rw [contextOf_channel, leAt_one d (106 + 6 * n.val), leAt_one d (107 + 6 * n.val)]
  obtain ⟨hinterval, hwidth, hcycle⟩ := captureModeOf_getD (byteAt d (106 + 6 * n.val)).toNat
  obtain ⟨hfall, hboth⟩ := edgeSelectOf_getD (byteAt d (107 + 6 * n.val)).toNat
  exact ⟨byteAt_getLsbD d _ _, byteAt_getLsbD d _ _, (leAt_one d _).symm, hinterval, hwidth, hcycle, hfall, hboth,
    half_toNat d _⟩

theorem contextRead {d : List Byte} (hgood : ¬DcbRefused d) : ContextRead d (contextOf d) := by
  have hone := leAt_one d
  obtain ⟨hdrop, hstop⟩ := latePolicyOf_getD (byteAt d 12).toNat
  refine ⟨⟨word_toNat d 4, ?_, ?_, half_toNat d 10, ?_, ?_, (hone 13).symm, half_toNat d 14, word_toNat d 16,
    word_toNat d 20, word_toNat d 24, long_toNat d 32, (hone 64).symm⟩, lineRead hgood, inputRead hgood, channelRead d,
    limitsRead d 208⟩
  · rw [hone]
    exact tickSourceOf_external _
  · rw [hone]
    exact edgeOf_fall _
  · rw [hone]
    exact hdrop
  · rw [hone]
    exact hstop

end Sys2Proof.Machine
end

/-! O50: the reads of a Device Context Block and its commit (R173 to R176). -/
section
namespace Sys2Proof.Machine

/-! ## The GU's part of a commit (R122, R123) -/

theorem guardCommit_input (c : Context) (g : GuardUnit) (n : Fin 4) :
    (g.commit c).inputs[n] = FaultInput.commit c.inputs[n] c.limits.blankLengths[n] c.limits.holdLimits[n] := by
  simp [GuardUnit.commit]

/-- A committed input that edges of the commit may have blanked. -/
theorem commit_blank (c : InputConfig) (length : Half) (limit : Word) (t : Time) (edges : List (Fin 16)) :
    ((FaultInput.commit c length limit).blank t edges).blankUntil = none ∨
      (c.enable = true ∧ length ≠ 0#16 ∧
        ((FaultInput.commit c length limit).blank t edges).blankUntil = some (t + length.setWidth 48)) := by
  unfold FaultInput.blank
  split
  next h =>
    obtain ⟨hstate, hlength, _⟩ := h
    refine .inr ⟨?_, hlength, rfl⟩
    by_contra hoff
    exact hstate (if_neg hoff)
  next => exact .inl rfl

/-- What a commit makes of the inputs of the GU, whichever of its notices come first. -/
structure InputsCommitted (c : Context) (t : Time) (g g' : GuardUnit) : Prop where
  latch : g'.latch = g.latch
  sources : g'.sources = g.sources
  mask : g'.mask = g.mask
  input : ∀ n : Fin 4, { g'.inputs[n] with blankUntil := none } =
    FaultInput.commit c.inputs[n] c.limits.blankLengths[n] c.limits.holdLimits[n]
  blankUntil : ∀ n : Fin 4, g'.inputs[n].blankUntil = none ∨ (c.inputs[n].enable = true ∧
    c.limits.blankLengths[n] ≠ 0#16 ∧ g'.inputs[n].blankUntil = some (t + c.limits.blankLengths[n].setWidth 48))

theorem inputsCommitted_commit (c : Context) (t : Time) (g : GuardUnit) : InputsCommitted c t g (g.commit c) where
  latch := rfl
  sources := rfl
  mask := rfl
  input n := by rw [guardCommit_input]; rfl
  blankUntil n := .inl (by rw [guardCommit_input]; rfl)

theorem inputsCommitted_blank (c : Context) (t : Time) (edges : List (Fin 16)) (g : GuardUnit) :
    InputsCommitted c t g ((g.commit c).blank t edges) where
  latch := rfl
  sources := rfl
  mask := rfl
  input n := by
    have hinput := blank_input t edges (g.commit c) n
    rwa [guardCommit_input] at hinput
  blankUntil n := by
    rw [GuardUnit.blank, GuardUnit.mapInputs_input, guardCommit_input]
    exact commit_blank _ _ _ _ _

/-! ## The whole commit (R175) -/

/-- What a context commit makes of the parts that `commitContext_parts` does not say. -/
theorem commitContext_made (c : Context) (p : Pins) (s : State) :
    (commitContext c p s).os = (s.os.commit c).resolve s.tb.tl ∧
      (commitContext c p s).tb = { s.tb.commit c p with guardHolds := 0#4 } ∧
        (commitContext c p s).cx = CaptureUnit.commit c p ∧ (commitContext c p s).pins = p ∧
          (commitContext c p s).cp =
            { s.cp.commit c with contextLoaded := true, inProgress := none, lastResult := .ok } ∧
            InputsCommitted c s.tb.tl s.gu (commitContext c p s).gu := by
  unfold commitContext commitOutputs
  split
  · exact ⟨rfl, rfl, rfl, rfl, rfl, inputsCommitted_blank c _ _ _⟩
  · obtain ⟨edges, hedges⟩ : ∃ edges, edges = drivenChanges (s.os.commit c) ((s.os.commit c).resolve s.tb.tl) := ⟨_, rfl⟩
    have hgu := inputsCommitted_commit c s.tb.tl (s.gu.blank s.tb.tl edges)
    rw [hedges] at hgu
    exact ⟨rfl, rfl, rfl, rfl, rfl, hgu.latch, hgu.sources, hgu.mask, hgu.input, hgu.blankUntil⟩

theorem commitContext_done (c : Context) (p : Pins) (s : State) : pendingCause .cmdDone (commitContext c p s) = true :=
  complete_pendingCause_cmdDone _ _

theorem commit_line (c : Context) (o : OutputStage) (n : Fin 16) : (o.commit c).lines[n] = o.lines[n].commit c.lines[n] := by
  simp [OutputStage.commit]

theorem commit_pair (c : Context) (o : OutputStage) (k : Fin 8) :
    (o.commit c).pairs[k] = { enabled := c.paired.getLsbD k.val, deadTime := c.limits.deadTimes[k] } := by
  simp [OutputStage.commit]

/-- A committed line after the resolution: what the context says of it, and its coverage. -/
theorem commit_resolve_line (c : Context) (o : OutputStage) (t : Time) (n : Fin 16) :
    let l := ((o.commit c).resolve t).lines[n]
    l.role = c.lines[n].role ∧ l.stop = c.lines[n].stop ∧ l.safe = c.lines[n].safe ∧ l.covered = o.lines[n].covered ∧
      l.requested = (if c.lines[n].role = .sequenced then c.lines[n].idle else .released) ∧ l.idle = c.lines[n].idle ∧
        l.clampSet = 0#4 ∧ l.await = false := by
  obtain ⟨hrole, hsafe, hrequested, hclamp, hawait, hcovered, hidle, hstop⟩ := resolve_same t (o.commit c) n
  rw [commit_line] at hrole hsafe hrequested hclamp hawait hcovered hidle hstop
  exact ⟨hrole, hstop, hsafe, hcovered, hrequested, hidle, hclamp, hawait⟩

/-- The commit's resolution starts from the lines with their deferrals dropped (R116). -/
theorem commit_resolved (c : Context) (o : OutputStage) (t : Time) :
    Resolved t { o with lines := o.lines.map fun l => { l with deferred := none } } ((o.commit c).resolve t) := by
  refine resolve_resolved fun n => ?_
  have hline : ({ o with lines := o.lines.map fun l => { l with deferred := none } } : OutputStage).lines[n] =
      { o.lines[n] with deferred := none } := by simp
  rw [commit_line, hline]
  exact ⟨rfl, rfl, rfl⟩

/-! ## The reads (R173, R174, R176) -/

theorem exec_dcbRead {s : State} {a : Addr} (h : inFlightIs s .dcbRead a) (r : ReadResult 64) (p : Pins) :
    exec (.dcbReadComplete r p) s = .next (dcbEnd r p (grantFirst (freeBus s))) :=
  congrArg Host.Outcome.next (endTransfer_of_inFlightIs (p := (· == .dcbRead)) (act := fun _ => dcbEnd r p) h rfl)

/-- The state with a read's bytes in the shadow. -/
def shadowed (d : List Byte) (s : State) : State := { s with cp := { s.cp with shadow := s.cp.shadow ++ d } }

theorem takeDcb_of_short {d : List Byte} {s : State} (h : (s.cp.shadow ++ d).length < 256) (p : Pins) :
    takeDcb d p s = requestDcb (shadowed d s) := if_pos h

theorem takeDcb_of_valid {d : List Byte} {s : State} (h : 256 ≤ (s.cp.shadow ++ d).length)
    (hvalid : dcbValid (s.cp.shadow ++ d) = true) (p : Pins) :
    takeDcb d p s = commitContext (contextOf (s.cp.shadow ++ d)) p (shadowed d s) :=
  (if_neg (Nat.not_lt.mpr h)).trans (if_pos hvalid)

theorem takeDcb_of_refused {d : List Byte} {s : State} (h : 256 ≤ (s.cp.shadow ++ d).length)
    (hvalid : dcbValid (s.cp.shadow ++ d) = false) (p : Pins) :
    takeDcb d p s = complete .badContext { s with cp := { s.cp with shadow := [] } } :=
  (if_neg (Nat.not_lt.mpr h)).trans (if_neg (ne_true_of_eq_false hvalid))

end Sys2Proof.Machine
end

/-! O50, put together. -/
section
namespace Sys2Proof.Machine

/-- Settles O50: one of the first three reads, the commit after the fourth, its refusal, and an ERROR. -/
theorem dcbReadsEnd : Obligations.DcbReadsEnd := by
  intro s a d p hflight
  dsimp only
  simp only [exec_dcbRead hflight]
  obtain ⟨u, hu⟩ : ∃ u, u = grantFirst (freeBus s) := ⟨_, rfl⟩
  have htb : u.tb = s.tb := by simp [hu]
  have hsu : u.su = s.su := by simp [hu]
  have hfu : u.fu = s.fu := by simp [hu]
  have hos : u.os = s.os := by simp [hu]
  have hgu : u.gu = s.gu := by simp [hu]
  have hcx : u.cx = s.cx := by simp [hu]
  have hjw : u.jw = s.jw := by simp [hu]
  have hev : u.ev = s.ev := by simp [hu]
  have hcp : u.cp = s.cp := by simp [hu]
  have harg : argument u = argument s := by rw [argument, argument, hcp]
  rw [← hcp, ← harg]
  simp only [← hu, ← htb, ← hsu, ← hfu, ← hos, ← hgu, ← hcx, ← hjw, ← hev]
  refine ⟨fun hshort => ⟨_, rfl, ?_⟩, fun hfull hvalid => ⟨_, rfl, ?_⟩,
    fun hfull => ⟨dcbValid_iff _, fun hgood => ⟨contextRead hgood, _, rfl, ?_⟩⟩, fun hfull hbad => ⟨_, rfl, ?_⟩, _, rfl, ?_⟩
  · rw [dcbEnd, takeDcb_of_short hshort]
    refine ⟨?_, request_holds _ _ _, ?_⟩
    · simp [shadowed]
    · simp [shadowed]
  · rw [dcbEnd, takeDcb_of_valid hfull hvalid]
    obtain ⟨mos, mtb, mcx, mpins, mcp, mlatch, msources, mmask, minput, mblank⟩ :=
      commitContext_made (contextOf (u.cp.shadow ++ d.toList)) p (shadowed d.toList u)
    obtain ⟨_, msu, mfu, mjw⟩ := commitContext_parts (contextOf (u.cp.shadow ++ d.toList)) p (shadowed d.toList u)
    have mdone := commitContext_done (contextOf (u.cp.shadow ++ d.toList)) p (shadowed d.toList u)
    refine ⟨mcp, mdone, mtb, msu, mfu, fun n => ?_, mjw, mpins, mlatch, msources, mmask,
      fun n => ⟨minput n, mblank n⟩, fun n => ?_⟩
    · simp [mcx, CaptureUnit.commit, Channel.commit]
    · have hline := commit_resolve_line (contextOf (u.cp.shadow ++ d.toList)) u.os u.tb.tl n
      simp only [grant_frame, mos]
      exact hline
  · have hvalid := (dcbValid_iff _).mpr hgood
    rw [dcbEnd, takeDcb_of_valid hfull hvalid]
    obtain ⟨mos, _⟩ := commitContext_made (contextOf (u.cp.shadow ++ d.toList)) p (shadowed d.toList u)
    simp only [grant_frame, mos]
    refine ⟨fun k => ?_, commit_resolved _ u.os u.tb.tl⟩
    simp only [resolve_pairs]
    exact commit_pair _ _ k
  · rw [dcbEnd, takeDcb_of_refused hfull hbad]
    simp
  · obtain ⟨ecp, eerror, edone⟩ := commandError_answers u
    exact ⟨ecp, eerror, edone, rfl, rfl, rfl, rfl, rfl, rfl, rfl⟩

end Sys2Proof.Machine
end

/-! New dead times at a stage that is resolved (R109, R112): what they make of each line, and that they defer no rise
anew. -/
section
namespace Sys2Proof.Machine

/-! ## One line -/

/-- The resolution leaves the line as it stands. -/
def Line.Steady (t : Time) (p : Pair) (partnerFall : Option Time) (l : Line) : Prop :=
  (l.settleFall t).judgeRise t p partnerFall = l

theorem Line.Steady.settleFall {t : Time} {p : Pair} {f : Option Time} {l : Line} (h : l.Steady t p f) :
    l.settleFall t = l := by
  by_cases hhigh : l.target = .high
  · cases hf : l.forced with
    | true => exact (settleFall_of_high hhigh).trans ((if_pos hf).trans ((resolved_of_forced hhigh hf).symm.trans h))
    | false => rw [settleFall_of_high hhigh, if_neg (by rw [hf]; decide)]
  · rw [settleFall_of_not_high hhigh]
    exact (resolved_of_not_high hhigh).symm.trans h

/-- A steady line that waits for its rise is called HIGH and not forced. -/
theorem Line.Steady.waiting {t : Time} {p : Pair} {f : Option Time} {l : Line} (h : l.Steady t p f)
    (hwaits : l.deferred ≠ none) : l.target = .high ∧ l.forced = false := by
  have hsettled := h.settleFall
  by_cases hhigh : l.target = .high
  · refine ⟨hhigh, (Bool.not_eq_true _).mp fun hf => hwaits ?_⟩
    rw [settleFall_of_high hhigh, if_pos hf] at hsettled
    rw [← hsettled]
  · rw [settleFall_of_not_high hhigh] at hsettled
    rw [← hsettled] at hwaits
    exact absurd rfl hwaits

/-- A steady line is not about to rise. -/
theorem Line.Steady.still {t : Time} {p : Pair} {f : Option Time} {l : Line} (h : l.Steady t p f) :
    ¬(l.target = .high ∧ l.driven ≠ .high ∧ (l.deferred = none ∨ p.enabled = false)) := by
  rintro ⟨hhigh, hlow, hnew⟩
  have hline : l.judgeRise t p f = l := by
    have hsteady : (l.settleFall t).judgeRise t p f = l := h
    rwa [h.settleFall] at hsteady
  rw [judgeRise_of_rising hhigh hlow hnew] at hline
  split at hline
  next due hdue =>
    rcases hnew with hnone | hdisabled
    · rw [← hline] at hnone
      cases hnone
    · rw [deferredTo_of_disabled hdisabled] at hdue
      cases hdue
  next =>
    rw [← hline] at hlow
    exact hlow rfl

section
variable {t : Time} {p q : Pair} {f : Option Time} {l : Line} (h : l.Steady t p f) (hsame : q.enabled = p.enabled)
include h hsame

/-- New dead times end in a steady line that waits for no rise, or whose pair is off, as it was. -/
theorem Line.Steady.kept (hidle : l.deferred = none ∨ p.enabled = false) :
    l.recomputeDeferral t q f = l ∧ (l.settleFall t).judgeRise t q f = l := by
  refine ⟨if_neg ?_, ?_⟩
  · rintro ⟨hsome, henabled⟩
    rcases hidle with hnone | hdisabled
    · rw [hnone] at hsome
      cases hsome
    · rw [hsame, hdisabled] at henabled
      cases henabled
  · rw [h.settleFall, judgeRise_of_still (by rw [hsame]; exact h.still)]

/-- The deferral of a steady line is computed anew. -/
theorem Line.Steady.recomputed (hwaits : l.deferred ≠ none) (henabled : p.enabled = true) :
    l.recomputeDeferral t q f = { l with deferred := deferredTo t q f } ∧
      ({ l with deferred := deferredTo t q f }.settleFall t).judgeRise t q f = match deferredTo t q f with
        | some due => { l with deferred := some due }
        | none => { l with driven := .high, deferred := none } := by
  obtain ⟨hhigh, hfree⟩ := h.waiting hwaits
  have hon : q.enabled = true := hsame.trans henabled
  refine ⟨if_pos ⟨Option.isSome_iff_ne_none.mpr hwaits, hon⟩, ?_⟩
  rw [resolved_of_free (l := { l with deferred := deferredTo t q f }) hhigh hfree]
  by_cases hlow : l.driven = .high
  · rw [judgeRise_of_still (l := { l with deferred := deferredTo t q f }) fun hrise => hrise.2.1 hlow]
    cases deferredTo t q f with
    | some due => rfl
    | none => rw [← hlow]
  · cases hdue : deferredTo t q f with
    | some due =>
      rw [judgeRise_of_still (l := { l with deferred := some due }) fun hrise => hrise.2.2.elim nofun fun hoff => by rw [hon] at hoff; cases hoff]
    | none => rw [judgeRise_of_rising (l := { l with deferred := none }) hhigh hlow (.inl rfl), hdue]

/-- The falls of the event leave a steady line whose deferral is computed anew. -/
theorem Line.Steady.settleFall_recomputed : (l.recomputeDeferral t q f).settleFall t = l.recomputeDeferral t q f := by
  by_cases hidle : l.deferred = none ∨ p.enabled = false
  · rw [(h.kept hsame hidle).1, h.settleFall]
  · obtain ⟨hwaits, henabled⟩ := not_or.mp hidle
    rw [(h.recomputed hsame hwaits (Bool.not_eq_false _ ▸ henabled)).1]
    obtain ⟨hhigh, hfree⟩ := h.waiting hwaits
    exact (settleFall_of_high (l := { l with deferred := deferredTo t q f }) hhigh).trans
      (if_neg (by rw [show ({ l with deferred := deferredTo t q f } : Line).forced = false from hfree]; decide))

/-- No rise is deferred that the new dead times have not deferred. -/
theorem Line.Steady.noNew :
    ((l.recomputeDeferral t q f).deferred.isNone &&
      (((l.recomputeDeferral t q f).settleFall t).judgeRise t q f).deferred.isSome) = false := by
  by_cases hidle : l.deferred = none ∨ p.enabled = false
  · obtain ⟨hkept, hline⟩ := h.kept hsame hidle
    rw [hkept, hline]
    cases l.deferred <;> rfl
  · obtain ⟨hwaits, henabled⟩ := not_or.mp hidle
    obtain ⟨hmade, hline⟩ := h.recomputed hsame hwaits (Bool.not_eq_false _ ▸ henabled)
    rw [hmade, hline]
    cases deferredTo t q f <;> rfl

end

/-! ## The stage -/

section
variable {t : Time} {o : OutputStage} (hsteady : o.resolve t = o) (m : Limits)
include hsteady

theorem steady_line (n : Fin 16) : o.lines[n].Steady t o.pairs[pairOf n] o.lines[partner n].lastFall := by
  have hpartner : (o.settleFalls t).lines[partner n].lastFall = o.lines[partner n].lastFall := by
    have hline := congrArg (fun x : OutputStage => x.lines[partner n].lastFall) hsteady
    simp only [OutputStage.resolve, OutputStage.judgeRises, mapLines_line, judgeRise_lastFall] at hline
    exact hline
  have hline := congrArg (fun x : OutputStage => x.lines[n]) hsteady
  simp only [OutputStage.resolve, OutputStage.judgeRises, mapLines_line] at hline
  rw [hpartner] at hline
  simp only [OutputStage.settleFalls, mapLines_line, mapLines_pairs] at hline
  exact hline

/-- A line before and after the rises of new dead times. -/
theorem newDeadTimes_line (n : Fin 16) :
    ((o.newDeadTimes t m).settleFalls t).lines[n] =
      o.lines[n].recomputeDeferral t (o.newDeadTimes t m).pairs[pairOf n] o.lines[partner n].lastFall ∧
    ((o.newDeadTimes t m).resolve t).lines[n] =
      ((o.lines[n].recomputeDeferral t (o.newDeadTimes t m).pairs[pairOf n] o.lines[partner n].lastFall).settleFall
        t).judgeRise t (o.newDeadTimes t m).pairs[pairOf n] o.lines[partner n].lastFall := by
  have hmade (k : Fin 16) : (o.newDeadTimes t m).lines[k] =
      o.lines[k].recomputeDeferral t (o.newDeadTimes t m).pairs[pairOf k] o.lines[partner k].lastFall := by
    simp only [OutputStage.newDeadTimes, mapLines_line, mapLines_pairs]
    rfl
  have hfallen (k : Fin 16) : ((o.newDeadTimes t m).settleFalls t).lines[k] =
      o.lines[k].recomputeDeferral t (o.newDeadTimes t m).pairs[pairOf k] o.lines[partner k].lastFall := by
    rw [OutputStage.settleFalls, mapLines_line, hmade]
    exact (steady_line hsteady k).settleFall_recomputed (newDeadTimes_pair t m o (pairOf k)).2
  have hlast : ((o.newDeadTimes t m).settleFalls t).lines[partner n].lastFall = o.lines[partner n].lastFall := by
    rw [hfallen, Line.recomputeDeferral]
    split <;> rfl
  refine ⟨hfallen n, ?_⟩
  rw [OutputStage.resolve, OutputStage.judgeRises, mapLines_line, hlast, hfallen,
    (steady_line hsteady n).settleFall_recomputed (newDeadTimes_pair t m o (pairOf n)).2]
  rfl

/-- New dead times at a resolved stage defer no rise anew. -/
theorem newDeadTimes_newDeferrals : (o.newDeadTimes t m).newDeferrals t = [] := by
  rw [OutputStage.newDeferrals, List.filter_eq_nil_iff]
  intro n _
  obtain ⟨hfallen, hresolved⟩ := newDeadTimes_line hsteady m n
  rw [hfallen, hresolved, (steady_line hsteady n).noNew (newDeadTimes_pair t m o (pairOf n)).2]
  decide

/-- What new dead times make of a line of a resolved stage (R112). -/
theorem newDeadTimes_resolved (n : Fin 16) :
    (o.lines[n].deferred = none ∨ o.pairs[pairOf n].enabled = false →
      ((o.newDeadTimes t m).resolve t).lines[n] = o.lines[n]) ∧
      ∀ f, o.lines[n].deferred ≠ none → o.pairs[pairOf n].enabled = true → o.lines[partner n].lastFall = some f →
        (m.deadTimes[pairOf n].toNat ≤ (t - f).toNat →
          ((o.newDeadTimes t m).resolve t).lines[n] = { o.lines[n] with driven := .high, deferred := none }) ∧
          ((t - f).toNat < m.deadTimes[pairOf n].toNat →
            ((o.newDeadTimes t m).resolve t).lines[n] =
              { o.lines[n] with deferred := some (f + m.deadTimes[pairOf n].setWidth 48) }) := by
  have hline := (newDeadTimes_line hsteady m n).2
  obtain ⟨hdead, hsame⟩ := newDeadTimes_pair t m o (pairOf n)
  refine ⟨fun hidle => ?_, fun f hwaits henabled hfall => ?_⟩
  · obtain ⟨hkept, hstill⟩ := (steady_line hsteady n).kept hsame hidle
    rw [hline, hkept, hstill]
  · obtain ⟨hmade, hjudged⟩ := (steady_line hsteady n).recomputed hsame hwaits henabled
    rw [hmade, hjudged, hfall, deferredTo_of_fall (hsame.trans henabled), hdead] at hline
    refine ⟨fun hpast => ?_, fun hwithin => ?_⟩
    · rw [hline, if_neg (Nat.not_lt.mpr hpast)]
    · rw [hline, if_pos hwithin]

end

end Sys2Proof.Machine
end

/-! O51: the read of a Limits Block (R112, R177 to R179). -/
section
namespace Sys2Proof.Machine

/-! ## The end of a CP's read -/

theorem exec_limitsRead {s : State} {a : Addr} (h : inFlightIs s .limitsRead a) (r : ReadResult 48) :
    exec (.limitsReadComplete r) s = .next (limitsEnd r (grantFirst (freeBus s))) :=
  congrArg Host.Outcome.next (endTransfer_of_inFlightIs (p := (· == .limitsRead)) (act := fun _ => limitsEnd r) h rfl)

/-- When a transfer of the CP ends the JW and the FU rest as before it. -/
theorem rests_of_cpFlight {s : State} {k : TransferKind} {a : Addr} (h : inFlightIs s k a) (hcp : k.owner = .cp)
    (hrested : Rested s) (hfiled : s.bp.Filed) :
    JwRests (grantFirst (freeBus s)) ∧ FuRests (grantFirst (freeBus s)) := by
  obtain ⟨f, hf, _, htransfer⟩ := h
  have howner : f.transfer.kind.owner = .cp := by rw [htransfer]; exact hcp
  have hsame (o : Requester) (ho : f.transfer.kind.owner ≠ o) :
      (grantFirst (freeBus s)).bp.outstanding o = s.bp.outstanding o :=
    (grantFirst_outstanding (freeBus_filed s hfiled) o).trans (freeBus_outstanding hf (.inr ho))
  have hnotices : SameNotices s (grantFirst (freeBus s)) := ⟨by simp, by simp, by simp⟩
  exact ⟨hrested.jwRests.of_same (by simp) (hsame .jw (by rw [howner]; decide)),
    hrested.fuRests.of_same hnotices (hsame .fu (by rw [howner]; decide))⟩

/-- An event that disturbs nothing ends with its grant. -/
theorem Undisturbed.settle_eq {u v : State} (h : Undisturbed u v) (hquiet : Quiet u) (hjw : JwRests u) (hfu : FuRests u) :
    settle v = grant v := by
  rw [settle, takeNotices_of_quiet (hquiet.of_same h.toSameNotices), pump,
    jwPump_of_rests (hjw.of_same h.calls (h.bus.outstanding .jw)),
    fuPump_of_rests (hfu.of_same h.toSameNotices (h.bus.outstanding .fu))]

/-- The answer of a command, with what else it writes of the Command Port. -/
theorem complete_port_undisturbed (r : Result) (p : CommandPort) (u : State) :
    Undisturbed u (complete r { u with cp := p }) :=
  .of_eq (by simp) (by simp) (by simp) (by simp) (by simp)

theorem takeLimits_of_format {d : Vector Byte 48} (h : d[0] = 1#8) (s : State) :
    takeLimits d.toList s = stageLimits (limitsOf d.toList 0) s := by
  refine if_pos (beq_iff_eq.mpr ?_)
  simpa [byteAt] using h

theorem takeLimits_of_not_format {d : Vector Byte 48} (h : d[0] ≠ 1#8) (s : State) :
    takeLimits d.toList s = complete .badLimits s := by
  refine if_neg fun hformat => h ?_
  simpa [limitsFormatOk, byteAt] using hformat

theorem stageLimits_of_idle {s : State} (h : s.su.program = .idle) (m : Limits) :
    stageLimits m s = deliverLimits m { complete .ok s with cp := { (complete .ok s).cp with active := m } } := if_pos h

theorem stageLimits_of_not_idle {s : State} (h : s.su.program ≠ .idle) (m : Limits) :
    stageLimits m s = complete .ok
      { s with cp := { s.cp with staged := some { limits := m, replaced := s.cp.staged.isSome } } } := if_neg h

/-! ## New Limits of an IDLE part -/

/-- A trip notice of a program that is not active is at most a coverage. -/
theorem deliverTrip_of_inactive {s : State} (h : s.su.program.active = false) :
    deliverTrip s = s ∨ ∃ mask, deliverTrip s = coverLines mask (afterDraw { s with gu := { s.gu with tripNotice := none } }) := by
  unfold deliverTrip
  split
  next => exact .inl rfl
  next mask _ =>
    refine .inr ⟨mask, ?_⟩
    dsimp only
    rw [takeTripAbort_inactive (by exact h), takeTripAbort_inactive (by simpa using h)]
    split <;> rfl

theorem deliverTrip_idle {s : State} (h : s.su.program.active = false) :
    (deliverTrip s).su = s.su ∧ (deliverTrip s).fu = s.fu ∧ (deliverTrip s).tb = s.tb ∧ (deliverTrip s).cp = s.cp ∧
      (deliverTrip s).bp = s.bp ∧ (deliverTrip s).jw = s.jw := by
  obtain hnone | ⟨mask, hcovered⟩ := deliverTrip_of_inactive h
  · rw [hnone]
    exact ⟨rfl, rfl, rfl, rfl, rfl, rfl⟩
  · rw [hcovered]
    simp [afterDraw]

/-- The end of an event of an IDLE program, whatever trip it may bring. -/
theorem settle_idle {w : State} (hidle : w.su.program = .idle) (htracked : w.fu.state = .stopped → w.fu.table ≠ [])
    (hclose : CloseAsked w) :
    (settle w).su = w.su ∧ (settle w).tb = w.tb ∧ (settle w).cp = w.cp ∧ SameTimes w (settle w) := by
  obtain ⟨hsu, hfu, htb, hcp, hbp, hjw⟩ := deliverTrip_idle (s := w) (by rw [hidle]; rfl)
  have htracking : Tracking (deliverTrip w) := by
    refine ⟨by simp, by rw [hfu]; exact htracked, fun hstopping => ?_⟩
    rw [hsu, hidle] at hstopping
    cases hstopping
  have hasked : CloseAsked (deliverTrip w) := hclose.congr (by rw [hjw]) (by rw [hbp])
  obtain ⟨ksu, kos, kgu, ktb, _⟩ := htracking.settle_parts
  rw [← settle_deliverTrip w]
  refine ⟨ksu.trans hsu, ktb.trans htb, (htracking.settle_kept hasked).1.trans hcp, ?_⟩
  have hsettled : SameTimes (deliverTrip w) (settle (deliverTrip w)) := .of_eq (by rw [kos]) (by rw [kgu])
  exact hsettled.after (deliverTrip_sameTimes w)

/-- The rises that a resolution defers are counted. -/
theorem osResolve_rises (s : State) :
    (osResolve s).ev.tallies[5] = satAdd s.ev.tallies[5] (s.os.newDeferrals s.tb.tl).length := by
  have hcounted := s.ev.count_tally .risesDeferred (s.os.newDeferrals s.tb.tl).length 5
  exact hcounted.trans (if_pos rfl)

/-- The rises that new Limits defer are counted (R109). -/
theorem deliverLimits_rises {s : State} (h : Unguarded s.gu) (m : Limits) :
    (deliverLimits m s).ev.tallies[5] =
      satAdd s.ev.tallies[5] ((s.os.newDeadTimes s.tb.tl m).newDeferrals s.tb.tl).length := by
  have hdrawn : Unguarded (afterDraw s).gu := h
  have hcount (x : State) (hos : x.os = s.os) (htb : x.tb = s.tb) (hev : x.ev = s.ev) :
      (osNewDeadTimes m x).ev.tallies[5] =
        satAdd s.ev.tallies[5] ((s.os.newDeadTimes s.tb.tl m).newDeferrals s.tb.tl).length := by
    rw [← hos, ← htb, ← hev]
    exact osResolve_rises { x with os := x.os.newDeadTimes x.tb.tl m }
  unfold deliverLimits
  split
  · rw [guNewLimits_of_unguarded hdrawn]
    exact hcount _ rfl rfl rfl
  · have hblanked : Unguarded (osNewDeadTimes m (afterDraw s)).gu := hdrawn.blank _ _
    rw [guNewLimits_of_unguarded hblanked]
    exact hcount (afterDraw s) rfl rfl rfl

end Sys2Proof.Machine
end

/-! O51, put together. -/
section
namespace Sys2Proof.Machine

/-- A block that becomes active in an IDLE part (R178, R179). -/
structure MadeActive (m : Limits) (u t : State) : Prop where
  cp : t.cp = { u.cp with inProgress := none, lastResult := .ok, active := m }
  done : pendingCause .cmdDone t = true
  pairs : ∀ k : Fin 8, t.os.pairs[k].deadTime = m.deadTimes[k] ∧ t.os.pairs[k].enabled = u.os.pairs[k].enabled
  inputs : ∀ n : Fin 4, t.gu.inputs[n].blankLength = m.blankLengths[n] ∧ t.gu.inputs[n].holdLimit = m.holdLimits[n]
  su : t.su = u.su
  cx : t.cx = u.cx
  tl : t.tb.tl = u.tb.tl
  pt : t.tb.pt = u.tb.pt

section
variable {u : State} (hquiet : Quiet u) (hidle : u.su.program = .idle)
include hquiet hidle

theorem stageLimits_madeActive (hclose : CloseAsked u) (m : Limits) : MadeActive m u (settle (stageLimits m u)) := by
  obtain ⟨v, hv⟩ : ∃ v : State, v = { complete .ok u with cp := { (complete .ok u).cp with active := m } } := ⟨_, rfl⟩
  have hstaged : stageLimits m u = deliverLimits m v := by rw [stageLimits_of_idle hidle, hv]
  obtain ⟨hfu, hsu, hcx, hcp, hbp, _⟩ := deliverLimits_frame m v
  obtain ⟨htl, hpt, _⟩ := deliverLimits_clock m v
  have vsu : v.su = u.su := by simp [hv]
  have vfu : v.fu = u.fu := by simp [hv]
  have vcx : v.cx = u.cx := by simp [hv]
  have vos : v.os = u.os := by simp [hv]
  have vtb : v.tb = u.tb := by simp [hv]
  have vbp : v.bp = u.bp := by simp [hv]
  have vjw : v.jw = u.jw := by simp [hv]
  have vcp : v.cp = { u.cp with inProgress := none, lastResult := .ok, active := m } := by simp [hv]
  have vdone : pendingCause .cmdDone v = true := by rw [hv]; exact complete_pendingCause_cmdDone .ok u
  have hjw : (deliverLimits m v).jw.state = v.jw.state := (jwState_stays v.jw.state).deliverLimits m v rfl
  have hpairs := deliverLimits_pair m v
  have htimes := deliverLimits_times m v
  have hdone := (cause_stays .cmdDone).deliverLimits m v vdone
  rw [hstaged]
  obtain ⟨w, hw⟩ : ∃ w, w = deliverLimits m v := ⟨_, rfl⟩
  rw [← hw] at hfu hsu hcx hcp hbp htl hpt hjw hpairs htimes hdone ⊢
  obtain ⟨ksu, ktb, kcp, ktimes⟩ := settle_idle (w := w) (by rw [hsu, vsu]; exact hidle)
    (by rw [hfu, vfu]; exact hquiet.tracking.tracked) (hclose.congr (by rw [hjw, vjw]) (by rw [hbp, vbp]))
  refine ⟨kcp.trans (hcp.trans vcp), settle_pending hdone, fun k => ?_, fun n => ?_, ksu.trans (hsu.trans vsu), ?_, ?_, ?_⟩
  · obtain ⟨hdead, henabled⟩ := hpairs k
    rw [ktimes.pairs]
    exact ⟨hdead, henabled.trans (by rw [vos])⟩
  · obtain ⟨hblank, hhold⟩ := ktimes.inputs n
    obtain ⟨hset, hlimit⟩ := htimes n
    exact ⟨hblank.trans hset, hhold.trans hlimit⟩
  · rw [(settle_frame w).1, hcx, vcx]
  · rw [ktb, htl, vtb]
  · rw [ktb, hpt, vtb]

/-- With no input ACTIVE nothing is tripped, and the lines are those of the new dead times. -/
theorem stageLimits_steady (hsteady : Unguarded u.gu) (hresolved : u.os.resolve u.tb.tl = u.os) (m : Limits) :
    (settle (stageLimits m u)).ev.tallies[5] = u.ev.tallies[5] ∧
      (settle (stageLimits m u)).os = (u.os.newDeadTimes u.tb.tl m).resolve u.tb.tl := by
  obtain ⟨v, hv⟩ : ∃ v : State, v = { complete .ok u with cp := { (complete .ok u).cp with active := m } } := ⟨_, rfl⟩
  have hstaged : stageLimits m u = deliverLimits m v := by rw [stageLimits_of_idle hidle, hv]
  have vos : v.os = u.os := by simp [hv]
  have vtb : v.tb = u.tb := by simp [hv]
  have vgu : v.gu = u.gu := by simp [hv]
  have vsu : v.su = u.su := by simp [hv]
  have vfu : v.fu = u.fu := by simp [hv]
  have vtally : v.ev.tallies = u.ev.tallies := by rw [hv]; rfl
  have hunguarded : Unguarded v.gu := by rw [vgu]; exact hsteady
  obtain ⟨_, _, _, htrip⟩ := deliverLimits_of_unguarded hunguarded m
  have hnotices : SameNotices u (deliverLimits m v) := ⟨by rw [htrip, vgu], by simp [vsu], by simp [vfu]⟩
  have htracking := hquiet.tracking.of_same hnotices
  have hrises := deliverLimits_rises hunguarded m
  have hos := deliverLimits_os m v
  rw [vos, vtb] at hos
  rw [vos, vtb, newDeadTimes_newDeferrals hresolved, List.length_nil] at hrises
  rw [hstaged]
  obtain ⟨_, kos, _⟩ := htracking.settle_parts
  refine ⟨(htracking.settle_tally (i := 5) (by decide)).trans (hrises.trans ?_), kos.trans hos⟩
  rw [satAdd_zero, vtally]

end

/-- Settles O51: a block staged, a block made active, a format refused, and an ERROR. -/
theorem limitsReadEnds : Obligations.LimitsReadEnds := by
  intro s a d hflight hquiet hrested hfiled
  obtain ⟨hjwRests, hfuRests⟩ := rests_of_cpFlight hflight rfl hrested hfiled
  dsimp only
  simp only [exec_limitsRead hflight]
  obtain ⟨u, hu⟩ : ∃ u, u = grantFirst (freeBus s) := ⟨_, rfl⟩
  have htb : u.tb = s.tb := by simp [hu]
  have hsu : u.su = s.su := by simp [hu]
  have hfu : u.fu = s.fu := by simp [hu]
  have hos : u.os = s.os := by simp [hu]
  have hgu : u.gu = s.gu := by simp [hu]
  have hcx : u.cx = s.cx := by simp [hu]
  have hjw : u.jw = s.jw := by simp [hu]
  have hev : u.ev = s.ev := by simp [hu]
  have hcp : u.cp = s.cp := by simp [hu]
  have hready : Quiet u := hquiet.of_same ⟨by rw [hgu], hsu, hfu⟩
  rw [← hu] at hjwRests hfuRests
  simp only [← hu, ← htb, ← hsu, ← hfu, ← hos, ← hgu, ← hcx, ← hjw, ← hev, ← hcp]
  refine ⟨limitsRead _ 0, fun hformat hbusy => ⟨_, rfl, ?_⟩, fun hformat hidle => ⟨_, rfl, ?_⟩,
    fun hformat => ⟨_, rfl, ?_⟩, _, rfl, ?_⟩
  · rw [limitsEnd, takeLimits_of_format hformat, stageLimits_of_not_idle hbusy,
      (complete_port_undisturbed _ _ u).settle_eq hready hjwRests hfuRests]
    simp
  · rw [limitsEnd, takeLimits_of_format hformat]
    obtain ⟨kcp, kdone, kpairs, kinputs, ksu, kcx, ktl, kpt⟩ :=
      stageLimits_madeActive hready hidle hjwRests.closeAsked (limitsOf d.toList 0)
    refine ⟨kcp, kdone, kpairs, kinputs, ksu, kcx, ktl, kpt, fun hsteady hresolved => ?_⟩
    obtain ⟨ktally, kos⟩ := stageLimits_steady hready hidle hsteady hresolved (limitsOf d.toList 0)
    refine ⟨ktally, fun n => ?_⟩
    rw [kos]
    exact newDeadTimes_resolved hresolved _ n
  · rw [limitsEnd, takeLimits_of_not_format hformat,
      (complete_undisturbed .badLimits u).settle_eq hready hjwRests hfuRests]
    simp
  · obtain ⟨ecp, eerror, edone⟩ := commandError_answers u
    exact ⟨ecp, eerror, edone, rfl, rfl, rfl, rfl, rfl, rfl, rfl⟩

end Sys2Proof.Machine
end

/-! What the events between two samples leave of the sampling blocks and of the transfer in flight (R1, R2, R121, R189):
the base of O3. -/
section
namespace Sys2Proof.Machine

/-! ## The transfer in flight -/

/-- The same transfer in flight, but for its discard mark. -/
structure Flight.Same (f g : Flight) : Prop where
  periods : g.periods = f.periods
  orphan : g.orphan = f.orphan
  kind : g.transfer.kind = f.transfer.kind
  address : g.transfer.address = f.transfer.address

theorem Flight.Same.refl (f : Flight) : f.Same f := ⟨rfl, rfl, rfl, rfl⟩

theorem Flight.Same.after {f g h : Flight} (k : g.Same h) (e : f.Same g) : f.Same h :=
  ⟨k.periods.trans e.periods, k.orphan.trans e.orphan, k.kind.trans e.kind, k.address.trans e.address⟩

/-- A transfer in flight stays, and one that an idle Bus Port starts has not aged. -/
structure BusPort.KeepsFlight (b c : BusPort) : Prop where
  kept : ∀ f, b.inFlight = some f → ∃ g, c.inFlight = some g ∧ f.Same g
  fresh : b.inFlight = none → ∀ g, c.inFlight = some g → g.periods = 0

theorem BusPort.KeepsFlight.of_inFlight {b c : BusPort} (h : c.inFlight = b.inFlight) : b.KeepsFlight c :=
  ⟨fun f hf => ⟨f, h.trans hf, .refl f⟩, fun hnone g hg => by rw [h, hnone] at hg; cases hg⟩

theorem BusPort.KeepsFlight.after {b c d : BusPort} (k : c.KeepsFlight d) (h : b.KeepsFlight c) : b.KeepsFlight d := by
  refine ⟨fun f hf => ?_, fun hnone g hg => ?_⟩
  · obtain ⟨g, hg, hsame⟩ := h.kept f hf
    obtain ⟨x, hx, hnext⟩ := k.kept g hg
    exact ⟨x, hx, hnext.after hsame⟩
  · cases hc : c.inFlight with
    | none => exact k.fresh hc g hg
    | some f =>
      obtain ⟨x, hx, hsame⟩ := k.kept f hc
      have heq : g = x := Option.some.inj (hg.symm.trans hx)
      rw [heq, hsame.periods]
      exact h.fresh hnone f hc

theorem BusPort.discardIf_keepsFlight (p : TransferKind → Bool) (b : BusPort) : b.KeepsFlight (b.discardIf p) := by
  refine ⟨fun f hf => ⟨{ f with transfer := f.transfer.discardIf p }, by rw [BusPort.discardIf, hf]; rfl, ?_⟩,
    fun hnone g hg => ?_⟩
  · exact ⟨rfl, rfl, rfl, rfl⟩
  · rw [BusPort.discardIf, hnone] at hg
    cases hg

theorem BusPort.grant_keepsFlight (b : BusPort) : b.KeepsFlight b.grant := by
  obtain hsame | ⟨hnone, hstarted⟩ := b.grant_cases
  · exact .of_inFlight (by rw [hsame])
  · refine ⟨fun f hf => ?_, fun _ g hg => ?_⟩
    · rw [hnone] at hf
      cases hf
    · obtain ⟨t, _, hgrant⟩ | ⟨t, _, hgrant⟩ | ⟨t, _, hgrant⟩ := hstarted
      all_goals
        rw [hgrant] at hg
        cases hg
        rfl

/-! ## The sampling fields -/

/-- The filtered level, the filter and the polarity of an input stand, and so does its being sampled. -/
structure FaultInput.Sampled (i j : FaultInput) : Prop where
  asserted : j.asserted = i.asserted
  filterRun : j.filterRun = i.filterRun
  filterLength : j.filterLength = i.filterLength
  polarity : j.polarity = i.polarity
  off : j.state = .off ↔ i.state = .off

theorem FaultInput.Sampled.refl (i : FaultInput) : i.Sampled i := ⟨rfl, rfl, rfl, rfl, Iff.rfl⟩

theorem FaultInput.Sampled.after {i j k : FaultInput} (h : j.Sampled k) (e : i.Sampled j) : i.Sampled k :=
  ⟨h.asserted.trans e.asserted, h.filterRun.trans e.filterRun, h.filterLength.trans e.filterLength,
    h.polarity.trans e.polarity, h.off.trans e.off⟩

/-- The tick source and TL stand. -/
structure Timebase.SameSource (b c : Timebase) : Prop where
  tl : c.tl = b.tl
  source : c.source = b.source
  prescale : c.prescale = b.prescale
  tbinEdge : c.tbinEdge = b.tbinEdge
  prescaleCount : c.prescaleCount = b.prescaleCount
  tbinPrevious : c.tbinPrevious = b.tbinPrevious

theorem Timebase.SameSource.refl (b : Timebase) : b.SameSource b := ⟨rfl, rfl, rfl, rfl, rfl, rfl⟩

theorem Timebase.SameSource.after {b c d : Timebase} (k : c.SameSource d) (h : b.SameSource c) : b.SameSource d :=
  ⟨k.tl.trans h.tl, k.source.trans h.source, k.prescale.trans h.prescale, k.tbinEdge.trans h.tbinEdge,
    k.prescaleCount.trans h.prescaleCount, k.tbinPrevious.trans h.tbinPrevious⟩

/-- The event leaves the tick source, the samples of the fault inputs and the transfer in flight. -/
structure Coasts (s t : State) : Prop where
  tb : s.tb.SameSource t.tb
  inputs : ∀ n : Fin 4, s.gu.inputs[n].Sampled t.gu.inputs[n]
  bus : s.bp.KeepsFlight t.bp

theorem Coasts.of_parts {s t : State} (htb : t.tb = s.tb) (hgu : t.gu.inputs = s.gu.inputs) (hbus : s.bp.KeepsFlight t.bp) :
    Coasts s t :=
  ⟨by rw [htb]; exact .refl _, fun n => by rw [hgu]; exact .refl _, hbus⟩

theorem Coasts.of_eq {s t : State} (htb : t.tb = s.tb) (hgu : t.gu.inputs = s.gu.inputs)
    (hbp : t.bp.inFlight = s.bp.inFlight) : Coasts s t := .of_parts htb hgu (.of_inFlight hbp)

theorem Coasts.refl (s : State) : Coasts s s := .of_eq rfl rfl rfl

theorem Coasts.after {s t u : State} (k : Coasts t u) (h : Coasts s t) : Coasts s u :=
  ⟨k.tb.after h.tb, fun n => (k.inputs n).after (h.inputs n), k.bus.after h.bus⟩

theorem Coasts.foldl {α : Type} {f : State → α → State} (h : ∀ s a, Coasts s (f s a)) (l : List α) (s : State) :
    Coasts s (l.foldl f s) :=
  foldl_inv (Coasts s) f (fun _ a ht => (h _ a).after ht) l s (.refl s)

/-- An input of the guard replaced by one that is sampled alike. -/
theorem Coasts.of_setInput {s t : State} {n : Fin 4} {i : FaultInput} (hi : s.gu.inputs[n].Sampled i)
    (htb : s.tb.SameSource t.tb) (hgu : t.gu.inputs = (s.gu.setInput n i).inputs) (hbp : t.bp.inFlight = s.bp.inFlight) :
    Coasts s t := by
  refine ⟨htb, fun k => ?_, .of_inFlight hbp⟩
  rw [hgu]
  by_cases hk : k = n
  · subst hk
    rw [setInput_same]
    exact hi
  · rw [setInput_other _ _ hk]
    exact .refl _

/-! ## The OS -/

theorem blank_sampled (t : Time) (edges : List (Fin 16)) (g : GuardUnit) (n : Fin 4) :
    g.inputs[n].Sampled (g.blank t edges).inputs[n] := by
  have hsame := blank_input t edges g n
  exact ⟨(congrArg FaultInput.asserted hsame :), (congrArg FaultInput.filterRun hsame :),
    (congrArg FaultInput.filterLength hsame :), (congrArg FaultInput.polarity hsame :),
    by rw [(congrArg FaultInput.state hsame :)]⟩

theorem osResolve_coasts (s : State) : Coasts s (osResolve s) :=
  ⟨.refl _, fun n => blank_sampled _ _ s.gu n, .of_inFlight rfl⟩

theorem osEvent_coasts (f : OutputStage → OutputStage) (s : State) : Coasts s (osEvent f s) :=
  (osResolve_coasts _).after (t := { s with os := f s.os }) (.of_eq rfl rfl rfl)

theorem osEndLevels_coasts (s : State) : Coasts s (osEndLevels s) := by
  have hmade : Coasts s (suppressShoot { s with os := s.os.endLevels }) := .of_eq (by simp) (by simp) (by simp)
  exact (osResolve_coasts _).after hmade

theorem enterStopping_coasts (o : ProgramOutcome) (r : Reason) (s : State) : Coasts s (enterStopping o r s) := by
  have hnoticed : Coasts s (noticeClosed s) := by
    unfold noticeClosed
    split
    · exact .of_parts rfl rfl (BusPort.discardIf_keepsFlight _ _)
    · exact .refl s
  have hstopped : Coasts s (discardAgenda { noticeClosed s with su := (noticeClosed s).su.stop o r }) :=
    Coasts.after (t := noticeClosed s) (.of_eq rfl rfl rfl) hnoticed
  unfold enterStopping
  dsimp only
  split
  · exact (osEndLevels_coasts _).after hstopped
  · exact hstopped

theorem suFault_coasts (r : Reason) (s : State) : Coasts s (suFault r s) := by
  unfold suFault
  split
  · exact enterStopping_coasts _ _ s
  · exact .refl s

theorem takeTripAbort_coasts (s : State) : Coasts s (takeTripAbort s) := by
  unfold takeTripAbort
  split
  · exact enterStopping_coasts _ _ s
  · exact .refl s

theorem deliverTrip_coasts (s : State) : Coasts s (deliverTrip s) := by
  unfold deliverTrip
  split
  next => exact .refl s
  next mask _ =>
    have hdrawn : Coasts s (afterDraw { s with gu := { s.gu with tripNotice := none } }) := .of_eq rfl rfl rfl
    dsimp only
    split
    · exact (osEvent_coasts _ _).after ((takeTripAbort_coasts _).after hdrawn)
    · exact (takeTripAbort_coasts _).after ((osEvent_coasts _ _).after hdrawn)

/-! ## New Limits -/

theorem escalate_coasts (n : Fin 4) (s : State) : Coasts s (escalate n s) := by
  have hstart : Coasts s { s with gu := s.gu.setInput n { s.gu.inputs[n] with escalated := true } } :=
    .of_setInput (n := n) (i := { s.gu.inputs[n] with escalated := true }) ⟨rfl, rfl, rfl, rfl, Iff.rfl⟩ (.refl _) rfl rfl
  have hended : Coasts { s with gu := s.gu.setInput n { s.gu.inputs[n] with escalated := true } } (escalate n s) :=
    ⟨⟨rfl, rfl, rfl, rfl, rfl, rfl⟩, fun _ => .refl _, .of_inFlight rfl⟩
  exact hended.after hstart

theorem judgeHold_coasts (s : State) (n : Fin 4) : Coasts s (judgeHold s n) := by
  unfold judgeHold
  split
  · exact escalate_coasts n s
  · exact .refl s

theorem guNewLimits_coasts (m : Limits) (s : State) : Coasts s (guNewLimits m s) := by
  have hset : Coasts s { s with gu := s.gu.setLimits m } := by
    refine ⟨.refl _, fun n => ?_, .of_inFlight rfl⟩
    dsimp only
    rw [setLimits_input]
    exact ⟨rfl, rfl, rfl, rfl, Iff.rfl⟩
  exact (Coasts.foldl judgeHold_coasts _ _).after hset

theorem deliverLimits_coasts (m : Limits) (s : State) : Coasts s (deliverLimits m s) := by
  have hdrawn : Coasts s (afterDraw s) := .of_eq rfl rfl rfl
  unfold deliverLimits
  split
  · exact (osEvent_coasts _ _).after ((guNewLimits_coasts m _).after hdrawn)
  · exact (guNewLimits_coasts m _).after ((osEvent_coasts _ _).after hdrawn)

/-! ## The end of an event -/

theorem takeRetirementDone_coasts (s : State) : Coasts s (takeRetirementDone s) := by
  unfold takeRetirementDone
  split
  next incomplete _ =>
    split
    · obtain ⟨w, hw⟩ : ∃ w : State, w = { s with fu := { s.fu with doneNotice := none } } := ⟨_, rfl⟩
      have hstart : Coasts s w := by rw [hw]; exact .of_eq rfl rfl rfl
      obtain ⟨hgu, _⟩ := programEnded_parts incomplete w
      have hended : Coasts w (programEnded incomplete w) :=
        .of_eq (by simp [programEnded]) (by rw [hgu]) (by simp [programEnded])
      rw [← hw, programEnd_eq]
      split
      · exact (deliverLimits_coasts _ _).after (hended.after hstart)
      · exact hended.after hstart
    · exact .refl s
  next => exact .refl s

theorem takeNotices_coasts (s : State) : Coasts s (takeNotices s) := by
  have hjudged (u : State) : Coasts u (fuEvaluate u) := .of_eq rfl rfl rfl
  have hreported (u : State) : Coasts u (reportStarved u) := .of_eq (by simp) (by simp) (by simp)
  exact (hreported _).after ((deliverTrip_coasts _).after ((takeRetirementDone_coasts _).after
    ((hjudged _).after (deliverTrip_coasts s))))

theorem grant_coasts (s : State) : Coasts s (grant s) := .of_parts rfl rfl (BusPort.grant_keepsFlight s.bp)

theorem jwPump_coasts (s : State) : Coasts s (jwPump s) := .of_eq (by simp) (by simp) (jwPump_bp s).2

theorem fuPump_coasts (s : State) : Coasts s (fuPump s) := .of_eq (by simp) (by simp) (fuPump_bp s).2

theorem jwRun_coasts (s : State) : Coasts s (jwRun s) := (grant_coasts _).after (jwPump_coasts s)

theorem settle_coasts (s : State) : Coasts s (settle s) :=
  (grant_coasts _).after ((fuPump_coasts _).after ((jwPump_coasts _).after (takeNotices_coasts s)))

end Sys2Proof.Machine
end

/-! The events due, the admissions, and the ERROR ends leave the samples and the tick source (R1, R121, R189). -/
section
namespace Sys2Proof.Machine

/-! ## Applications (R67 to R78) -/

theorem osBatch_coasts (cs : List Change) (s : State) : Coasts s (osBatch cs s) := by
  by_cases h : cs = []
  · rw [h]
    exact .refl s
  · obtain ⟨hgu, htb⟩ := foldl_makeChange_frame cs s
    have hmade : Coasts s (cs.foldl makeChange s) :=
      .of_eq htb (by rw [hgu]) (foldl_keeps _ (fun t => t.bp.inFlight) (fun t c => by simp) _ _)
    rw [osBatch_of_ne_nil h]
    exact (osResolve_coasts _).after hmade

theorem deliverTaken_coasts (b : Bool) (s : State) : Coasts s (deliverTaken b s) := by
  unfold deliverTaken
  split
  · exact deliverLimits_coasts _ s
  · exact .refl s

theorem deliverBatch_coasts (cs : List Change) (b : Bool) (s : State) : Coasts s (deliverBatch cs b s) := by
  have hdrawn : Coasts s (afterDraw s) := .of_eq rfl rfl rfl
  unfold deliverBatch
  split
  · exact (osBatch_coasts cs _).after ((deliverTaken_coasts b _).after hdrawn)
  · refine (deliverTaken_coasts b _).after ((osBatch_coasts cs _).after ?_)
    split
    · exact hdrawn
    · exact .refl s

theorem applyEntries_coasts (s : State) : Coasts s (applyEntries s) := by
  obtain ⟨htb, _, hgu, _, hbp, _⟩ := entriesApplied_frame s
  have happlied : Coasts s (entriesApplied s) := .of_eq htb (by rw [hgu]) (by rw [hbp])
  rw [applyEntries_eq_drainEnd]
  unfold drainEnd
  split
  · exact (enterStopping_coasts _ _ _).after happlied
  · exact happlied

theorem applyDue_coasts (s : State) : Coasts s (applyDue s) := by
  unfold applyDue
  split
  · exact (deliverBatch_coasts _ _ _).after (applyEntries_coasts s)
  · exact .refl s

theorem takeApplication_coasts (s : State) : Coasts s (takeApplication s) := by
  unfold takeApplication
  split
  · exact (settle_coasts _).after (applyDue_coasts s)
  · exact .refl s

/-! ## Admissions (R48 to R58) -/

theorem admitEntry_coasts (q : QueuedStep) (k : StepKind) (ek : EntryKind) (d : Time) (s : State) :
    Coasts s (admitEntry q k ek d s) := by
  obtain ⟨w, hw⟩ : ∃ w, w = setCursor (dueOf s q.step + cursorStep k q.step)
      (numberStep q (some (entryOf q ek d s)) (k == .endProgram) s) := ⟨_, rfl⟩
  have hnumbered : Coasts s w := by rw [hw]; exact .of_eq rfl rfl rfl
  have hclosed : Coasts s (if k = .endProgram then closeAdmission w else w) := by
    split
    · have hbus : Coasts w (closeAdmission w) := .of_parts rfl rfl (BusPort.discardIf_keepsFlight _ _)
      exact hbus.after hnumbered
    · exact hnumbered
  unfold admitEntry
  dsimp only
  rw [← hw]
  split
  · exact (applyDue_coasts _).after hclosed
  · exact hclosed

theorem admitLate_coasts (q : QueuedStep) (k : StepKind) (ek : EntryKind) (s : State) : Coasts s (admitLate q k ek s) := by
  have hreported (n : Nat) : Coasts s (reportLate q n s) := .of_eq rfl rfl rfl
  unfold admitLate
  split
  · have hcounted : Coasts s (count .lateApplied 1 (reportLate q 1 s)) := .of_eq rfl rfl rfl
    exact (admitEntry_coasts q k ek _ _).after hcounted
  · exact .of_eq rfl rfl rfl
  · exact (suFault_coasts _ _).after (hreported 0)

theorem admitValid_coasts (q : QueuedStep) (k : StepKind) (s : State) : Coasts s (admitValid q k s) := by
  unfold admitValid
  split
  · unfold admitTimed
    split
    · exact admitLate_coasts q k _ s
    · exact admitEntry_coasts q k _ _ s
  · exact .of_eq rfl rfl rfl

theorem admitStep_coasts (q : QueuedStep) (s : State) : Coasts s (admitStep q s) := by
  unfold admitStep
  split
  · exact suFault_coasts _ s
  · unfold admitWaitStep
    split
    · exact .of_eq rfl rfl rfl
    · exact suFault_coasts _ s
  · unfold admitChecked
    split
    · exact admitValid_coasts q _ s
    · exact suFault_coasts _ s

theorem takeStepAdmission_coasts (s : State) : Coasts s (takeStepAdmission s) := by
  have hhead (u : State) : Coasts u (admitHead u) := by
    unfold admitHead
    repeat' split
    · exact (settle_coasts _).after (admitStep_coasts _ u)
    · exact .refl u
    · exact .refl u
  exact (hhead _).after (takeApplication_coasts s)

theorem admitAll_coasts (s : State) : Coasts s (admitAll s) :=
  .foldl (fun u _ => takeStepAdmission_coasts u) s.su.queue s

/-! ## The events due -/

theorem endWait_coasts (w : Waiter) (s : State) : Coasts s (endWait w s) := by
  unfold endWait
  dsimp only
  split
  · exact (suFault_coasts _ _).after (.of_eq rfl rfl rfl)
  · exact .of_eq rfl rfl rfl

theorem takeWaitTimeout_coasts (s : State) : Coasts s (takeWaitTimeout s) := by
  unfold takeWaitTimeout
  repeat' split
  · exact (settle_coasts _).after (endWait_coasts _ s)
  · exact .refl s
  · exact .refl s

theorem takeTimeRange_coasts (s : State) : Coasts s (takeTimeRange s) := by
  have htaken : Coasts s { s with tb := { s.tb with timeRangeNotice := false } } :=
    ⟨⟨rfl, rfl, rfl, rfl, rfl, rfl⟩, fun _ => .refl _, .of_inFlight rfl⟩
  unfold takeTimeRange
  split
  · exact (settle_coasts _).after ((suFault_coasts _ _).after htaken)
  · exact .refl s

theorem takeDeferredRise_coasts (n : Fin 16) (s : State) : Coasts s (takeDeferredRise n s) := by
  unfold takeDeferredRise
  split
  · exact ⟨.refl _, fun k => blank_sampled _ _ s.gu k, .of_inFlight rfl⟩
  · exact .refl s

theorem takeLastFallDiscard_coasts (n : Fin 16) (s : State) : Coasts s (takeLastFallDiscard n s) := by
  unfold takeLastFallDiscard
  split
  · exact .of_eq rfl rfl rfl
  · exact .refl s

theorem clampOn_coasts (n : Fin 4) (s : State) : Coasts s (clampOn n s) := osEvent_coasts _ s

theorem clampOff_coasts (n : Fin 4) (s : State) : Coasts s (clampOff n s) := osEvent_coasts _ s

theorem addGuardHold_coasts (n : Fin 4) (s : State) : Coasts s (addGuardHold n s) :=
  ⟨⟨rfl, rfl, rfl, rfl, rfl, rfl⟩, fun _ => .refl _, .of_inFlight rfl⟩

theorem removeGuardHold_coasts (n : Fin 4) (s : State) : Coasts s (removeGuardHold n s) :=
  ⟨⟨rfl, rfl, rfl, rfl, rfl, rfl⟩, fun _ => .refl _, .of_inFlight rfl⟩

/-- A QUIET input is activated, and is sampled as before. -/
theorem activate_coasts {n : Fin 4} {s : State} (hquiet : s.gu.inputs[n].state = .quiet) : Coasts s (activate n s) := by
  have hactive : Coasts s (activateInput n s) := by
    refine .of_setInput (n := n) (i := s.gu.inputs[n].activate s.tb.tl) ⟨rfl, rfl, rfl, rfl, ?_⟩ (.refl _) rfl rfl
    rw [hquiet]
    exact ⟨nofun, nofun⟩
  have htripped (u : State) : Coasts u (tripIfTrip n u) := by
    unfold tripIfTrip
    split
    · exact .of_eq rfl rfl rfl
    · exact .refl u
  have hreported (u : State) : Coasts u (reportActivation n u) := .of_eq (by simp) (by simp) (by simp)
  have hnotified (u : State) : Coasts u (notifyActivation n u) := by
    unfold notifyActivation
    split
    · exact .refl u
    · exact clampOn_coasts n u
    · exact (addGuardHold_coasts n _).after (clampOn_coasts n u)
    · exact .refl u
  exact (hnotified _).after ((hreported _).after ((htripped _).after hactive))

/-- An ACTIVE input is released, and is sampled as before. -/
theorem release_coasts {n : Fin 4} {s : State} (hactive : s.gu.inputs[n].state = .active) : Coasts s (release n s) := by
  have hreleased : Coasts s (releaseInput n s) := by
    refine .of_setInput (n := n) (i := s.gu.inputs[n].release) ⟨rfl, rfl, rfl, rfl, ?_⟩ (.refl _) rfl rfl
    rw [hactive]
    exact ⟨nofun, nofun⟩
  have hreported (u : State) : Coasts u (reportRelease n u) := .of_eq (by simp) (by simp) (by simp)
  have hnotified (u : State) : Coasts u (notifyRelease n u) := by
    unfold notifyRelease
    split
    · exact .refl u
    · exact clampOff_coasts n u
    · exact (removeGuardHold_coasts n _).after (clampOff_coasts n u)
    · exact .refl u
  exact (hnotified _).after ((hreported _).after hreleased)

theorem takeBlankEnd_coasts (s : State) (n : Fin 4) : Coasts s (takeBlankEnd n s) := by
  have hcleared : Coasts s (clearBlank n s) :=
    .of_setInput (n := n) (i := { s.gu.inputs[n] with blankUntil := none }) ⟨rfl, rfl, rfl, rfl, Iff.rfl⟩ (.refl _) rfl rfl
  unfold takeBlankEnd
  split
  · refine (settle_coasts _).after (Coasts.after ?_ hcleared)
    unfold endBlank judgeBlanked
    split
    next h => exact activate_coasts h.1
    next => exact .refl _
  · exact .refl s

theorem takeEscalation_coasts (s : State) (n : Fin 4) : Coasts s (takeEscalation n s) := by
  unfold takeEscalation
  split
  · exact (settle_coasts _).after (escalate_coasts n s)
  · exact .refl s

theorem takeLinkWatch_coasts (s : State) : Coasts s (takeLinkWatch s) := by
  unfold takeLinkWatch
  split
  · exact (grant_coasts _).after ((fuPump_coasts _).after (.of_eq rfl rfl rfl))
  · exact .refl s

theorem takeSheetRecheck_coasts (s : State) : Coasts s (takeSheetRecheck s) := by
  unfold takeSheetRecheck
  split
  · exact (jwRun_coasts _).after (.of_eq rfl rfl rfl)
  · exact .refl s

theorem takeFlushAge_coasts (s : State) : Coasts s (takeFlushAge s) := by
  unfold takeFlushAge
  split
  · exact (jwRun_coasts _).after (.of_eq rfl rfl rfl)
  · exact .refl s

theorem takeDue_coasts (s : State) : Coasts s (takeDue s) := by
  have hprogram := (takeWaitTimeout_coasts _).after ((takeApplication_coasts _).after (takeTimeRange_coasts s))
  have hlines := (Coasts.foldl (fun u n => takeLastFallDiscard_coasts n u) (List.finRange 16) _).after
    ((Coasts.foldl (fun u n => takeDeferredRise_coasts n u) (List.finRange 16) _).after hprogram)
  have hinputs := (Coasts.foldl takeEscalation_coasts (List.finRange 4) _).after
    ((Coasts.foldl takeBlankEnd_coasts (List.finRange 4) _).after hlines)
  exact (takeFlushAge_coasts _).after ((takeSheetRecheck_coasts _).after ((takeLinkWatch_coasts _).after hinputs))

/-! ## The ERROR end of a transfer (R189) -/

theorem fetchError_coasts (s : State) : Coasts s (fetchError s) :=
  (suFault_coasts _ _).after (t := busErrorRaised s) (.of_eq rfl rfl rfl)

theorem transferError_coasts (t : Transfer) (s : State) : Coasts s (transferError t s) := by
  have hread {u : State} (hu : u = fetchError s ∨ u = busErrorRaised s) : Coasts s (settle u) := by
    refine (settle_coasts _).after ?_
    rcases hu with rfl | rfl
    · exact fetchError_coasts s
    · exact .of_eq rfl rfl rfl
  have hjw {u : State} (htb : u.tb = s.tb) (hgu : u.gu = s.gu) (hbp : u.bp = s.bp) : Coasts s (jwRun u) :=
    (jwRun_coasts u).after (.of_eq htb (by rw [hgu]) (by rw [hbp]))
  unfold transferError
  split
  · exact hread (headerTaken_error t s)
  · exact hread (stepsTaken_error t s)
  · exact hread (linkTaken_error t s)
  · exact (settle_coasts _).after ((suFault_coasts _ _).after (.of_eq rfl rfl rfl))
  · unfold sheetReadEnd sheetReadTaken
    cases t.discard
    · exact hjw (by simp) (by simp) (by simp)
    · exact hjw (by simp) (by simp) (by simp)
  · exact hjw (by simp [recordTaken]) (by simp [recordTaken]) (by simp [recordTaken])
  · exact hjw (by simp [sheetWriteTaken]) (by simp [sheetWriteTaken]) (by simp [sheetWriteTaken])
  all_goals exact (grant_coasts _).after (.of_eq rfl rfl rfl)

end Sys2Proof.Machine
end

/-! The sampling of the fault inputs (R121). -/
section
namespace Sys2Proof.Machine

/-! ## Pins -/

theorem getLsbD_oneBit {w i : Nat} (hi : i < w) (n : Nat) : (1#w <<< n).getLsbD i = decide (i = n) := by
  rw [BitVec.getLsbD_shiftLeft, BitVec.getLsbD_one]
  simp only [hi, decide_true, Bool.true_and]
  by_cases hn : i = n
  · subst hn
    simp [Nat.zero_lt_of_lt hi]
  · by_cases hlt : i < n
    · simp [hlt, hn]
    · simp [show i - n ≠ 0 by omega, hn]

/-- A bit set to the value it has. -/
theorem setBit_same {w : Nat} {x : BitVec w} {n : Nat} {b : Bool} (h : x.getLsbD n = b) :
    (if b then x ||| 1#w <<< n else x &&& ~~~(1#w <<< n)) = x := by
  refine BitVec.eq_of_getLsbD_eq fun i hi => ?_
  have hbit := getLsbD_oneBit hi n
  cases b with
  | true =>
    rw [if_pos rfl, BitVec.getLsbD_or, hbit]
    by_cases hn : i = n
    · rw [hn, h, Bool.true_or]
    · rw [decide_eq_false hn, Bool.or_false]
  | false =>
    rw [if_neg Bool.false_ne_true, BitVec.getLsbD_and, BitVec.getLsbD_not, hbit, decide_eq_true hi, Bool.true_and]
    by_cases hn : i = n
    · rw [hn, h, Bool.false_and]
    · rw [decide_eq_false hn, Bool.not_false, Bool.and_true]

theorem setFaultPin_same {n : Fin 4} {b : Bool} {p : Pins} (h : p.faults.getLsbD n.val = b) : setFaultPin n b p = p := by
  rw [setFaultPin, faultBit, setBit_same h]

theorem setInputPin_same {n : Fin 16} {b : Bool} {p : Pins} (h : p.inputs.getLsbD n.val = b) : setInputPin n b p = p := by
  rw [setInputPin, setBit_same h]

/-! ## One target of a fold -/

/-- In a fold over distinct places, what holds of a place before its step turns at that step alone. -/
theorem foldl_turns {m : Nat} {f : State → Fin m → State} {n : Fin m} {before after : State → Prop}
    (hbefore : ∀ s k, k ≠ n → before s → before (f s k)) (hturn : ∀ s, before s → after (f s n))
    (hafter : ∀ s k, k ≠ n → after s → after (f s k)) {s : State} (h : before s) :
    after ((List.finRange m).foldl f s) := by
  have hlist (l : List (Fin m)) (hnodup : l.Nodup) (hmem : n ∈ l) (u : State) (hu : before u) : after (l.foldl f u) := by
    induction l generalizing u with
    | nil => cases hmem
    | cons k l ih =>
      obtain ⟨hk, hrest⟩ := List.nodup_cons.mp hnodup
      rw [List.foldl_cons]
      rcases List.mem_cons.mp hmem with rfl | hin
      · refine List.foldlRecOn l f (motive := fun v => after v) (hturn u hu) fun v hv k hkl => hafter v k ?_ hv
        rintro rfl
        exact hk hkl
      · refine ih hrest hin _ (hbefore u k ?_ hu)
        rintro rfl
        exact hk hin
  exact hlist _ (List.nodup_finRange m) (List.mem_finRange n) s h

/-! ## A fault input -/

/-- The filtered level and the filter run after one sample (R121). -/
def FaultInput.Next (sample : Bool) (i j : FaultInput) : Prop :=
  (i.state = .off → j.asserted = i.asserted ∧ j.filterRun = i.filterRun) ∧
    (i.state ≠ .off → sample = i.asserted → j.asserted = i.asserted ∧ j.filterRun = 0) ∧
      (i.state ≠ .off → sample ≠ i.asserted → i.filterRun + 1 < i.filterLength →
        j.asserted = i.asserted ∧ j.filterRun = i.filterRun + 1) ∧
        (i.state ≠ .off → sample ≠ i.asserted → i.filterLength ≤ i.filterRun + 1 →
          j.asserted = sample ∧ j.filterRun = 0)

/-- The sampling of an input goes by its sampling fields. -/
theorem FaultInput.Next.congr {b : Bool} {i j x y : FaultInput} (h : i.Next b j) (hi : x.Sampled i) (hj : j.Sampled y) :
    x.Next b y := by
  obtain ⟨hasserted, hrun, hlength, _, hoff⟩ := hi
  unfold FaultInput.Next at *
  rwa [hj.asserted, hj.filterRun, ne_eq, ← hoff, ← hasserted, ← hrun, ← hlength]

theorem faultSample_eq (n : Fin 4) (s : State) :
    faultSample n s = (s.pins.faults.getLsbD n.val == (s.gu.inputs[n].polarity == .assertedHigh)) := by
  unfold faultSample
  cases s.gu.inputs[n].polarity <;> rfl

theorem setInput_self (n : Fin 4) (g : GuardUnit) : g.setInput n g.inputs[n] = g := by
  simp [GuardUnit.setInput]

theorem recognizeAssertion_coasts (n : Fin 4) (s : State) : Coasts s (recognizeAssertion n s) := by
  unfold recognizeAssertion
  split
  next h => exact activate_coasts h.1
  next => exact .refl s

theorem recognizeDeassertion_coasts (n : Fin 4) (s : State) : Coasts s (recognizeDeassertion n s) := by
  unfold recognizeDeassertion
  split
  next h => exact release_coasts h
  next => exact .refl s

/-- What one sample of FLTn does: the input takes its next level, and the rest coasts. -/
structure FaultStep (n : Fin 4) (s t : State) : Prop where
  next : ∃ i, s.gu.inputs[n].Next (faultSample n s) i ∧ Coasts { s with gu := s.gu.setInput n i } t
  pins : t.pins = s.pins
  cx : t.cx = s.cx

section
variable {n : Fin 4} {s : State} (hsampled : s.gu.inputs[n].state ≠ .off)
  (hdiffers : faultSample n s ≠ s.gu.inputs[n].asserted) (hpasses : s.gu.inputs[n].filterLength ≤ s.gu.inputs[n].filterRun + 1)
include hsampled hdiffers hpasses

theorem takeAssertion_step (hsample : faultSample n s = true) : FaultStep n s (takeAssertion n s) := by
  have hcan : canAssert n s = true := by
    rw [hsample] at hdiffers
    rw [canAssert, Bool.and_eq_true, bne_iff_ne, Bool.not_eq_true']
    exact ⟨hsampled, (Bool.not_eq_true _).mp hdiffers.symm⟩
  have hpin : setFaultPin n s.gu.inputs[n].polarity.assertedPin s.pins = s.pins :=
    setFaultPin_same (beq_iff_eq.mp hsample)
  have htaken : takeAssertion n s =
      settle (recognizeAssertion n { s with gu := s.gu.setInput n s.gu.inputs[n].assertLevel }) := by
    rw [takeAssertion, if_pos hcan, levelAsserted, hpin]
  rw [htaken]
  refine ⟨⟨s.gu.inputs[n].assertLevel, ⟨fun hoff => absurd hoff hsampled, fun _ hsame => absurd hsame hdiffers,
    fun _ _ hshort => absurd hpasses (Nat.not_le.mpr hshort), fun _ _ _ => ⟨hsample.symm, rfl⟩⟩,
    (settle_coasts _).after (recognizeAssertion_coasts n _)⟩, by simp, by simp⟩

theorem takeDeassertion_step (hsample : faultSample n s = false) : FaultStep n s (takeDeassertion n s) := by
  have hcan : canDeassert n s = true := by
    rw [hsample] at hdiffers
    rw [canDeassert, Bool.and_eq_true, bne_iff_ne]
    exact ⟨hsampled, Bool.eq_true_of_not_eq_false hdiffers.symm⟩
  have hpin : setFaultPin n (!s.gu.inputs[n].polarity.assertedPin) s.pins = s.pins := by
    refine setFaultPin_same ?_
    have hne := beq_eq_false_iff_ne.mp hsample
    exact Bool.eq_not.mpr hne
  have htaken : takeDeassertion n s =
      jwRun (recognizeDeassertion n { s with gu := s.gu.setInput n s.gu.inputs[n].deassertLevel }) := by
    rw [takeDeassertion, if_pos hcan, levelDeasserted, hpin]
  rw [htaken]
  refine ⟨⟨s.gu.inputs[n].deassertLevel, ⟨fun hoff => absurd hoff hsampled, fun _ hsame => absurd hsame hdiffers,
    fun _ _ hshort => absurd hpasses (Nat.not_le.mpr hshort), fun _ _ _ => ⟨hsample.symm, rfl⟩⟩,
    (jwRun_coasts _).after (recognizeDeassertion_coasts n _)⟩, by simp, by simp⟩

end

theorem sampleFault_step (s : State) (n : Fin 4) : FaultStep n s (sampleFault s n) := by
  unfold sampleFault
  split
  next hoff =>
    refine ⟨⟨s.gu.inputs[n], ⟨fun _ => ⟨rfl, rfl⟩, ?_⟩, by rw [setInput_self]; exact .refl s⟩, rfl, rfl⟩
    exact ⟨fun h => absurd hoff h, fun h => absurd hoff h, fun h => absurd hoff h⟩
  next hsampled =>
    split
    next hsame =>
      refine ⟨⟨{ s.gu.inputs[n] with filterRun := 0 }, ⟨fun h => absurd h hsampled, fun _ _ => ⟨rfl, rfl⟩,
        fun _ h => absurd hsame h, fun _ h => absurd hsame h⟩, .refl _⟩, rfl, rfl⟩
    next hdiffers =>
      split
      next hpasses =>
        have hlength := of_decide_eq_true hpasses
        split
        next hsample => exact takeAssertion_step hsampled hdiffers hlength hsample
        next hsample => exact takeDeassertion_step hsampled hdiffers hlength ((Bool.not_eq_true _).mp hsample)
      next hshort =>
        have hlength := of_decide_eq_false ((Bool.not_eq_true _).mp hshort)
        refine ⟨⟨{ s.gu.inputs[n] with filterRun := s.gu.inputs[n].filterRun + 1 }, ⟨fun h => absurd h hsampled,
          fun _ h => absurd h hdiffers, fun _ _ _ => ⟨rfl, rfl⟩, fun _ _ h => absurd h hlength⟩, .refl _⟩, rfl, rfl⟩

/-- The other inputs are as before. -/
theorem FaultStep.other {n k : Fin 4} {s t : State} (h : FaultStep n s t) (hk : k ≠ n) :
    s.gu.inputs[k].Sampled t.gu.inputs[k] := by
  obtain ⟨i, _, hcoasts⟩ := h.next
  have hsampled := hcoasts.inputs k
  rwa [setInput_other _ _ hk] at hsampled

theorem FaultStep.same {n : Fin 4} {s t : State} (h : FaultStep n s t) :
    s.gu.inputs[n].Next (faultSample n s) t.gu.inputs[n] := by
  obtain ⟨i, hnext, hcoasts⟩ := h.next
  have hsampled := hcoasts.inputs n
  rw [setInput_same] at hsampled
  exact hnext.congr (.refl _) hsampled

/-- The four fault inputs are sampled. -/
theorem sampleFaults_next (s : State) (n : Fin 4) :
    s.gu.inputs[n].Next (faultSample n s) ((List.finRange 4).foldl sampleFault s).gu.inputs[n] := by
  refine foldl_turns (n := n) (before := fun u => u.pins = s.pins ∧ s.gu.inputs[n].Sampled u.gu.inputs[n])
    (after := fun u => s.gu.inputs[n].Next (faultSample n s) u.gu.inputs[n]) ?_ ?_ ?_ ⟨rfl, .refl _⟩
  · intro u k hk ⟨hpins, hsampled⟩
    have hstep := sampleFault_step u k
    exact ⟨hstep.pins.trans hpins, (hstep.other (Ne.symm hk)).after hsampled⟩
  · intro u ⟨hpins, hsampled⟩
    have hsame : faultSample n u = faultSample n s := by
      rw [faultSample, faultSample, hpins, hsampled.polarity]
    have hnext := (sampleFault_step u n).same
    rw [hsame] at hnext
    exact hnext.congr hsampled (.refl _)
  · intro u k hk hnext
    exact hnext.congr (.refl _) ((sampleFault_step u k).other (Ne.symm hk))

/-- What the sampling leaves: the tick source, the pins, the transfer in flight. -/
structure Samples (s t : State) : Prop where
  tb : s.tb.SameSource t.tb
  bus : s.bp.KeepsFlight t.bp
  pins : t.pins = s.pins

theorem Samples.refl (s : State) : Samples s s := ⟨.refl _, .of_inFlight rfl, rfl⟩

theorem Samples.after {s t u : State} (k : Samples t u) (h : Samples s t) : Samples s u :=
  ⟨k.tb.after h.tb, k.bus.after h.bus, k.pins.trans h.pins⟩

theorem FaultStep.samples {n : Fin 4} {s t : State} (h : FaultStep n s t) : Samples s t := by
  obtain ⟨i, _, hcoasts⟩ := h.next
  exact ⟨hcoasts.tb, hcoasts.bus, h.pins⟩

theorem sampleFaults_samples (s : State) :
    Samples s ((List.finRange 4).foldl sampleFault s) ∧ ((List.finRange 4).foldl sampleFault s).cx = s.cx :=
  ⟨foldl_inv (Samples s) sampleFault (fun u n hu => (sampleFault_step u n).samples.after hu) _ s (.refl s),
    foldl_keeps _ State.cx (fun u n => (sampleFault_step u n).cx) _ s⟩

end Sys2Proof.Machine
end

/-! The sampling of the channels (R140), and the causes that stay over a period's samples. -/
section
namespace Sys2Proof.Machine

/-! ## A channel -/

/-- The channel after one sample. -/
def Channel.Next (sample : Bool) (c d : Channel) : Prop :=
  (c.enable = false → d = c) ∧
    (c.enable = true → sample = c.high → d = { c with filterRun := 0 }) ∧
      (c.enable = true → sample ≠ c.high → c.filterRun + 1 < c.filterLength →
        d = { c with filterRun := c.filterRun + 1 }) ∧
        (c.enable = true → sample ≠ c.high → c.filterLength ≤ c.filterRun + 1 → d.high = sample ∧ d.filterRun = 0)

theorem edgeLevel_edgeTo (b : Bool) : edgeLevel (edgeTo b) = b := by cases b <;> rfl

theorem edge_level (n : Fin 16) (t : Time) (e : Edge) (c : Channel) :
    (c.edge n t e).high = edgeLevel e ∧ (c.edge n t e).filterRun = 0 := by
  unfold Channel.edge
  dsimp only
  split <;> exact ⟨rfl, rfl⟩

theorem setChannel_self (n : Fin 16) (x : CaptureUnit) : x.setChannel n x.channels[n] = x := by
  simp [CaptureUnit.setChannel]

/-- What one sample of INn does: the channel takes its next state, and the rest coasts. -/
structure ChannelStep (n : Fin 16) (s t : State) : Prop where
  next : ∃ c, s.cx.channels[n].Next (s.pins.inputs.getLsbD n.val) c ∧ t.cx = s.cx.setChannel n c
  pins : t.pins = s.pins
  coasts : Coasts s t

theorem takeEdge_step {n : Fin 16} {s : State} (henabled : s.cx.channels[n].enable = true)
    (hdiffers : s.pins.inputs.getLsbD n.val ≠ s.cx.channels[n].high)
    (hpasses : s.cx.channels[n].filterLength ≤ s.cx.channels[n].filterRun + 1) :
    ChannelStep n s (takeEdge n (edgeTo (s.pins.inputs.getLsbD n.val)) s) := by
  obtain ⟨e, he⟩ : ∃ e, e = edgeTo (s.pins.inputs.getLsbD n.val) := ⟨_, rfl⟩
  have hlevel : edgeLevel e = s.pins.inputs.getLsbD n.val := by rw [he, edgeLevel_edgeTo]
  have hcan : canRecognize n e s = true := by
    rw [canRecognize, henabled, Bool.true_and, bne_iff_ne, hlevel]
    exact hdiffers.symm
  obtain ⟨v, hv⟩ : ∃ v, v = takeWaitTimeout s := ⟨_, rfl⟩
  have hcoasts : Coasts s v := by rw [hv]; exact takeWaitTimeout_coasts s
  have hpins : v.pins = s.pins := by simp [hv]
  have hcx : v.cx = s.cx := by simp [hv]
  have hpin : setInputPin n (edgeLevel e) v.pins = v.pins := setInputPin_same (by rw [hpins, hlevel])
  have hrecognized : Coasts v (recognizeEdge n e v) := .of_eq (by simp) (by simp) (by simp)
  obtain ⟨hhigh, hrun⟩ := edge_level n v.tb.tl e s.cx.channels[n]
  rw [← he, takeEdge, if_pos hcan, ← hv]
  refine ⟨⟨s.cx.channels[n].edge n v.tb.tl e, ⟨fun h => ?_, fun _ h => absurd h hdiffers,
    fun _ _ h => absurd hpasses (Nat.not_le.mpr h), fun _ _ _ => ⟨hhigh.trans hlevel, hrun⟩⟩, ?_⟩, ?_,
    (settle_coasts _).after (hrecognized.after hcoasts)⟩
  · rw [henabled] at h
    cases h
  · rw [(settle_frame _).1, recognizeEdge, (noticeEdge_frame _ _ _ _).2.2.2.2.1, hcx]
  · rw [(settle_frame _).2.1, recognizeEdge, (noticeEdge_frame _ _ _ _).2.2.2.2.2.2.2.1, hpin, hpins]

theorem sampleInput_step (s : State) (n : Fin 16) : ChannelStep n s (sampleInput s n) := by
  unfold sampleInput
  split
  next hoff =>
    refine ⟨⟨s.cx.channels[n], ⟨fun _ => rfl, ?_⟩, (setChannel_self n s.cx).symm⟩, rfl, .refl s⟩
    rw [hoff]
    exact ⟨nofun, nofun, nofun⟩
  next henabled =>
    have hdisabled {p : Prop} (h : s.cx.channels[n].enable = false) : p := absurd h henabled
    split
    next hsame =>
      exact ⟨⟨{ s.cx.channels[n] with filterRun := 0 }, ⟨hdisabled, fun _ _ => rfl, fun _ h => absurd hsame h,
        fun _ h => absurd hsame h⟩, rfl⟩, rfl, .of_eq rfl rfl rfl⟩
    next hdiffers =>
      split
      next hpasses =>
        exact takeEdge_step (Bool.eq_true_of_not_eq_false henabled) hdiffers (of_decide_eq_true hpasses)
      next hshort =>
        have hlength := of_decide_eq_false ((Bool.not_eq_true _).mp hshort)
        exact ⟨⟨{ s.cx.channels[n] with filterRun := s.cx.channels[n].filterRun + 1 }, ⟨hdisabled,
          fun _ h => absurd h hdiffers, fun _ _ _ => rfl, fun _ _ h => absurd h hlength⟩, rfl⟩, rfl, .of_eq rfl rfl rfl⟩

theorem ChannelStep.other {n k : Fin 16} {s t : State} (h : ChannelStep n s t) (hk : k ≠ n) :
    t.cx.channels[k] = s.cx.channels[k] := by
  obtain ⟨c, _, hcx⟩ := h.next
  rw [hcx, setChannel_other hk c s.cx]

theorem ChannelStep.same {n : Fin 16} {s t : State} (h : ChannelStep n s t) :
    s.cx.channels[n].Next (s.pins.inputs.getLsbD n.val) t.cx.channels[n] := by
  obtain ⟨c, hnext, hcx⟩ := h.next
  rwa [hcx, setChannel_same]

/-- The sixteen channels are sampled. -/
theorem sampleInputs_next (s : State) (n : Fin 16) :
    s.cx.channels[n].Next (s.pins.inputs.getLsbD n.val) ((List.finRange 16).foldl sampleInput s).cx.channels[n] := by
  refine foldl_turns (n := n) (before := fun u => u.pins = s.pins ∧ u.cx.channels[n] = s.cx.channels[n])
    (after := fun u => s.cx.channels[n].Next (s.pins.inputs.getLsbD n.val) u.cx.channels[n]) ?_ ?_ ?_ ⟨rfl, rfl⟩
  · intro u k hk ⟨hpins, hchannel⟩
    have hstep := sampleInput_step u k
    exact ⟨hstep.pins.trans hpins, (hstep.other (Ne.symm hk)).trans hchannel⟩
  · intro u ⟨hpins, hchannel⟩
    have hnext := (sampleInput_step u n).same
    rwa [hpins, hchannel] at hnext
  · intro u k hk hnext
    rwa [(sampleInput_step u k).other (Ne.symm hk)]

theorem sampleInputs_coasts (s : State) :
    Coasts s ((List.finRange 16).foldl sampleInput s) ∧ ((List.finRange 16).foldl sampleInput s).pins = s.pins :=
  ⟨Coasts.foldl (fun u n => (sampleInput_step u n).coasts) (List.finRange 16) s,
    foldl_keeps sampleInput State.pins (fun u n => (sampleInput_step u n).pins) (List.finRange 16) s⟩

/-- What the sampling of a period makes of the fault inputs and the channels. -/
theorem samplePeriod_next (s : State) :
    Samples s (samplePeriod s) ∧ (∀ n : Fin 4, s.gu.inputs[n].Next (faultSample n s) (samplePeriod s).gu.inputs[n]) ∧
      ∀ n : Fin 16, s.cx.channels[n].Next (s.pins.inputs.getLsbD n.val) (samplePeriod s).cx.channels[n] := by
  obtain ⟨hfaults, hcx⟩ := sampleFaults_samples s
  have hnext := sampleFaults_next s
  rw [samplePeriod]
  obtain ⟨u, hu⟩ : ∃ u, u = (List.finRange 4).foldl sampleFault s := ⟨_, rfl⟩
  rw [← hu] at hfaults hcx hnext ⊢
  have hchannels := sampleInputs_next u
  obtain ⟨hcoasts, hpins⟩ := sampleInputs_coasts u
  obtain ⟨v, hv⟩ : ∃ v, v = (List.finRange 16).foldl sampleInput u := ⟨_, rfl⟩
  rw [← hv] at hchannels hcoasts hpins ⊢
  have hsamples : Samples u v := ⟨hcoasts.tb, hcoasts.bus, hpins⟩
  refine ⟨hsamples.after hfaults, fun n => (hnext n).congr (.refl _) (hcoasts.inputs n), fun n => ?_⟩
  have hchannel := hchannels n
  rwa [hfaults.pins, hcx] at hchannel

/-! ## Causes -/

section
variable {P : State → Prop}

theorem Escalating.activate (h : Escalating P) (hactivations : Keeps P (count .guardActivations 1)) (n : Fin 4) :
    Keeps P (activate n) := by
  intro s hs
  have htripped : P (tripIfTrip n (activateInput n s)) := h.same hs (by simp) (by simp)
  have hreported : P (reportActivation n (tripIfTrip n (activateInput n s))) := by
    unfold reportActivation
    split
    · exact h.trips _ (hactivations _ (h.raise _ _ (h.raise _ _ (h.offer _ _ htripped))))
    · exact hactivations _ (h.raise _ _ (h.offer _ _ htripped))
  unfold Machine.activate notifyActivation
  split
  · exact hreported
  · exact h.osEvent _ _ hreported
  · exact h.same (h.osEvent _ _ hreported) rfl rfl
  · exact hreported

theorem Reporting.release (h : Reporting P) (n : Fin 4) : Keeps P (release n) := by
  intro s hs
  have hreported : P (reportRelease n (releaseInput n s)) := h.offer _ _ (h.same hs rfl rfl)
  unfold Machine.release notifyRelease
  split
  · exact hreported
  · exact h.osEvent _ _ hreported
  · exact h.same (h.osEvent _ _ hreported) rfl rfl
  · exact hreported

theorem Reporting.endWait (h : Reporting P) (w : Waiter) : Keeps P (endWait w) := by
  intro s hs
  have hoffered := h.offer (waitRecord s w.channel true) s hs
  unfold Machine.endWait
  dsimp only
  split
  · exact h.suFault _ _ (h.same hoffered rfl rfl)
  · exact h.same hoffered rfl rfl

theorem Reporting.suEdgeNotice (h : Reporting P) (n : Fin 16) (e : Edge) : Keeps P (suEdgeNotice n e) := by
  intro s hs
  unfold Machine.suEdgeNotice
  split
  · exact h.offer _ _ (h.same hs rfl rfl)
  · exact hs

theorem Reporting.recognizeEdge (h : Reporting P) (n : Fin 16) (e : Edge) : Keeps P (recognizeEdge n e) := by
  intro s hs
  have hoffer (r : Option Record) (u : State) (hu : P u) : P (offerSome r u) := by
    unfold offerSome
    split
    · exact h.offer _ _ hu
    · exact hu
  unfold Machine.recognizeEdge noticeEdge
  split
  · exact h.suEdgeNotice n e _ (hoffer _ _ (h.same hs rfl rfl))
  · exact hoffer _ _ (h.suEdgeNotice n e _ (h.same hs rfl rfl))

end

section
variable (c : Cause)

theorem settle_causeKept : Keeps (fun t => pendingCause c t = true) settle := fun _ hs => settle_pending hs

theorem jwRun_causeKept : Keeps (fun t => pendingCause c t = true) jwRun := by
  intro s hs
  have hrun : (jwRun s).ev = (jwPump s).ev := rfl
  rcases jwPump_ev s with hev | hev
  · rw [pendingCause, hrun, hev]
    exact hs
  · rw [pendingCause, hrun, hev, EventUnit.raise_getLsbD]
    exact Bool.or_eq_true _ _ |>.mpr (.inr hs)

theorem sampleFault_causeKept (n : Fin 4) {s : State} (h : pendingCause c s = true) :
    pendingCause c (sampleFault s n) = true := by
  unfold sampleFault
  repeat' split
  · exact h
  · exact h
  · unfold takeAssertion
    split
    · refine settle_causeKept c _ ?_
      unfold recognizeAssertion
      split
      · exact (cause_stays c).activate (fun _ hs => hs) n _ h
      · exact h
    · exact h
  · unfold takeDeassertion
    split
    · refine jwRun_causeKept c _ ?_
      unfold recognizeDeassertion
      split
      · exact (cause_stays c).toReporting.release n _ h
      · exact h
    · exact h
  · exact h

theorem sampleInput_causeKept (n : Fin 16) {s : State} (h : pendingCause c s = true) :
    pendingCause c (sampleInput s n) = true := by
  have hwaited : pendingCause c (takeWaitTimeout s) = true := by
    unfold takeWaitTimeout
    repeat' split
    · exact settle_causeKept c _ ((cause_stays c).toReporting.endWait _ s h)
    · exact h
    · exact h
  unfold sampleInput
  repeat' split
  · exact h
  · exact h
  · unfold takeEdge
    split
    · exact settle_causeKept c _ ((cause_stays c).toReporting.recognizeEdge n _ _ hwaited)
    · exact h
  · exact h

/-- What is pending stays so over the samples of a period. -/
theorem samplePeriod_causeKept {s : State} (h : pendingCause c s = true) : pendingCause c (samplePeriod s) = true :=
  foldl_inv (fun t => pendingCause c t = true) sampleInput (fun _ n ht => sampleInput_causeKept c n ht) _ _
    (foldl_inv (fun t => pendingCause c t = true) sampleFault (fun _ n ht => sampleFault_causeKept c n ht) _ _ h)

end

end Sys2Proof.Machine
end

/-! A REFCLK period of the Bus Port and of the timebase, and what precedes it (R1, R2, R189). -/
section
namespace Sys2Proof.Machine

/-! ## The events due and the admissions leave the pins and the channels -/

/-- What the samplers read. -/
def sampledPart (s : State) : Pins × CaptureUnit := (s.pins, s.cx)

theorem sampledPart_eq_iff {s t : State} : sampledPart t = sampledPart s ↔ t.pins = s.pins ∧ t.cx = s.cx := by
  simp [sampledPart]

theorem takeDue_sampledPart (s : State) : sampledPart (takeDue s) = sampledPart s := by
  have hrises (u : State) (n : Fin 16) : sampledPart (takeDeferredRise n u) = sampledPart u := by simp [sampledPart]
  have hfalls (u : State) (n : Fin 16) : sampledPart (takeLastFallDiscard n u) = sampledPart u := by simp [sampledPart]
  have hblanks (u : State) (n : Fin 4) : sampledPart (takeBlankEnd n u) = sampledPart u := by simp [sampledPart]
  have hholds (u : State) (n : Fin 4) : sampledPart (takeEscalation n u) = sampledPart u := by simp [sampledPart]
  have hlast (u : State) : sampledPart (takeFlushAge (takeSheetRecheck (takeLinkWatch u))) = sampledPart u := by
    simp [sampledPart]
  have hfirst : sampledPart (takeWaitTimeout (takeApplication (takeTimeRange s))) = sampledPart s := by
    simp [sampledPart]
  unfold takeDue
  dsimp only
  rw [hlast, foldl_keeps _ sampledPart hholds, foldl_keeps _ sampledPart hblanks, foldl_keeps _ sampledPart hfalls,
    foldl_keeps _ sampledPart hrises, hfirst]

theorem admitAll_sampledPart (s : State) : sampledPart (admitAll s) = sampledPart s :=
  foldl_keeps _ sampledPart (fun u _ => by simp [sampledPart]) _ _

/-- What comes before the period of the Bus Port. -/
theorem beforePeriod_coasts (s : State) :
    Coasts s (admitAll (takeDue s)) ∧ (admitAll (takeDue s)).pins = s.pins ∧ (admitAll (takeDue s)).cx = s.cx := by
  have hpart := (admitAll_sampledPart (takeDue s)).trans (takeDue_sampledPart s)
  exact ⟨(admitAll_coasts _).after (takeDue_coasts s), sampledPart_eq_iff.mp hpart⟩

/-! ## The Bus Port (R189) -/

theorem transferError_sampledPart (t : Transfer) (s : State) : sampledPart (transferError t s) = sampledPart s := by
  have hread {u : State} (hu : u = fetchError s ∨ u = busErrorRaised s) : sampledPart (settle u) = sampledPart s := by
    rcases hu with rfl | rfl <;> simp [sampledPart]
  unfold transferError
  split
  · exact hread (headerTaken_error t s)
  · exact hread (stepsTaken_error t s)
  · exact hread (linkTaken_error t s)
  · simp [sampledPart, retireEnd, retireTaken, retireError]
  all_goals simp [sampledPart, sheetReadEnd, recordEnd, sheetWriteEnd]

/-- The transfer in flight is a period older. -/
def aged (s : State) : State := { s with bp := s.bp.period }

theorem aged_inFlight {s : State} {f : Flight} (hf : s.bp.inFlight = some f) :
    (aged s).bp.inFlight = some { f with periods := f.periods + 1 } := by
  rw [aged, BusPort.period, hf]
  rfl

theorem aged_of_none {s : State} (h : s.bp.inFlight = none) : aged s = s := by
  have hsame : s.bp.period = s.bp := by
    unfold BusPort.period
    rw [h, Option.map_none, ← h]
  rw [aged, hsame]

theorem busPeriod_of_none {s : State} (h : s.bp.inFlight = none) : busPeriod s = s := by
  have hnot : responseOverdue (aged s).bp = false := by rw [aged_of_none h, responseOverdue, h]
  have hperiod : busPeriod s = aged s := if_neg (ne_true_of_eq_false hnot)
  rw [hperiod, aged_of_none h]

theorem busPeriod_of_young {s : State} {f : Flight} (hf : s.bp.inFlight = some f) (h : f.periods + 1 < 100000) :
    busPeriod s = aged s := by
  have hnot : responseOverdue (aged s).bp = false := by
    rw [responseOverdue, aged_inFlight hf]
    exact decide_eq_false (Nat.not_le.mpr h)
  exact if_neg (ne_true_of_eq_false hnot)

theorem busPeriod_of_old {s : State} {f : Flight} (hf : s.bp.inFlight = some f) (h : 100000 ≤ f.periods + 1) :
    busPeriod s = endTransfer (fun _ => true) transferError (aged s) := by
  have hdue : responseOverdue (aged s).bp = true := by
    rw [responseOverdue, aged_inFlight hf]
    exact decide_eq_true h
  exact if_pos hdue

/-- A period of the Bus Port leaves the tick source, the pins, the channels and the samples. -/
structure Waits (s t : State) : Prop where
  tb : s.tb.SameSource t.tb
  inputs : ∀ n : Fin 4, s.gu.inputs[n].Sampled t.gu.inputs[n]
  part : sampledPart t = sampledPart s

theorem Coasts.waits {s t : State} (h : Coasts s t) (hpart : sampledPart t = sampledPart s) : Waits s t :=
  ⟨h.tb, h.inputs, hpart⟩

theorem Waits.of_eq {s t : State} (htb : t.tb = s.tb) (hgu : t.gu = s.gu) (hpart : sampledPart t = sampledPart s) :
    Waits s t := ⟨by rw [htb]; exact .refl _, fun n => by rw [hgu]; exact .refl _, hpart⟩

theorem Waits.after {s t u : State} (k : Waits t u) (h : Waits s t) : Waits s u :=
  ⟨k.tb.after h.tb, fun n => (k.inputs n).after (h.inputs n), k.part.trans h.part⟩

theorem busPeriod_waits (s : State) : Waits s (busPeriod s) := by
  have haged : Waits s (aged s) := .of_eq rfl rfl rfl
  cases hf : s.bp.inFlight with
  | none =>
    rw [busPeriod_of_none hf]
    exact .of_eq rfl rfl rfl
  | some f =>
    rcases Nat.lt_or_ge (f.periods + 1) 100000 with hyoung | hold
    · rw [busPeriod_of_young hf hyoung]
      exact haged
    · rw [busPeriod_of_old hf hold]
      have hflight := aged_inFlight hf
      cases horphan : f.orphan with
      | true =>
        rw [endTransfer_of_orphan hflight horphan rfl]
        exact Waits.after (t := aged s) (.of_eq rfl rfl rfl) haged
      | false =>
        rw [endTransfer_of_owned hflight horphan rfl]
        have hfreed : Waits (aged s) (freed (aged s)) := by
          obtain ⟨htb, _, _, _, hgu, hcx, _, _, _, hpins, _⟩ := freed_frame (aged s)
          exact .of_eq htb hgu (Prod.ext hpins hcx)
        exact ((transferError_coasts _ _).waits (transferError_sampledPart _ _)).after (hfreed.after haged)

/-- A transfer whose response is overdue ends ERROR, and the next one is fresh. -/
theorem busPeriod_overdue {s : State} {f : Flight} (hf : s.bp.inFlight = some f) (h : 100000 ≤ f.periods + 1) :
    (∀ g, (busPeriod s).bp.inFlight = some g → g.periods = 0) ∧
      (f.orphan = false → pendingCause .busError (busPeriod s) = true) := by
  rw [busPeriod_of_old hf h]
  have hflight := aged_inFlight hf
  cases horphan : f.orphan with
  | true =>
    rw [endTransfer_of_orphan hflight horphan rfl]
    exact ⟨(grant_coasts (freeBus (aged s))).bus.fresh rfl, nofun⟩
  | false =>
    rw [endTransfer_of_owned hflight horphan rfl]
    obtain ⟨hseen, hfresh⟩ := transferError_errorEnd (s := freed (aged s)) rfl (freed_fresh (aged s)) f.transfer
    exact ⟨fun g hg => (hfresh g hg).1, fun _ => hseen.pending⟩

/-! ## The timebase (R1, R2) -/

theorem tick_source (advances : Bool) (b : Timebase) :
    (b.tick advances).tl = b.tl + 1#48 ∧ (b.tick advances).prescaleCount = b.prescaleCount ∧
      (b.tick advances).tbinPrevious = b.tbinPrevious := by
  unfold Timebase.tick
  repeat' split
  all_goals exact ⟨rfl, rfl, rfl⟩

/-- A period of the timebase: its source's period, and a tick if it brings one. -/
theorem timebasePeriod_tb (s : State) :
    (timebasePeriod s).tb.tl = (if s.tb.ticks s.pins.tbin = true then s.tb.tl + 1#48 else s.tb.tl) ∧
      (timebasePeriod s).tb.prescaleCount = (s.tb.period s.pins.tbin).prescaleCount ∧
        (timebasePeriod s).tb.tbinPrevious = s.pins.tbin := by
  have htl : (s.tb.period s.pins.tbin).tl = s.tb.tl := by
    unfold Timebase.period
    split <;> rfl
  have hprevious : (s.tb.period s.pins.tbin).tbinPrevious = s.pins.tbin := by
    unfold Timebase.period
    split <;> rfl
  unfold timebasePeriod
  dsimp only
  split
  · obtain ⟨ktl, kcount, kprevious⟩ :=
      tick_source (ptAdvances { s with tb := s.tb.period s.pins.tbin }) (s.tb.period s.pins.tbin)
    exact ⟨ktl.trans (by rw [htl]), kcount, kprevious.trans hprevious⟩
  · exact ⟨htl, rfl, hprevious⟩

theorem timebasePeriod_internal {s : State} (h : s.tb.source = .internal) :
    (s.tb.prescale.toNat ≤ s.tb.prescaleCount + 1 →
      (timebasePeriod s).tb.tl = s.tb.tl + 1#48 ∧ (timebasePeriod s).tb.prescaleCount = 0) ∧
      (s.tb.prescaleCount + 1 < s.tb.prescale.toNat →
        (timebasePeriod s).tb.tl = s.tb.tl ∧ (timebasePeriod s).tb.prescaleCount = s.tb.prescaleCount + 1) := by
  obtain ⟨htl, hcount, _⟩ := timebasePeriod_tb s
  have hticks : s.tb.ticks s.pins.tbin = decide (s.tb.prescale.toNat ≤ s.tb.prescaleCount + 1) := by
    rw [Timebase.ticks, h]
  have hperiod : (s.tb.period s.pins.tbin).prescaleCount =
      if s.tb.prescale.toNat ≤ s.tb.prescaleCount + 1 then 0 else s.tb.prescaleCount + 1 := by
    rw [Timebase.period, h]
  rw [hticks] at htl
  rw [hperiod] at hcount
  refine ⟨fun hfull => ?_, fun hshort => ?_⟩
  · rw [htl, hcount, if_pos (decide_eq_true hfull), if_pos hfull]
    exact ⟨rfl, rfl⟩
  · have hnot := Nat.not_le.mpr hshort
    rw [htl, hcount, if_neg (ne_true_of_eq_false (decide_eq_false hnot)), if_neg hnot]
    exact ⟨rfl, rfl⟩

theorem tbinTicks_iff (b : Timebase) (now : Bool) :
    tbinTicks b now = true ↔ (b.tbinEdge = .rise ∧ b.tbinPrevious = false ∧ now = true) ∨
      (b.tbinEdge = .fall ∧ b.tbinPrevious = true ∧ now = false) := by
  unfold tbinTicks
  cases b.tbinEdge <;> simp

theorem timebasePeriod_external {s : State} (h : s.tb.source = .external) :
    (tbinTicks s.tb s.pins.tbin = true → (timebasePeriod s).tb.tl = s.tb.tl + 1#48) ∧
      (¬tbinTicks s.tb s.pins.tbin = true → (timebasePeriod s).tb.tl = s.tb.tl) := by
  obtain ⟨htl, _⟩ := timebasePeriod_tb s
  have hticks : s.tb.ticks s.pins.tbin = tbinTicks s.tb s.pins.tbin := by rw [Timebase.ticks, h]
  rw [hticks] at htl
  exact ⟨fun hedge => htl.trans (if_pos hedge), fun hnone => htl.trans (if_neg hnone)⟩

end Sys2Proof.Machine
end

/-! O3, put together. -/
section
namespace Sys2Proof.Machine

theorem BusPort.KeepsFlight.young {b c : BusPort} (h : b.KeepsFlight c)
    (hb : ∀ g, b.inFlight = some g → g.periods = 0) (g : Flight) (hg : c.inFlight = some g) : g.periods = 0 := by
  cases hf : b.inFlight with
  | none => exact h.fresh hf g hg
  | some f =>
    obtain ⟨x, hx, hsame⟩ := h.kept f hf
    rw [Option.some.inj (hg.symm.trans hx), hsame.periods]
    exact hb f hf

/-- The state after the events due, the admissions and the periods of the Bus Port and of the samplers. -/
def sampledState (s : State) : State := samplePeriod (busPeriod (admitAll (takeDue s)))

theorem idle_of_running {s : State} (h : s.resetAsserted = false) : idle s = timebasePeriod (sampledState s) :=
  if_neg (by rw [h]; decide)

theorem idle_of_reset {s : State} (h : s.resetAsserted = true) : idle s = busPeriod s := if_pos h

theorem step_of_none {s : State} (h : s.pending = []) : step s = .next (idle s) := by rw [step, h]

/-- What the period has made of each sampler's state, of the samples of its beginning. -/
theorem sampledState_parts (s : State) :
    s.tb.SameSource (sampledState s).tb ∧ (sampledState s).pins = s.pins ∧
      (∀ n : Fin 4, s.gu.inputs[n].Next (faultSample n s) (sampledState s).gu.inputs[n]) ∧
        ∀ n : Fin 16, s.cx.channels[n].Next (s.pins.inputs.getLsbD n.val) (sampledState s).cx.channels[n] := by
  obtain ⟨hbefore, hpins, hcx⟩ := beforePeriod_coasts s
  have hwaits := (busPeriod_waits (admitAll (takeDue s))).after (hbefore.waits (sampledPart_eq_iff.mpr ⟨hpins, hcx⟩))
  rw [sampledState]
  obtain ⟨u, hu⟩ : ∃ u, u = busPeriod (admitAll (takeDue s)) := ⟨_, rfl⟩
  rw [← hu] at hwaits ⊢
  obtain ⟨htb, hinputs, hpart⟩ := hwaits
  obtain ⟨upins, ucx⟩ := sampledPart_eq_iff.mp hpart
  obtain ⟨hsamples, hfaults, hchannels⟩ := samplePeriod_next u
  refine ⟨hsamples.tb.after htb, hsamples.pins.trans upins, fun n => ?_, fun n => ?_⟩
  · have hsame : faultSample n u = faultSample n s := by
      rw [faultSample, faultSample, upins, (hinputs n).polarity]
    have hnext := hfaults n
    rw [hsame] at hnext
    exact hnext.congr (hinputs n) (.refl _)
  · have hnext := hchannels n
    rwa [upins, ucx] at hnext

/-- What a period makes of the transfer in flight (R189). -/
def FlightAged (f : Flight) (t : State) : Prop :=
  (f.periods + 1 < 100000 → ∃ g, t.bp.inFlight = some g ∧ g.periods = f.periods + 1 ∧ g.orphan = f.orphan ∧
    g.transfer.kind = f.transfer.kind ∧ g.transfer.address = f.transfer.address) ∧
    (100000 ≤ f.periods + 1 → (∀ g, t.bp.inFlight = some g → g.periods = 0) ∧
      (f.orphan = false → pendingCause .busError t = true))

theorem busPeriod_flightAged {s : State} {f : Flight} (hf : s.bp.inFlight = some f) : FlightAged f (busPeriod s) := by
  refine ⟨fun hyoung => ?_, busPeriod_overdue hf⟩
  rw [busPeriod_of_young hf hyoung]
  exact ⟨_, aged_inFlight hf, rfl, rfl, rfl, rfl⟩

theorem sampledState_flightAged {s : State} {f : Flight} (hf : s.bp.inFlight = some f) :
    FlightAged f (sampledState s) := by
  obtain ⟨hbefore, _⟩ := beforePeriod_coasts s
  obtain ⟨g, hg, hsame⟩ := hbefore.bus.kept f hf
  obtain ⟨hyoung, hold⟩ := busPeriod_flightAged hg
  rw [sampledState]
  obtain ⟨u, hu⟩ : ∃ u, u = busPeriod (admitAll (takeDue s)) := ⟨_, rfl⟩
  rw [← hu] at hyoung hold ⊢
  rw [hsame.periods] at hyoung hold
  obtain ⟨hsamples, _⟩ := samplePeriod_next u
  refine ⟨fun h => ?_, fun h => ?_⟩
  · obtain ⟨x, hx, hperiods, horphan, hkind, haddress⟩ := hyoung h
    obtain ⟨y, hy, hnext⟩ := hsamples.bus.kept x hx
    exact ⟨y, hy, hnext.periods.trans hperiods, hnext.orphan.trans (horphan.trans hsame.orphan),
      hnext.kind.trans (hkind.trans hsame.kind), hnext.address.trans (haddress.trans hsame.address)⟩
  · obtain ⟨hfresh, herror⟩ := hold h
    exact ⟨hsamples.bus.young hfresh, fun horphan => samplePeriod_causeKept .busError (herror (hsame.orphan.trans horphan))⟩

/-- Settles O3: the timebase, the filters and the transfer in flight, each over one period. -/
theorem emptyQueuePassesAPeriod : Obligations.EmptyQueuePassesAPeriod := by
  intro s hempty
  rw [step_of_none hempty]
  obtain ⟨hsource, hpins, hfaults, hchannels⟩ := sampledState_parts s
  refine ⟨fun hreset hnone => ?_, fun hrunning hinternal => ⟨_, rfl, ?_⟩, fun hrunning hexternal => ⟨_, rfl, ?_⟩,
    fun hrunning => ⟨_, rfl, fun n => ?_, fun n => ?_⟩, fun f hf => ⟨_, rfl, ?_⟩⟩
  · rw [idle_of_reset hreset, busPeriod_of_none hnone]
  · have hperiod := timebasePeriod_internal (s := sampledState s) (hsource.source.trans hinternal)
    rw [hsource.tl, hsource.prescale, hsource.prescaleCount] at hperiod
    rw [idle_of_running hrunning]
    exact hperiod
  · obtain ⟨_, _, hprevious⟩ := timebasePeriod_tb (sampledState s)
    obtain ⟨hticks, hstands⟩ := timebasePeriod_external (s := sampledState s) (hsource.source.trans hexternal)
    rw [tbinTicks_iff, hsource.tbinEdge, hsource.tbinPrevious, hpins, hsource.tl] at hticks hstands
    rw [idle_of_running hrunning]
    exact ⟨hprevious.trans (by rw [hpins]), hticks, hstands⟩
  · have hnext := hfaults n
    rw [faultSample_eq] at hnext
    rw [idle_of_running hrunning]
    simp only [timebasePeriod_frame]
    exact hnext
  · have hnext := hchannels n
    rw [idle_of_running hrunning]
    simp only [timebasePeriod_frame]
    exact hnext
  · cases hreset : s.resetAsserted with
    | true =>
      rw [idle_of_reset hreset]
      exact busPeriod_flightAged hf
    | false =>
      have haged := sampledState_flightAged hf
      rw [idle_of_running hreset]
      simp only [pendingCause, timebasePeriod_frame]
      exact haged

end Sys2Proof.Machine
end
